-- ==== Sys2Proof/Word.lean ====
section
/-! DEFINITION. The word types of the Carbelon 1640 (Introduction, "Units of data") and the fixed-size table `Tab`
that holds "one per lane", "one per slot" and "one per generator" pieces of state. -/

namespace Sys2Proof

/-- An octet: 8 bits. -/
abbrev Octet := BitVec 8
/-- A word: 32 bits, as carried on a lane. -/
abbrev Word := BitVec 32
/-- A two-octet quantity: a frame number, an epoch, a lane mask, a parameter value, a 16-bit count. -/
abbrev Num := BitVec 16
/-- An ingress lane IN0 to IN15 or an egress lane OUT0 to OUT15. -/
abbrev LaneId := Fin 16
/-- A payload slot S0 to S39. -/
abbrev SlotId := Fin 40
/-- A generator G0 to G3. -/
abbrev GenId := Fin 4
/-- A checker K0 to K3. -/
abbrev CheckerId := Fin 4

/-- A table of exactly `n` entries, plain data. -/
structure Tab (n : Nat) (α : Type) where
  toList : List α
  size_eq : toList.length = n
  deriving DecidableEq, Repr

/-- Entry `i` of a table. -/
def Tab.get {n : Nat} {α : Type} (t : Tab n α) (i : Fin n) : α :=
  t.toList[i.val]'(by rw [t.size_eq]; exact i.isLt)

/-- The table with entry `i` replaced. -/
def Tab.set {n : Nat} {α : Type} (t : Tab n α) (i : Fin n) (a : α) : Tab n α :=
  ⟨t.toList.set i.val a, by rw [List.length_set]; exact t.size_eq⟩

/-- The table whose entry `i` is `f i`. -/
def Tab.ofFn {n : Nat} {α : Type} (f : Fin n → α) : Tab n α :=
  ⟨List.ofFn f, List.length_ofFn⟩

/-- The table with the same entry everywhere. -/
def Tab.fill (n : Nat) {α : Type} (a : α) : Tab n α :=
  ⟨List.replicate n a, List.length_replicate⟩

end Sys2Proof
end

