-- ==== Sys2Proof/Syntax.lean ====
section
/-! DEFINITION. The commands of the block: one constructor for each row of spec/opcode_table.json. The table gives a
row no operand bits ("fields" is empty), so the operands below are the quantities the row's rule speaks of. -/

namespace Sys2Proof

/-- The steps of the part, each whole and indivisible (95_what_each_step_holds). The constructors of the first group
are events on the part's lines; those of the second are steps the part takes itself once they are due. -/
inductive Instr where
  /-- R162: RESETn, with the level of ADDR4 to ADDR0 that the reset reads (R106). -/
  | powerOnReset (straps : BitVec 5)
  /-- R1: the line receiver of an ingress lane hands on a word with its code-error flag. -/
  | wordArrival (lane : LaneId) (word : Word) (flagged : Bool)
  /-- R13: the line receiver of an ingress lane reports signal absence. -/
  | signalAbsence (lane : LaneId)
  /-- R39: the local frame timer runs out. -/
  | localFrameTimerExpiry
  /-- R42: a rising edge on REFIN; `early` says that it came less than one half of a nominal frame period after the
  previous accepted pulse. -/
  | refinPulse (early : Bool)
  /-- R43: the REFIN window runs out. -/
  | refinMiss
  /-- R86: the service word of the oldest frame in sending has been sent. -/
  | serviceWordEmitted
  /-- R163: the load attempt in progress ends; the octets are what the flash returned from address 0 on. -/
  | imageAttemptEnd (octets : List Octet)
  /-- R60: the end of the copy, at the start that copied OUT15. -/
  | copyDone
  /-- R99: the end of a checker's run, at the start that brought its frames remaining to 0. -/
  | checkDone (checker : CheckerId)
  /-- R35: the end of the survey, at the start that brought its frames remaining to 0. -/
  | surveyDone
  /-- R112: the owed ABORT is stored. -/
  | owedAbortStored
  /-- R114: the unicast request at the head of the intake is executed. -/
  | requestExecution
  /-- R117: the group copy at the head of the intake is executed. -/
  | groupCopyExecution
  /-- R154: a notice message is built and placed. -/
  | noticeMessageBuild
  /-- R152: an owed copy of the outstanding notice message is placed. -/
  | noticeCopyPlacement
  /-- R155: the retransmission timer has run out. -/
  | retransmissionTimerExpiry
  /-- R164: the next load attempt begins. -/
  | imageAttemptBegin
  deriving DecidableEq, Repr

end Sys2Proof
end

