-- ==== Sys2Proof/Config.lean ====
section
/-! DEFINITION. The fixed sizes and patterns of the Carbelon 1640, and the one choice its manual leaves open inside a
step. -/

namespace Sys2Proof.Config

/-- The marker pattern in the upper half of a marker word (Introduction, "The lane frame"; R2). -/
def markerPattern : Num := 0x2D71#16
/-- Records an Elastic Store holds (R21). -/
abbrev storeDepth : Nat := 4
/-- Words the forward FIFO holds (R111). -/
abbrev fifoDepth : Nat := 128
/-- Messages the request intake holds (R114). -/
abbrev intakeDepth : Nat := 2
/-- Messages the outgoing queue holds (R113, R115). -/
abbrev queueDepth : Nat := 4
/-- Entries the reply cache holds (R116). -/
abbrev cacheDepth : Nat := 4
/-- Entries the notice list holds (R149). -/
abbrev listDepth : Nat := 16
/-- Entries a notice message carries at most (R154). -/
abbrev messageEntries : Nat := 8
/-- Message octets a message carries at most (R104, R129). -/
abbrev bodyLimit : Nat := 186
/-- Items a request carries at most (R114). -/
abbrev itemLimit : Nat := 16
/-- Where a qualification count stops (R41, R42). -/
abbrev countCeiling : Nat := 1024
/-- Consecutive errored words that lose track (R98). -/
abbrev trackLimit : Nat := 8
/-- Words after the seed that confirm a detection round (R96). -/
abbrev confirmWords : Nat := 4
/-- Attempts of one load (R164). -/
abbrev attemptLimit : Nat := 8
/-- Octets of the longest image (R163). -/
abbrev imageLimit : Nat := 8192
/-- What a serial read of the flash begins with: the read command, then the 3-octet address 0 (R163). -/
def readCommand : List (BitVec 8) := [0x03#8, 0x00#8, 0x00#8, 0x00#8]
/-- The marker at the head of the start-up image (section 10.2). -/
def imageMarker : Num := 0x5C1E#16
/-- Forwarded messages that may pass over a ready local message (R120). -/
abbrev passOverLimit : Nat := 2
/-- Frames ahead within which a commit target must lie (R63). -/
abbrev windowLimit : Nat := 32767

/-- FREE VALUE (assumption log 3). At one master frame start the receive parser may store a word in the forward FIFO
(R107, R111) and the egress arbiter may remove one (R119); with the FIFO full, the word overflows (R112) or finds room
according to which is taken first, and the manual gives no order. `true` at draw `k`: the parser is taken first at the
`k`-th start that meets a full FIFO. Nothing constrains it. -/
opaque parserFirst : Nat → Bool

end Sys2Proof.Config
end

