-- ==== Sys2Proof/Machine/State.lean ====
section
/-! DEFINITION. The state of the Carbelon 1640, block by block as Table I-1 of the Introduction lists the blocks, and
its value after power-on reset. All of it is plain data. -/

namespace Sys2Proof.Machine

/-! ### Lane Receivers (Section 1) -/

/-- Alignment state of a Lane Receiver. -/
inductive Align where
  | off | seek | confirm | sync | drift
  deriving DecidableEq, Repr

/-- A received word with the code-error flag that travels with it (section 1.1). -/
structure Heard where
  content : Word
  flagged : Bool
  deriving DecidableEq, Repr

/-- A frame record (R14, R21): frame number, the 40 payload words with their flags, the service word with its flag. -/
structure FrameRecord where
  number : Num
  payload : Tab 40 Heard
  service : Heard
  deriving DecidableEq, Repr

/-- The frame under assembly (R14): its number and the payload words gathered so far, S0 first. -/
structure Assembly where
  number : Num
  payload : List Heard
  deriving DecidableEq, Repr

/-- State of one Lane Receiver (Section 1, state table; R20). -/
structure Lane where
  align : Align
  /-- expected position of the next word; kept in CONFIRM, SYNC and DRIFT -/
  position : Fin 42
  /-- last frame number -/
  last : Num
  /-- confirm count -/
  confirmed : Nat
  /-- miss count -/
  missed : Nat
  assembly : Option Assembly
  markerMisses : Num
  codeErrors : Num
  numberJumps : Num
  syncLosses : Num
  deriving DecidableEq, Repr

/-! ### Elastic Stores and the Lane Survey (Section 2) -/

/-- Store state. -/
inductive StoreState where
  | idle | filling | running
  deriving DecidableEq, Repr

/-- State of one Elastic Store (Section 2; R30). The fill is the number of records. -/
structure Store where
  state : StoreState
  records : List FrameRecord
  underSlips : Num
  overSlips : Num
  deriving DecidableEq, Repr

/-- Survey state. -/
inductive SurveyState where
  | idle | running | done | aborted
  deriving DecidableEq, Repr

/-- The survey record (section 2.5; R38). -/
structure Survey where
  state : SurveyState
  lane : LaneId
  frameCount : Num
  remaining : Num
  observed : Num
  minFill : Option Nat
  maxFill : Option Nat
  underSlips : Num
  overSlips : Num
  syncLosses : Num
  markerMisses : Num
  slotErrors : Tab 40 Num
  first : Option Num
  last : Option Num
  deriving DecidableEq, Repr

/-! ### Frame Timing Unit (Section 3) -/

/-- Timing state. -/
inductive TimingState where
  | freerun | primary | secondary | holdover
  deriving DecidableEq, Repr

/-- A timing source: an ingress lane or REFIN (section 3.2). -/
inductive Source where
  | lane (l : LaneId)
  | refin
  deriving DecidableEq, Repr

/-- A qualification record: whether the source is qualified, and its count, 0 to 1024. -/
structure Qualification where
  qualified : Bool
  count : Nat
  deriving DecidableEq, Repr

/-- The REFIN window (R42): stopped; running since an accepted pulse, to run out one and one half periods after it;
running since its own latest expiry, to run out one period after it. -/
inductive Window where
  | stopped | sincePulse | sinceMiss
  deriving DecidableEq, Repr

/-- The local frame timer is always running (R39); this is the event it was last started or restarted by. -/
inductive TimerOrigin where
  | reset | start | expiry
  deriving DecidableEq, Repr

/-- State of the Frame Timing Unit (Section 3, state table; R52). -/
structure Timing where
  state : TimingState
  source : Option Source
  laneQual : Tab 16 Qualification
  refinQual : Qualification
  missRun : Nat
  window : Window
  /-- a previous accepted pulse is held, against which a pulse can be early (R42, R52) -/
  pulseHeld : Bool
  timer : TimerOrigin
  /-- master frame number of the latest start -/
  number : Num
  /-- step count -/
  steps : Num
  deriving DecidableEq, Repr

/-! ### Connection Map (Section 4) -/

/-- Loss action of a LANE entry; the fill word is present only with FILL (R53). -/
inductive LossAction where
  | fill (word : Word) | hold | pass
  deriving DecidableEq, Repr

/-- A map entry (R53). -/
inductive Entry where
  | fill (word : Word)
  | lane (source : LaneId) (slot : SlotId) (loss : LossAction)
  | gen (g : GenId)
  deriving DecidableEq, Repr

/-- A bank: one entry for each egress position (egress lane, slot). -/
abbrev Bank := Tab 16 (Tab 40 Entry)

/-- The two physical banks. -/
inductive BankName where
  | a | b
  deriving DecidableEq, Repr

/-- The commit record (R62). -/
inductive CommitRecord where
  | none
  | next
  | frame (f : Num)
  deriving DecidableEq, Repr

/-- State of the Connection Map (Section 4, state table; R73). The SHADOW bank is the one that is not `active`.
`copy` is `none` in IDLE; `some k` in RUNNING with `k` lanes copied, which is next lane `k` for `k` up to 15. At
`some 16` the start that copied OUT15 has been taken and the end of the copy (R60) is due. -/
structure ConnectionMap where
  bankA : Bank
  bankB : Bank
  active : BankName
  epoch : Num
  commit : CommitRecord
  copy : Option Nat
  deriving DecidableEq, Repr

/-! ### Egress Framers (Section 5) -/

/-- One egress frame (R82): its marker word, which carries the pattern and the number (R83), its payload, its service
word. -/
structure EgressFrame where
  marker : Word
  payload : Tab 40 Word
  service : Word
  deriving DecidableEq, Repr

/-- The frames of one master frame start, one for each egress lane that is ON at it, and whether the arbiter's word
of the start is the TAIL of a message of the outgoing queue (R86, R115). -/
structure FrameSet where
  frames : Tab 16 (Option EgressFrame)
  localTail : Bool
  deriving DecidableEq, Repr

/-- State of the Egress Framers: enable state of each, and the frames in sending, oldest start first (R82). -/
structure Egress where
  enabled : Tab 16 Bool
  sending : List FrameSet
  deriving DecidableEq, Repr

/-! ### Test Sequence Unit (Section 6) -/

/-- The known sequences (R90). -/
inductive SequenceKind where
  | count | pr13 | pr19 | pr29
  deriving DecidableEq, Repr

/-- A generator: its kind, `none` for OFF, and its next word. The sequence state is the next word itself for COUNT and
its latest 13, 19 or 29 bits for a PR kind, which fix every later bit (R90). -/
structure Generator where
  kind : Option SequenceKind
  nextWord : Word
  deriving DecidableEq, Repr

/-- A candidate of a detection round with the word it predicts next (R95). -/
structure Candidate where
  kind : SequenceKind
  inverted : Bool
  predicted : Word
  deriving DecidableEq, Repr

/-- A detection round in progress: its seed, the candidates standing in order of preference, and how many words after
the seed have been compared (R96). -/
structure Round where
  seed : Word
  standing : List Candidate
  compared : Nat
  deriving DecidableEq, Repr

/-- Checker state. -/
inductive CheckerState where
  | idle | detect | track | done
  deriving DecidableEq, Repr

/-- Checker result (R99 to R101). -/
inductive CheckResult where
  | clean | errors | notFound | stopped | laneLost
  deriving DecidableEq, Repr

/-- A checker's record (section 6.3) and its working state. -/
structure Checker where
  state : CheckerState
  lane : LaneId
  slot : SlotId
  frameCount : Num
  remaining : Num
  /-- detected kind and inverted flag -/
  detected : Option (SequenceKind × Bool)
  compared : Word
  errored : Word
  bitErrors : Word
  lost : Num
  result : Option CheckResult
  round : Option Round
  reference : Word
  /-- run of consecutive errored words -/
  erroredRun : Nat
  tracked : Bool
  deriving DecidableEq, Repr

/-! ### Service Channel Unit (Section 7) and item statuses (Table 8-1) -/

/-- Item statuses (Table 8-1). -/
inductive ItemStatus where
  | done | started | busy | pending | noCommit | badArgument | outOfRange | outOfWindow | notAllowed | notInGroup
  | unknownKind | tooLong | skipped | nothingOutstanding | stale
  deriving DecidableEq, Repr

/-- Disposition of an open message (R107). -/
inductive Disposition where
  | consume | forward | both
  deriving DecidableEq, Repr

/-- The open message of the parser in IN_MESSAGE: its disposition, word count, HEAD content and the content octets of
its BODY words. `storing` holds while every word of its forwarded copy has been stored in the forward FIFO; it is clear
under CONSUME, for a copy whose HEAD overflowed and for a truncated copy (R112). -/
structure OpenMessage where
  disposition : Disposition
  count : Nat
  dest : Octet
  src : Octet
  mtype : Octet
  octets : List Octet
  storing : Bool
  deriving DecidableEq, Repr

/-- A word of the forward FIFO with the ordinal, since reset, of the master frame start at which, or after which, it
entered (R111). -/
structure ForwardWord where
  word : Word
  entered : Nat
  deriving DecidableEq, Repr

/-- A message of the request intake: a unicast request (R113) or a group copy (R117). -/
structure IntakeMessage where
  group : Bool
  dest : Octet
  mtype : Octet
  octets : List Octet
  check : Num
  deriving DecidableEq, Repr

/-- What a message of the outgoing queue is: the reply placed by the request execution of that serial number, a BUSY
reply or a replay from the cache, or a notice message (R115). -/
inductive OutgoingKind where
  | reply (serial : Nat)
  | answer
  | notice
  deriving DecidableEq, Repr

/-- A message of the outgoing queue: its words, how many of them the arbiter has given, and the ordinal of the latest
start before its placement (R115, R119). -/
structure OutgoingMessage where
  kind : OutgoingKind
  words : List Word
  given : Nat
  placed : Nat
  deriving DecidableEq, Repr

/-- Egress arbiter state (R119). -/
inductive Arbiter where
  | between | sendingForward | sendingLocal
  deriving DecidableEq, Repr

/-- An entry of the reply cache: the key (tag and check code) and the reply's words (R116). -/
structure CacheEntry where
  tag : Octet
  check : Num
  words : List Word
  deriving DecidableEq, Repr

/-- The group result record (R118). -/
structure GroupRecord where
  tag : Octet
  group : Octet
  executed : Nat
  /-- index, 1 to 16, and status of the first item that failed -/
  firstFailure : Option (Nat × ItemStatus)
  frame : Num
  dropped : Num
  deriving DecidableEq, Repr

/-- State of the Service Channel Unit (Section 7, state table; R124). -/
structure Channel where
  /-- `none` in BETWEEN -/
  parser : Option OpenMessage
  fifo : List ForwardWord
  abortOwed : Bool
  intake : List IntakeMessage
  outgoing : List OutgoingMessage
  arbiter : Arbiter
  passOver : Nat
  cache : List CacheEntry
  badCheck : Num
  stray : Num
  forwardOverflow : Num
  requestDropped : Num
  group : GroupRecord
  mgmtIngress : LaneId
  mgmtEgress : LaneId
  deriving DecidableEq, Repr

/-! ### Request Dispatcher (Sections 7 and 8) -/

/-- What holds a pending lane change: the unicast request of that serial number, or the start-up image (R121, R122). -/
inductive Holder where
  | request (serial : Nat)
  | image
  deriving DecidableEq, Repr

/-- Lane-change-pending (R121). `armed`: the TAIL of the holding request's reply has been reported emitted, so that the
change takes effect at the next start (R122). -/
structure LaneChange where
  ingress : Option LaneId
  egress : Option LaneId
  holder : Holder
  armed : Bool
  deriving DecidableEq, Repr

/-- The Request Dispatcher's two marks, restart-pending with the serial number of the RESTART request whose reply it
waits for; and the serial number of the next unicast execution, by which a reply is known again. -/
structure Dispatcher where
  restart : Option Nat
  change : Option LaneChange
  nextSerial : Nat
  deriving DecidableEq, Repr

/-! ### Notice Unit (Section 9) -/

/-- Notice kinds (Table 9-1). -/
inductive NoticeKind where
  | startUp | syncGained | syncLost | slip | timingChange | numberStep | commitDone | copyDone | reloadDone | checkDone
  | checkLost | surveyDone | forwardOverflow | requestDropped | overflow
  deriving DecidableEq, Repr

/-- Subject of a notice. -/
inductive Subject where
  | lane (l : LaneId)
  | checker (c : CheckerId)
  | none
  deriving DecidableEq, Repr

/-- An entry of the notice list (Section 9). -/
structure NoticeEntry where
  kind : NoticeKind
  subject : Subject
  /-- repeat count, 1 to 255 -/
  repeats : Octet
  frame : Num
  data : List Octet
  carried : Bool
  deriving DecidableEq, Repr

/-- NTU state. -/
inductive NoticeState where
  | ready | awaiting | stalled
  deriving DecidableEq, Repr

/-- Copy position (R152). `owed counts`: a copy waits for a slot; its placement counts as a retry after an expiry
(R155) and does not count after a return from STALLED (R157). -/
inductive CopyPosition where
  | idle | queued | timing
  | owed (counts : Bool)
  deriving DecidableEq, Repr

/-- The outstanding notice message (R154): sequence number, the entries carried and the message as built. -/
structure Outstanding where
  seq : Octet
  entries : List NoticeEntry
  words : List Word
  deriving DecidableEq, Repr

/-- State of the Notice Unit (Section 9, state table; R160). `timer` is `none` when stopped and `some r` with `r` frames
remaining; at `some 0` the expiry (R155) is due. -/
structure NoticeUnit where
  list : List NoticeEntry
  state : NoticeState
  outstanding : Option Outstanding
  copy : CopyPosition
  timer : Option Num
  retries : Nat
  nextSeq : Octet
  lost : Num
  /-- the ALERT line, true when asserted (R151) -/
  alert : Bool
  deriving DecidableEq, Repr

/-! ### Image Loader (Section 10) -/

/-- Loader state (R161). -/
inductive LoaderState where
  | loading | loaded | defaults | reloading
  deriving DecidableEq, Repr

/-- The reset that began the current start-up load. -/
inductive Cause where
  | powerOn | restart
  deriving DecidableEq, Repr

/-- Loader result. -/
inductive LoadResult where
  | none | loaded | absent | failed
  deriving DecidableEq, Repr

/-- Whether a further attempt of the current load waits for a master frame start, or that start has been taken and the
attempt is due (R164). -/
inductive NextAttempt where
  | none | awaitsStart | due
  deriving DecidableEq, Repr

/-- State of the Image Loader (Section 10, state table; R162). -/
structure Loader where
  state : LoaderState
  /-- the state held when the reload in progress began, to which the loader returns (R168) -/
  resume : LoaderState
  cause : Cause
  attempts : Nat
  result : LoadResult
  /-- the read engine: idle, or reading at an address -/
  engine : Option Nat
  /-- the octets that the latest serial read put out on SPI_DO: command and address (R163) -/
  sent : List Octet
  /-- the image octets that the latest serial read has taken from SPI_DI, in order from address 0 (R163) -/
  taken : List Octet
  next : NextAttempt
  deriving DecidableEq, Repr

/-! ### Parameters (Table 8-3) -/

/-- The parameters that no block above holds. -/
structure Params where
  timingPrimary : Num
  timingSecondary : Num
  timingRevert : Num
  qualifyFrames : Num
  refinMiss : Num
  ingressEnable : Num
  egressEnable : Num
  confirmCount : Num
  missLimit : Num
  noticeMask : Num
  noticeWait : Num
  noticeRetries : Num
  groups : Tab 4 Num
  deriving DecidableEq, Repr

/-! ### The whole part -/

/-- The state of the part, and the queue of the commands that wait. -/
structure State where
  lanes : Tab 16 Lane
  stores : Tab 16 Store
  survey : Survey
  timing : Timing
  map : ConnectionMap
  /-- hold word of each egress position (R79) -/
  hold : Tab 16 (Tab 40 Word)
  egress : Egress
  generators : Tab 4 Generator
  checkers : Tab 4 Checker
  channel : Channel
  dispatcher : Dispatcher
  notices : NoticeUnit
  loader : Loader
  params : Params
  /-- DEVICE_ADDRESS, 0 to 30 (R106) -/
  address : Octet
  /-- the level of the lines ADDR4 to ADDR0 -/
  straps : BitVec 5
  /-- master frame starts taken since reset, by which the marks of R111 and R119 are made -/
  starts : Nat
  /-- the model's own: draws made from `Config.parserFirst` -/
  draws : Nat
  /-- commands waiting, first in first out -/
  pending : List Instr
  deriving DecidableEq, Repr

/-- Reasons for the machine to stop with a fault. The manual describes no stop of the part, and no command stops it:
there is no such reason. -/
inductive Fault where
  deriving DecidableEq, Repr

/-- Reasons to refuse a command. -/
inductive Refusal where
  /-- A command of the opcode table that has no meaning yet: raised by `exec` alone, and at present by none of its arms.
  Safe: no claim about the command's effect can be proved. -/
  | notModelled (mnemonic : String)
  deriving DecidableEq, Repr

/-! ### Reset values -/

/-- R20. -/
def Lane.reset : Lane :=
  { align := .seek, position := 0, last := 0, confirmed := 0, missed := 0, assembly := none, markerMisses := 0
    codeErrors := 0, numberJumps := 0, syncLosses := 0 }

/-- R30. -/
def Store.reset : Store :=
  { state := .idle, records := [], underSlips := 0, overSlips := 0 }

/-- R38. -/
def Survey.reset : Survey :=
  { state := .idle, lane := 0, frameCount := 0, remaining := 0, observed := 0, minFill := none, maxFill := none
    underSlips := 0, overSlips := 0, syncLosses := 0, markerMisses := 0, slotErrors := Tab.fill 40 0, first := none
    last := none }

/-- R52. -/
def Timing.reset : Timing :=
  { state := .freerun, source := none, laneQual := Tab.fill 16 ⟨false, 0⟩, refinQual := ⟨false, 0⟩, missRun := 0
    window := .stopped, pulseHeld := false, timer := .reset, number := 0, steps := 0 }

/-- R54: every entry FILL with fill word 0. -/
def Bank.reset : Bank := Tab.fill 16 (Tab.fill 40 (.fill 0))

/-- R73. -/
def ConnectionMap.reset : ConnectionMap :=
  { bankA := Bank.reset, bankB := Bank.reset, active := .a, epoch := 0, commit := .none, copy := none }

/-- R88: every Egress Framer ON, no frame in sending. -/
def Egress.reset : Egress :=
  { enabled := Tab.fill 16 true, sending := [] }

/-- R92. -/
def Generator.reset : Generator := { kind := none, nextWord := 0 }

/-- R102. -/
def Checker.reset : Checker :=
  { state := .idle, lane := 0, slot := 0, frameCount := 0, remaining := 0, detected := none, compared := 0, errored := 0
    bitErrors := 0, lost := 0, result := none, round := none, reference := 0, erroredRun := 0, tracked := false }

/-- R118. -/
def GroupRecord.reset : GroupRecord :=
  { tag := 0, group := 0, executed := 0, firstFailure := none, frame := 0, dropped := 0 }

/-- R124. -/
def Channel.reset : Channel :=
  { parser := none, fifo := [], abortOwed := false, intake := [], outgoing := [], arbiter := .between, passOver := 0
    cache := [], badCheck := 0, stray := 0, forwardOverflow := 0, requestDropped := 0, group := GroupRecord.reset
    mgmtIngress := 0, mgmtEgress := 0 }

/-- R124: no change and no restart pending. -/
def Dispatcher.reset : Dispatcher := { restart := none, change := none, nextSerial := 0 }

/-- R160. -/
def NoticeUnit.reset : NoticeUnit :=
  { list := [], state := .ready, outstanding := none, copy := .idle, timer := none, retries := 0, nextSeq := 0, lost := 0
    alert := false }

/-- R162: LOADING, result NONE; the first attempt begins at the reset itself, sends the read command and its address and raises the attempt count to 1 (R163). -/
def Loader.reset : Loader :=
  { state := .loading, resume := .defaults, cause := .powerOn, attempts := 1, result := .none, engine := some 0
    sent := Config.readCommand, taken := [], next := .none }

/-- Table 8-3, the column of reset values (R139). -/
def Params.reset : Params :=
  { timingPrimary := 0, timingSecondary := 17, timingRevert := 1, qualifyFrames := 64, refinMiss := 3
    ingressEnable := 0xFFFF#16, egressEnable := 0xFFFF#16, confirmCount := 3, missLimit := 4, noticeMask := 0x7FFF#16
    noticeWait := 2048, noticeRetries := 6, groups := Tab.fill 4 0 }

/-- The part right after a power-on reset with every ADDR strap at 0 (the straps' level: assumption log 1), which
leaves the device address 0 (R106). -/
def State.reset : State :=
  { lanes := Tab.fill 16 Lane.reset
    stores := Tab.fill 16 Store.reset
    survey := Survey.reset
    timing := Timing.reset
    map := ConnectionMap.reset
    hold := Tab.fill 16 (Tab.fill 40 0)
    egress := Egress.reset
    generators := Tab.fill 4 Generator.reset
    checkers := Tab.fill 4 Checker.reset
    channel := Channel.reset
    dispatcher := Dispatcher.reset
    notices := NoticeUnit.reset
    loader := Loader.reset
    params := Params.reset
    address := 0
    straps := 0
    starts := 0
    draws := 0
    pending := [] }

end Sys2Proof.Machine
end

