-- ==== Sys2Proof/Machine/Ops.lean ====
section
/-! DEFINITION. Shared operations: saturating counts, frame-number distance, lane masks, octets and words, the check
code, the words of a message, and the plain updates of one lane's or one checker's record. -/

namespace Sys2Proof.Machine

/-! ### Counts and frame numbers -/

/-- Increase a counter by one; it stops at its largest value (Introduction, "Counters"). -/
def bump {w : Nat} (c : BitVec w) : BitVec w :=
  if c = BitVec.allOnes w then c else c + 1

/-- Increase a counter by `k`; it stops at its largest value. -/
def bumpBy {w : Nat} (c : BitVec w) (k : Nat) : BitVec w :=
  if c.toNat + k < 2 ^ w then c + BitVec.ofNat w k else BitVec.allOnes w

/-- The distance from frame number `a` to frame number `b` (Introduction, "Frame numbers"). -/
def distance (a b : Num) : Nat := (b - a).toNat

/-- Frame `b` is ahead of frame `a`: the distance from `a` to `b` is 1 to 32767. -/
def ahead (a b : Num) : Bool :=
  decide (1 ≤ distance a b) && decide (distance a b ≤ Config.windowLimit)

/-- Bit `k` of a lane mask stands for lane `k` (Introduction, "Lane masks"). -/
def inMask (mask : Num) (l : LaneId) : Bool := mask.getLsbD l.val

/-- The mask with the bit of lane `l` forced to 1. -/
def withLane (mask : Num) (l : LaneId) : Num := mask ||| (1#16 <<< l.val)

/-! ### Lane frames (Introduction, "The lane frame") -/

/-- The marker word of a frame: the marker pattern in the upper half, the frame number in the lower (R2, R83). -/
def markerWord (number : Num) : Word := Config.markerPattern ++ number

/-- The 42 words of an egress frame in the order they are sent: marker word, slots S0 to S39, service word (R82). -/
def frameWords (f : EgressFrame) : List Word := f.marker :: (f.payload.toList ++ [f.service])

/-- What an egress lane sends for one start: the words of its frame; nothing where it was OFF (R82, R84). -/
def lineWords (f : FrameSet) (k : LaneId) : List Word :=
  match f.frames.get k with
  | some fr => frameWords fr
  | none => []

/-! ### Octets and words: the most significant octet first -/

/-- The octet above `k` lower octets. -/
def octetAt {w : Nat} (x : BitVec w) (k : Nat) : Octet := x.extractLsb' (8 * k) 8

/-- The two octets of a 16-bit value. -/
def octets2 (x : Num) : List Octet := [octetAt x 1, octetAt x 0]

/-- The four octets of a word. -/
def octets4 (x : Word) : List Octet := [octetAt x 3, octetAt x 2, octetAt x 1, octetAt x 0]

/-- The 16-bit value of two octets. -/
def num2 (hi lo : Octet) : Num := hi ++ lo

/-- The word of four octets. -/
def word4 (a b c d : Octet) : Word := a ++ b ++ c ++ d

/-- A small number as an octet. -/
def octetOf (n : Nat) : Octet := BitVec.ofNat 8 n

/-! ### The check code (R171) -/

/-- One input bit into the check code register. -/
def crcBit (r : Num) (b : Bool) : Num :=
  if (r.msb ^^ b) = true then (r <<< 1) ^^^ 0x1021#16 else r <<< 1

/-- One octet, most significant bit first. -/
def crcOctet (r : Num) (o : Octet) : Num :=
  [7, 6, 5, 4, 3, 2, 1, 0].foldl (fun r k => crcBit r (o.getLsbD k)) r

/-- The check code of the covered octets. -/
def checkCode (covered : List Octet) : Num := covered.foldl crcOctet 0xFFFF#16

/-! ### Service words and messages (R104, R170) -/

/-- Kind octets of service words. -/
def headOctet : Octet := 0xA1#8
def bodyOctet : Octet := 0xB2#8
def tailOctet : Octet := 0xC3#8
def abortOctet : Octet := 0xDD#8

/-- The kind of a service word that arrived clean: its top octet. -/
inductive WordKind where
  | idle | head | body | tail | abort | malformed
  deriving DecidableEq, Repr

/-- The kind of a word's content (R103, R170). -/
def wordKind (w : Word) : WordKind :=
  if octetAt w 3 = 0x00#8 then .idle
  else if octetAt w 3 = headOctet then .head
  else if octetAt w 3 = bodyOctet then .body
  else if octetAt w 3 = tailOctet then .tail
  else if octetAt w 3 = abortOctet then .abort
  else .malformed

/-- The kind of a received service word: malformed when its code-error flag is set (R103). -/
def heardKind (h : Heard) : WordKind :=
  if h.flagged then .malformed else wordKind h.content

/-- The IDLE word the part sends (R86, R170). -/
def idleWord : Word := 0#32

/-- The ABORT word the part sends: zero content (R170; assumption log 10). -/
def abortWord : Word := word4 abortOctet 0 0 0

/-- The message octets in BODY words, three to a word, the last padded with 00H (R170). -/
def bodyWords : List Octet → List Word
  | a :: b :: c :: rest => word4 bodyOctet a b c :: bodyWords rest
  | [a, b] => [word4 bodyOctet a b 0]
  | [a] => [word4 bodyOctet a 0 0]
  | [] => []

/-- The pad count of a message of `n` message octets. -/
def padCount (n : Nat) : Nat := (3 - n % 3) % 3

/-- The words of a message: HEAD, BODY words, TAIL with check code and pad count (R104, R105, R170). -/
def messageWords (dest src mtype : Octet) (body : List Octet) : List Word :=
  word4 headOctet dest src mtype :: (bodyWords body ++
    [word4 tailOctet (octetAt (checkCode (dest :: src :: mtype :: body)) 1)
      (octetAt (checkCode (dest :: src :: mtype :: body)) 0) (octetOf (padCount body.length))])

/-- Message types (R170) and the controller's address (R106). -/
def requestType : Octet := 0x01#8
def replyType : Octet := 0x02#8
def noticeType : Octet := 0x03#8
def controllerAddress : Octet := 63#8

/-! ### Device state and claims -/

/-- The device state is STARTING while the loader is in LOADING, OPERATING otherwise (R161). -/
def operating (s : State) : Bool := decide (s.loader.state ≠ .loading)

/-- A serial read of the flash begins: the engine reads at address 0, the read command and that address being sent (R163). -/
def readBegun (n : Loader) : Loader := { n with engine := some 0, sent := Config.readCommand, taken := [] }

/-- The flash returns an octet: it is taken, and the engine stands at the address it was read from (R163). -/
def octetTaken (n : Loader) (o : Octet) : Loader :=
  { n with engine := n.engine.map fun _ => n.taken.length, taken := n.taken ++ [o] }

/-- An image reload is in progress (R65, R161). -/
def reloading (s : State) : Bool := decide (s.loader.state = .reloading)

/-! ### Plain updates -/

/-- Replace the record of one Lane Receiver. -/
def setLane (l : LaneId) (r : Lane) (s : State) : State := { s with lanes := s.lanes.set l r }

/-- Replace one Elastic Store. -/
def setStore (l : LaneId) (r : Store) (s : State) : State := { s with stores := s.stores.set l r }

/-- Replace one checker. -/
def setChecker (c : CheckerId) (k : Checker) (s : State) : State := { s with checkers := s.checkers.set c k }

/-- The fill of a store: the number of records it holds (R21). -/
def fillOf (st : Store) : Nat := st.records.length

/-- The ACTIVE bank (R54). -/
def activeBank (m : ConnectionMap) : Bank :=
  match m.active with
  | .a => m.bankA
  | .b => m.bankB

/-- The SHADOW bank (R54). -/
def shadowBank (m : ConnectionMap) : Bank :=
  match m.active with
  | .a => m.bankB
  | .b => m.bankA

/-- The map with its SHADOW bank replaced. -/
def setShadow (b : Bank) (m : ConnectionMap) : ConnectionMap :=
  match m.active with
  | .a => { m with bankB := b }
  | .b => { m with bankA := b }

end Sys2Proof.Machine
end

