-- ==== Sys2Proof/Machine/Operands.lean ====
section
/-! DEFINITION. The forms of what requests and images carry: the items of a request body (R125, R128), the parameter
identifiers and ranges (Table 8-3), the map entries and runs of entries (R57, Table 11-6). -/

namespace Sys2Proof.Machine

/-! ### Items -/

/-- Item kinds (Table 11-4). -/
inductive ItemKind where
  | echo | status | paramRead | paramWrite | mapWrite | mapRead | mapCopy | commit | commitCancel | laneRead | laneReset
  | countsClear | checkStart | checkStop | checkRead | surveyStart | surveyRead | noticeAck | groupRead | imageReload
  | restart
  deriving DecidableEq, Repr

/-- Table 11-4; any other octet names no item. -/
def itemKind (o : Octet) : Option ItemKind :=
  match o.toNat with
  | 0x01 => some .echo | 0x02 => some .status | 0x03 => some .paramRead | 0x04 => some .paramWrite
  | 0x05 => some .mapWrite | 0x06 => some .mapRead | 0x07 => some .mapCopy | 0x08 => some .commit
  | 0x09 => some .commitCancel | 0x0A => some .laneRead | 0x0B => some .laneReset | 0x0C => some .countsClear
  | 0x0D => some .checkStart | 0x0E => some .checkStop | 0x0F => some .checkRead | 0x10 => some .surveyStart
  | 0x11 => some .surveyRead | 0x12 => some .noticeAck | 0x13 => some .groupRead | 0x14 => some .imageReload
  | 0x15 => some .restart | _ => none

/-- The argument lengths allowed for a kind (R128). -/
def lengthAllowed : ItemKind → Nat → Bool
  | .echo, n => decide (n ≤ 16)
  | .mapWrite, n => decide (3 ≤ n)
  | .commit, n => decide (n = 1) || decide (n = 3)
  | .paramRead, n | .laneRead, n | .laneReset, n | .checkStop, n | .checkRead, n | .surveyRead, n | .noticeAck, n =>
    decide (n = 1)
  | .paramWrite, n | .countsClear, n | .surveyStart, n => decide (n = 3)
  | .mapRead, n => decide (n = 4)
  | .checkStart, n => decide (n = 5)
  | .status, n | .mapCopy, n | .commitCancel, n | .groupRead, n | .imageReload, n | .restart, n => decide (n = 0)

/-- The items permitted in a group copy (R132). -/
def permittedInGroup : ItemKind → Bool
  | .echo | .paramWrite | .mapWrite | .mapCopy | .commit | .commitCancel | .laneReset | .countsClear | .checkStart
  | .checkStop | .surveyStart | .imageReload => true
  | .status | .paramRead | .mapRead | .laneRead | .checkRead | .surveyRead | .noticeAck | .groupRead | .restart => false

/-- An item as it stands in a request body: kind octet and arguments (Table 11-1). -/
structure RawItem where
  kind : Octet
  args : List Octet
  deriving DecidableEq, Repr

/-- `n` items that fill the octets exactly (R114, section 8.1). -/
def takeItems : Nat → List Octet → Option (List RawItem)
  | 0, [] => some []
  | n + 1, k :: len :: rest =>
    if len.toNat ≤ rest.length then
      (takeItems n (rest.drop len.toNat)).map (fun items => ⟨k, rest.take len.toNat⟩ :: items)
    else none
  | _, _ => none

/-- The items of a well-formed request; nothing for a malformed one (R114). -/
def requestItems (mtype : Octet) (body : List Octet) : Option (List RawItem) :=
  match body with
  | _tag :: count :: rest =>
    if mtype = requestType ∧ 1 ≤ count.toNat ∧ count.toNat ≤ Config.itemLimit then takeItems count.toNat rest else none
  | _ => none

/-- The tag of a request: its first message octet, 0 when it has none (R113). -/
def requestTag (body : List Octet) : Octet := body.headD 0

/-! ### Numbers within a range -/

/-- An octet as a lane number, if it is 0 to 15. -/
def laneOf (o : Octet) : Option LaneId := if h : o.toNat < 16 then some ⟨o.toNat, h⟩ else none

/-- An octet as a slot number, if it is 0 to 39. -/
def slotOf (o : Octet) : Option SlotId := if h : o.toNat < 40 then some ⟨o.toNat, h⟩ else none

/-- An octet as a number 0 to 3. -/
def quadOf (o : Octet) : Option (Fin 4) := if h : o.toNat < 4 then some ⟨o.toNat, h⟩ else none

/-- A two-octet value as a lane number, if it is 0 to 15. -/
def laneOfNum (v : Num) : Option LaneId := if h : v.toNat < 16 then some ⟨v.toNat, h⟩ else none

/-! ### Parameters (Table 8-3) -/

/-- The parameters. -/
inductive Param where
  | deviceAddress | timingPrimary | timingSecondary | timingRevert | qualifyFrames | refinMiss | mgmtIngress | mgmtEgress
  | ingressEnable | egressEnable | confirmCount | missLimit | noticeMask | noticeWait | noticeRetries
  | group (i : Fin 4)
  | genKind (g : GenId)
  deriving DecidableEq, Repr

/-- Identifiers 1 to 23. -/
def paramOf (o : Octet) : Option Param :=
  match o.toNat with
  | 1 => some .deviceAddress | 2 => some .timingPrimary | 3 => some .timingSecondary | 4 => some .timingRevert
  | 5 => some .qualifyFrames | 6 => some .refinMiss | 7 => some .mgmtIngress | 8 => some .mgmtEgress
  | 9 => some .ingressEnable | 10 => some .egressEnable | 11 => some .confirmCount | 12 => some .missLimit
  | 13 => some .noticeMask | 14 => some .noticeWait | 15 => some .noticeRetries
  | 16 => some (.group 0) | 17 => some (.group 1) | 18 => some (.group 2) | 19 => some (.group 3)
  | 20 => some (.genKind 0) | 21 => some (.genKind 1) | 22 => some (.genKind 2) | 23 => some (.genKind 3)
  | _ => none

/-- A number between two bounds. -/
def within (lo hi : Nat) (v : Num) : Bool := decide (lo ≤ v.toNat) && decide (v.toNat ≤ hi)

/-- The ranges of Table 8-3. -/
def paramInRange : Param → Num → Bool
  | .deviceAddress, v => within 0 30 v
  | .timingPrimary, v | .timingSecondary, v => within 0 17 v
  | .timingRevert, v => within 0 1 v
  | .qualifyFrames, v => within 8 1024 v
  | .refinMiss, v => within 2 8 v
  | .mgmtIngress, v | .mgmtEgress, v => within 0 15 v
  | .ingressEnable, _ | .egressEnable, _ | .noticeMask, _ => true
  | .confirmCount, v => within 1 7 v
  | .missLimit, v => within 1 15 v
  | .noticeWait, v => within 64 65535 v
  | .noticeRetries, v => within 1 15 v
  | .group _, v => decide (v = 0) || within 32 62 v
  | .genKind _, v => within 0 4 v

/-! ### Map entries (Table 11-6) -/

/-- An entry as its octets give it, before the ranges of R53 are tested. -/
inductive RawEntry where
  | fill (word : Word)
  | lane (source slot : Octet) (loss : LossAction)
  | gen (g : Octet)
  deriving DecidableEq, Repr

/-- The encoding of an entry. -/
def encodeEntry : Entry → List Octet
  | .fill w => 0x01#8 :: octets4 w
  | .lane l t (.fill w) => 0x02#8 :: octetOf l.val :: octetOf t.val :: 0x00#8 :: octets4 w
  | .lane l t .hold => [0x02#8, octetOf l.val, octetOf t.val, 0x01#8]
  | .lane l t .pass => [0x02#8, octetOf l.val, octetOf t.val, 0x02#8]
  | .gen g => [0x03#8, octetOf g.val]

/-- The fill word at the head of the octets, and the octets behind it. -/
def takeFill : List Octet → Option (Word × List Octet)
  | a :: b :: c :: d :: rest => some (word4 a b c d, rest)
  | _ => none

/-- The loss action of a LANE entry and the octets behind it; its octet decides whether a fill word follows. -/
def takeLoss (action : Octet) (rest : List Octet) : Option (LossAction × List Octet) :=
  if action = 0x00#8 then (takeFill rest).map (fun p => (.fill p.1, p.2))
  else if action = 0x01#8 then some (.hold, rest)
  else if action = 0x02#8 then some (.pass, rest)
  else none

/-- The entry at the head of the octets, and the octets behind it; nothing for an unknown kind or loss action, or
where octets are missing (first test of R57). -/
def takeEntry : List Octet → Option (RawEntry × List Octet)
  | [] => none
  | k :: rest =>
    if k = 0x01#8 then (takeFill rest).map (fun p => (.fill p.1, p.2))
    else if k = 0x02#8 then
      match rest with
      | l :: t :: action :: rest' => (takeLoss action rest').map (fun p => (.lane l t p.1, p.2))
      | _ => none
    else if k = 0x03#8 then
      match rest with
      | g :: rest' => some (.gen g, rest')
      | _ => none
    else none

/-- Exactly `n` entries that fill the octets (first test of R57). -/
def takeEntries : Nat → List Octet → Option (List RawEntry)
  | 0, [] => some []
  | 0, _ :: _ => none
  | n + 1, octets =>
    match takeEntry octets with
    | some (e, rest) => (takeEntries n rest).map (fun es => e :: es)
    | none => none

/-- The entry, if its source lane, source slot and generator are in range (second test of R57). -/
def checkEntry : RawEntry → Option Entry
  | .fill w => some (.fill w)
  | .lane l t loss =>
    match laneOf l, slotOf t with
    | some l, some t => some (.lane l t loss)
    | _, _ => none
  | .gen g => (quadOf g).map .gen

/-- Every entry, if each is in range. -/
def checkEntries : List RawEntry → Option (List Entry)
  | [] => some []
  | e :: es =>
    match checkEntry e, checkEntries es with
    | some e, some es => some (e :: es)
    | _, _ => none

/-- A run of entries as its octets give it: the arguments of MAP_WRITE and the contents of a MAP_RANGE record. -/
structure RawRun where
  lane : Octet
  first : Octet
  count : Octet
  entries : List RawEntry
  deriving DecidableEq, Repr

/-- A run of consecutive entries of one egress lane. -/
structure Run where
  lane : LaneId
  first : Nat
  entries : List Entry
  deriving DecidableEq, Repr

/-- The first test of R57. -/
def rawRun : List Octet → Option RawRun
  | l :: f :: n :: rest => (takeEntries n.toNat rest).map (fun es => ⟨l, f, n, es⟩)
  | _ => none

/-- A first slot 0 to 39, a count 1 to 40, and their sum at most 40 (R57). -/
def slotsInRange (first count : Octet) : Bool :=
  decide (first.toNat < 40) && decide (1 ≤ count.toNat) && decide (count.toNat ≤ 40) &&
    decide (first.toNat + count.toNat ≤ 40)

/-- The second test of R57. -/
def checkRun (r : RawRun) : Option Run :=
  match laneOf r.lane, checkEntries r.entries with
  | some l, some es => if slotsInRange r.first r.count then some ⟨l, r.first.toNat, es⟩ else none
  | _, _ => none

/-- Write a run into a bank: the entries of its slots are replaced, all others stay (R57, R70). -/
def writeRun (r : Run) (b : Bank) : Bank :=
  b.set r.lane (Tab.ofFn fun t =>
    if r.first ≤ t.val then (r.entries[t.val - r.first]?).getD ((b.get r.lane).get t) else (b.get r.lane).get t)

/-- Read `count` entries of one egress lane from slot `first` on, in slot order (R58). -/
def readRun (b : Bank) (lane : LaneId) (first count : Nat) : List Entry :=
  ((b.get lane).toList.drop first).take count

end Sys2Proof.Machine
end

