-- ==== Sys2Proof/Machine/Flags.lean ====
section
/-! DEFINITION. The octets by which states, results, statuses and notice kinds are reported (Tables 11-5, 11-7, 11-8). -/

namespace Sys2Proof.Machine

/-- Table 11-5. -/
def statusOctet : ItemStatus → Octet
  | .done => 0x00#8 | .started => 0x01#8 | .busy => 0x02#8 | .pending => 0x03#8 | .noCommit => 0x04#8
  | .badArgument => 0x05#8 | .outOfRange => 0x06#8 | .outOfWindow => 0x07#8 | .notAllowed => 0x08#8
  | .notInGroup => 0x09#8 | .unknownKind => 0x0A#8 | .tooLong => 0x0B#8 | .skipped => 0x0C#8
  | .nothingOutstanding => 0x0D#8 | .stale => 0x0E#8

/-- An item succeeds when it returns DONE or STARTED (R125). -/
def succeeds (st : ItemStatus) : Bool := decide (st = .done) || decide (st = .started)

/-- Overall statuses of a reply (Table 11-2). -/
inductive Overall where
  | complete | partly | busy | starting | malformed
  deriving DecidableEq, Repr

/-- Table 11-2. -/
def overallOctet : Overall → Octet
  | .complete => 0x00#8 | .partly => 0x01#8 | .busy => 0x02#8 | .starting => 0x03#8 | .malformed => 0x04#8

/-- Table 11-7, alignment state. -/
def alignOctet : Align → Octet
  | .off => 0x00#8 | .seek => 0x01#8 | .confirm => 0x02#8 | .sync => 0x03#8 | .drift => 0x04#8

/-- Table 11-7, store state. -/
def storeOctet : StoreState → Octet
  | .idle => 0x00#8 | .filling => 0x01#8 | .running => 0x02#8

/-- Table 11-7, timing state. -/
def timingOctet : TimingState → Octet
  | .freerun => 0x00#8 | .primary => 0x01#8 | .secondary => 0x02#8 | .holdover => 0x03#8

/-- A timing source in STATUS and TIMING_CHANGE: 0 to 15, 16 for REFIN, FFH for none (R49, R135). -/
def sourceOctet : Option Source → Octet
  | some (.lane l) => octetOf l.val
  | some .refin => 16#8
  | none => 0xFF#8

/-- Table 11-7, device state. -/
def deviceOctet (isOperating : Bool) : Octet := if isOperating then 0x01#8 else 0x00#8

/-- Table 11-7, loader state. -/
def loaderOctet : LoaderState → Octet
  | .loading => 0x00#8 | .loaded => 0x01#8 | .defaults => 0x02#8 | .reloading => 0x03#8

/-- Table 11-7, loader result. -/
def resultOctet : LoadResult → Octet
  | .none => 0x00#8 | .loaded => 0x01#8 | .absent => 0x02#8 | .failed => 0x03#8

/-- Table 11-7, START_UP cause. -/
def causeOctet : Cause → Octet
  | .powerOn => 0x01#8 | .restart => 0x02#8

/-- Table 11-7, ACTIVE bank. -/
def bankOctet : BankName → Octet
  | .a => 0x00#8 | .b => 0x01#8

/-- The commit record in STATUS: its state, then F, 0 when the target is not a frame (R135). -/
def commitOctets : CommitRecord → List Octet
  | .none => [0x00#8, 0, 0]
  | .next => [0x01#8, 0, 0]
  | .frame f => 0x02#8 :: octets2 f

/-- The copy engine in STATUS: FFH when IDLE, else the number of lanes already copied (R135). -/
def copyOctet : Option Nat → Octet
  | none => 0xFF#8
  | some k => octetOf k

/-- Table 11-7, notice unit state. -/
def noticeStateOctet : NoticeState → Octet
  | .ready => 0x00#8 | .awaiting => 0x01#8 | .stalled => 0x02#8

/-- Table 11-7, checker state. -/
def checkerOctet : CheckerState → Octet
  | .idle => 0x00#8 | .detect => 0x01#8 | .track => 0x02#8 | .done => 0x03#8

/-- Table 11-7, checker result; FFH absent. -/
def checkResultOctet : Option CheckResult → Octet
  | some .clean => 0x01#8 | some .errors => 0x02#8 | some .notFound => 0x03#8 | some .stopped => 0x04#8
  | some .laneLost => 0x05#8 | none => 0xFF#8

/-- Table 11-7, detected kind. -/
def sequenceOctet : SequenceKind → Octet
  | .count => 0x01#8 | .pr13 => 0x02#8 | .pr19 => 0x03#8 | .pr29 => 0x04#8

/-- GEN_KIND values (Table 11-4). -/
def genKindValue : Option SequenceKind → Num
  | none => 0 | some .count => 1 | some .pr13 => 2 | some .pr19 => 3 | some .pr29 => 4

/-- The kind a GEN_KIND value names, or nothing where the value is out of range. -/
def genKindOf (v : Num) : Option (Option SequenceKind) :=
  if v = 0 then some none
  else if v = 1 then some (some .count)
  else if v = 2 then some (some .pr13)
  else if v = 3 then some (some .pr19)
  else if v = 4 then some (some .pr29)
  else none

/-- Kind and inverted flag in CHECK_DONE: kind in bits 0 to 6, flag in bit 7; FFH absent (Table 11-7). -/
def detectedOctet : Option (SequenceKind × Bool) → Octet
  | some (k, inv) => if inv then sequenceOctet k ||| 0x80#8 else sequenceOctet k
  | none => 0xFF#8

/-- Table 11-7, survey state. -/
def surveyOctet : SurveyState → Octet
  | .idle => 0x00#8 | .running => 0x01#8 | .done => 0x02#8 | .aborted => 0x03#8

/-- SYNC_LOST causes (R12). -/
def causeMisses : Octet := 0x01#8
def causeSignal : Octet := 0x02#8
def causeLaneReset : Octet := 0x03#8

/-- Notice kind octets (Table 11-8). -/
def noticeOctet : NoticeKind → Octet
  | .startUp => 0x01#8 | .syncGained => 0x02#8 | .syncLost => 0x03#8 | .slip => 0x04#8 | .timingChange => 0x05#8
  | .numberStep => 0x06#8 | .commitDone => 0x07#8 | .copyDone => 0x08#8 | .reloadDone => 0x09#8 | .checkDone => 0x0A#8
  | .checkLost => 0x0B#8 | .surveyDone => 0x0C#8 | .forwardOverflow => 0x0D#8 | .requestDropped => 0x0E#8
  | .overflow => 0x0F#8

/-- The bit of a notice kind in NOTICE_MASK (Table 11-8). -/
def noticeBit : NoticeKind → Nat
  | .startUp => 0 | .syncGained => 1 | .syncLost => 2 | .slip => 3 | .timingChange => 4 | .numberStep => 5
  | .commitDone => 6 | .copyDone => 7 | .reloadDone => 8 | .checkDone => 9 | .checkLost => 10 | .surveyDone => 11
  | .forwardOverflow => 12 | .requestDropped => 13 | .overflow => 14

/-- A subject in a notice entry: the lane or checker number, FFH for none (Table 11-3). -/
def subjectOctet : Subject → Octet
  | .lane l => octetOf l.val
  | .checker c => octetOf c.val
  | .none => 0xFF#8

/-- NOTICE_MASK as held: the bits of START_UP and OVERFLOW at 1, the bit that names no kind at 0 (R138). -/
def heldMask (v : Num) : Num := (v ||| 0x4001#16) &&& 0x7FFF#16

end Sys2Proof.Machine
end

