-- ==== Sys2Proof/Machine/Notices.lean ====
section
/-! DEFINITION. The notice list of the Notice Unit (sections 9.1 and 9.2): raising a notice, coalescing, loss, the
OVERFLOW transfer, the placement of START_UP and ALERT. -/

namespace Sys2Proof.Machine

/-- An entry that is not carried and has this kind and subject: a new notice coalesces into it (R149). -/
def waitsFor (kind : NoticeKind) (subject : Subject) (e : NoticeEntry) : Bool :=
  decide (e.kind = kind) && decide (e.subject = subject) && !e.carried

/-- Replace the notice list; ALERT follows it (R151). -/
def setList (list : List NoticeEntry) (n : NoticeUnit) : NoticeUnit :=
  { n with list := list, alert := !list.isEmpty }

/-- The entry after one more occurrence: repeat count up, frame and data those of the new notice (R149). -/
def coalesce (frame : Num) (data : List Octet) (e : NoticeEntry) : NoticeEntry :=
  { e with repeats := bump e.repeats, frame := frame, data := data }

/-- A new entry (R149). -/
def freshEntry (kind : NoticeKind) (subject : Subject) (frame : Num) (data : List Octet) : NoticeEntry :=
  { kind := kind, subject := subject, repeats := 1, frame := frame, data := data, carried := false }

/-- Enter a notice that passes the mask: coalesce, append, or count it lost (R149). -/
def enterNotice (kind : NoticeKind) (subject : Subject) (frame : Num) (data : List Octet) (n : NoticeUnit) : NoticeUnit :=
  if n.list.any (waitsFor kind subject) then
    setList (n.list.map fun e => if waitsFor kind subject e then coalesce frame data e else e) n
  else if n.list.length < Config.listDepth then
    setList (n.list ++ [freshEntry kind subject frame data]) n
  else { n with lost := bump n.lost }

/-- A kind is enabled when its bit of NOTICE_MASK is 1 (R148). -/
def noticeEnabled (mask : Num) (kind : NoticeKind) : Bool := mask.getLsbD (noticeBit kind)

/-- A block raises a notice: it is tested against NOTICE_MASK, stamped with the number of the latest master frame start
and entered (R148). -/
def raise (kind : NoticeKind) (subject : Subject) (data : List Octet) (s : State) : State :=
  if noticeEnabled s.params.noticeMask kind then
    { s with notices := enterNotice kind subject s.timing.number data s.notices }
  else s

/-- The data of an OVERFLOW entry with `k` more notices lost; the sum stops at 65535 (R150). -/
def overflowData (k : Num) (data : List Octet) : List Octet :=
  match data with
  | [hi, lo] => octets2 (bumpBy (num2 hi lo) k.toNat)
  | _ => octets2 k

/-- The transfer of the lost count into an OVERFLOW entry, once the list has room (R150). -/
def transferLost (frame : Num) (n : NoticeUnit) : NoticeUnit :=
  if n.lost = 0 ∨ Config.listDepth ≤ n.list.length then n
  else if n.list.any (waitsFor .overflow .none) then
    { setList (n.list.map fun e =>
        if waitsFor .overflow .none e then coalesce frame (overflowData n.lost e.data) e else e) n with lost := 0 }
  else { setList (n.list ++ [freshEntry .overflow .none frame (octets2 n.lost)]) n with lost := 0 }

/-- Place START_UP at the front of the list; a full list first loses its newest entry, which is counted (R153). -/
def placeStartUp (frame : Num) (data : List Octet) (n : NoticeUnit) : NoticeUnit :=
  if n.list.length < Config.listDepth then
    setList (freshEntry .startUp .none frame data :: n.list) n
  else
    { setList (freshEntry .startUp .none frame data :: n.list.take (Config.listDepth - 1)) n with lost := bump n.lost }

/-- The octets of an entry in a notice message (Table 11-3). -/
def entryOctets (e : NoticeEntry) : List Octet :=
  [noticeOctet e.kind, subjectOctet e.subject, e.repeats] ++ octets2 e.frame ++ octetOf e.data.length :: e.data

end Sys2Proof.Machine
end

