-- ==== Sys2Proof/Machine/Survey.lean ====
section
/-! DEFINITION. The Lane Survey engine (sections 2.5 to 2.8). -/

namespace Sys2Proof.Machine

/-- The record of a survey just started (R32). -/
def startedSurvey (lane : LaneId) (frames : Num) : Survey :=
  { Survey.reset with state := .running, lane := lane, frameCount := frames, remaining := frames }

/-- A survey of this lane is RUNNING and its interval has opened, so that events on the lane are counted (R31). -/
def surveyCounts (l : LaneId) (v : Survey) : Bool :=
  decide (v.state = .running) && decide (v.lane = l) && v.first.isSome && decide (v.remaining ≠ 0)

/-- Count an OVER slip of the surveyed store (R34). -/
def surveyOverSlip (l : LaneId) (s : State) : State :=
  if surveyCounts l s.survey then { s with survey := { s.survey with overSlips := bump s.survey.overSlips } } else s

/-- Count a loss of alignment of the surveyed lane (R34). -/
def surveySyncLoss (l : LaneId) (s : State) : State :=
  if surveyCounts l s.survey then { s with survey := { s.survey with syncLosses := bump s.survey.syncLosses } } else s

/-- Count a marker miss of the surveyed lane (R34). -/
def surveyMarkerMiss (l : LaneId) (s : State) : State :=
  if surveyCounts l s.survey then { s with survey := { s.survey with markerMisses := bump s.survey.markerMisses } }
  else s

/-- The least fill with one more sample (R33). -/
def lessFill (fill : Nat) : Option Nat → Option Nat
  | none => some fill
  | some m => some (min m fill)

/-- The greatest fill with one more sample (R33). -/
def moreFill (fill : Nat) : Option Nat → Option Nat
  | none => some fill
  | some m => some (max m fill)

/-- The slot error counts with a delivered frame counted (R33). -/
def countSlotErrors (r : FrameRecord) (counts : Tab 40 Num) : Tab 40 Num :=
  Tab.ofFn fun t => if (r.payload.get t).flagged then bump (counts.get t) else counts.get t

/-- The sample of a master frame start (R33): the read's delivered frame, whether it was an UNDER slip, the fill just
after it, and the number of the start. -/
def sampleSurvey (delivered : Option FrameRecord) (slipped : Bool) (fill : Nat) (number : Num) (v : Survey) : Survey :=
  if v.state = .running ∧ v.remaining ≠ 0 then
    { v with
      remaining := v.remaining - 1
      observed := if delivered.isSome then bump v.observed else v.observed
      slotErrors := match delivered with
        | some r => countSlotErrors r v.slotErrors
        | none => v.slotErrors
      underSlips := if slipped then bump v.underSlips else v.underSlips
      minFill := lessFill fill v.minFill
      maxFill := moreFill fill v.maxFill
      first := some (v.first.getD number)
      last := some number }
  else v

/-- The data of SURVEY_DONE: lane, result octet (01H COMPLETE, 02H ABORTED), frames observed (R35, R36). -/
def surveyDoneData (result : Octet) (v : Survey) : List Octet :=
  [octetOf v.lane.val, result] ++ octets2 v.observed

/-- The end of the survey is due: the start that brought frames remaining to 0 has been taken (R35). -/
def surveyEndDue (s : State) : Bool :=
  decide (s.survey.state = .running) && decide (s.survey.remaining = 0)

/-- Take the end of the survey, when it is due (R35). -/
def takeSurveyEnd (s : State) : State :=
  if surveyEndDue s then
    raise .surveyDone .none (surveyDoneData 0x01#8 s.survey) { s with survey := { s.survey with state := .done } }
  else s

/-- Abort a RUNNING survey of a lane (R36). -/
def abortSurvey (l : LaneId) (s : State) : State :=
  if s.survey.state = .running ∧ s.survey.lane = l then
    raise .surveyDone .none (surveyDoneData 0x02#8 s.survey) { s with survey := { s.survey with state := .aborted } }
  else s

end Sys2Proof.Machine
end

