-- ==== Sys2Proof/Machine/Stores.lean ====
section
/-! DEFINITION. The Elastic Stores (sections 2.1 to 2.4): writes, reads, the return to IDLE and the recentre. -/

namespace Sys2Proof.Machine

/-- The two newest records of a store that is recentred (R28). -/
def newestTwo (rs : List FrameRecord) : List FrameRecord := rs.drop (rs.length - 2)

/-- The store after a recentre (R28). A store in IDLE, which the timing lane's store never is, is left as it is. -/
def recentred (st : Store) : Store :=
  match st.state with
  | .idle => st
  | _ =>
    if 2 ≤ fillOf st then { st with state := .running, records := newestTwo st.records }
    else { st with state := .filling }

/-- Recentre the store of a lane (R28). -/
def recentre (l : LaneId) (s : State) : State := setStore l (recentred (s.stores.get l)) s

/-- The store after its return to IDLE: the records are discarded, the slip counters stand (R27). -/
def idled (st : Store) : Store := { st with state := .idle, records := [] }

/-- Put the store of a lane into IDLE (R27). -/
def idleStore (l : LaneId) (s : State) : State := setStore l (idled (s.stores.get l)) s

/-- The store when its lane enters SYNC from CONFIRM: IDLE goes to FILLING, empty (R22). -/
def opened (st : Store) : Store := { st with state := .filling, records := [] }

/-- The data of a SLIP notice: the totals after the slip (R29). -/
def slipData (st : Store) : List Octet := octets2 st.underSlips ++ octets2 st.overSlips

/-- A write finds the store RUNNING and full: an OVER slip (R23). -/
def overSlips (st : Store) : Bool := decide (st.state = .running) && decide (Config.storeDepth ≤ fillOf st)

/-- The store after a write (R23). -/
def written (r : FrameRecord) (st : Store) : Store :=
  match st.state with
  | .idle => st
  | .filling =>
    { st with state := if st.records = [] then .filling else .running, records := st.records ++ [r] }
  | .running =>
    if Config.storeDepth ≤ fillOf st then { st with overSlips := bump st.overSlips }
    else { st with records := st.records ++ [r] }

/-- Write a frame record into the store of a lane; an OVER slip is counted by the survey and raises SLIP (R23, R29,
R34). -/
def writeStore (l : LaneId) (r : FrameRecord) (s : State) : State :=
  if overSlips (s.stores.get l) then
    raise .slip (.lane l) (slipData (written r (s.stores.get l)))
      (surveyOverSlip l (setStore l (written r (s.stores.get l)) s))
  else setStore l (written r (s.stores.get l)) s

/-- A read finds the store RUNNING and empty: an UNDER slip (R24). -/
def underSlips (st : Store) : Bool := decide (st.state = .running) && st.records.isEmpty

/-- The delivered frame of a read (R24). -/
def deliveredBy (st : Store) : Option FrameRecord :=
  match st.state with
  | .running => st.records.head?
  | _ => none

/-- The store after a read (R24). -/
def afterRead (st : Store) : Store :=
  match st.state with
  | .running =>
    match st.records with
    | [] => { st with underSlips := bump st.underSlips }
    | _ :: rest => { st with records := rest }
  | _ => st

/-- The frames that the stores deliver at a master frame start (R24, R25). -/
def delivered (stores : Tab 16 Store) : Tab 16 (Option FrameRecord) := Tab.ofFn fun l => deliveredBy (stores.get l)

/-- Every store is read once (R24). -/
def readStores (s : State) : State := { s with stores := Tab.ofFn fun l => afterRead (s.stores.get l) }

/-- Each store that slipped at its read raises SLIP with the totals after the slip (R24, R29). -/
def raiseUnderSlips (before : Tab 16 Store) (s : State) : State :=
  (List.finRange 16).foldl (fun s l =>
    if underSlips (before.get l) then raise .slip (.lane l) (slipData (s.stores.get l)) s else s) s

end Sys2Proof.Machine
end

