-- ==== Sys2Proof/Machine/Timing.lean ====
section
/-! DEFINITION. The Frame Timing Unit (Section 3): sources, qualification, the timing states and the numbering of
master frame starts. -/

namespace Sys2Proof.Machine

/-! ### Sources and qualification (R40 to R44) -/

/-- The source a timing parameter names: 0 to 15 a lane, 16 REFIN, 17 none (R40). -/
def sourceNamed (v : Num) : Option Source :=
  match laneOfNum v with
  | some l => some (.lane l)
  | none => if v = 16 then some .refin else none

/-- P, the primary source (R40). -/
def primarySource (p : Params) : Option Source := sourceNamed p.timingPrimary

/-- S, the secondary source: none while it names the same source as the primary (R40). -/
def secondarySource (p : Params) : Option Source :=
  if p.timingSecondary = p.timingPrimary then none else sourceNamed p.timingSecondary

/-- A source is qualified; no source is never qualified (R40). -/
def qualified (t : Timing) : Option Source → Bool
  | some (.lane l) => (t.laneQual.get l).qualified
  | some .refin => t.refinQual.qualified
  | none => false

/-- One more frame record or accepted pulse (R41, R42): the count stops at 1024 and qualifies at QUALIFY_FRAMES. -/
def credited (qualifyFrames : Num) (q : Qualification) : Qualification :=
  { qualified := q.qualified || decide (qualifyFrames.toNat ≤ min (q.count + 1) Config.countCeiling)
    count := min (q.count + 1) Config.countCeiling }

/-- A write of QUALIFY_FRAMES: a source whose count already reaches the new value becomes qualified (R44). -/
def requalified (qualifyFrames : Num) (q : Qualification) : Qualification :=
  { q with qualified := q.qualified || decide (qualifyFrames.toNat ≤ q.count) }

/-- Apply a write of QUALIFY_FRAMES to every source (R44). -/
def requalifyAll (s : State) : State :=
  { s with
    timing := { s.timing with
      laneQual := Tab.ofFn fun l => requalified s.params.qualifyFrames (s.timing.laneQual.get l)
      refinQual := requalified s.params.qualifyFrames s.timing.refinQual } }

/-- A frame record is written by a lane's Receiver: its qualification count rises (R41). -/
def creditLane (l : LaneId) (s : State) : State :=
  { s with
    timing := { s.timing with
      laneQual := s.timing.laneQual.set l (credited s.params.qualifyFrames (s.timing.laneQual.get l)) } }

/-! ### Timing states (R45, R46, R48, R49) -/

/-- The choice at the loss of the current source (R46): P if qualified, else S if qualified, else HOLDOVER. -/
def chosenAtLoss (t : Timing) (p : Params) : TimingState × Option Source :=
  if qualified t (primarySource p) then (.primary, primarySource p)
  else if qualified t (secondarySource p) then (.secondary, secondarySource p)
  else (.holdover, none)

/-- The evaluation made after each start (R45): the first condition of the table that holds decides. -/
def evaluated (t : Timing) (p : Params) : TimingState × Option Source :=
  match t.state with
  | .freerun | .holdover =>
    if qualified t (primarySource p) then (.primary, primarySource p)
    else if qualified t (secondarySource p) then (.secondary, secondarySource p)
    else (t.state, t.source)
  | .primary =>
    if t.source.isSome ∧ t.source = primarySource p then (t.state, t.source) else chosenAtLoss t p
  | .secondary =>
    if qualified t (primarySource p) ∧ p.timingRevert = 1 then (.primary, primarySource p)
    else if t.source.isSome ∧ t.source = secondarySource p then (t.state, t.source)
    else chosenAtLoss t p

/-- The data of TIMING_CHANGE: new state and new source (R49). -/
def timingData (c : TimingState × Option Source) : List Octet := [timingOctet c.1, sourceOctet c.2]

/-- The entry into a lane-timed state whose lane was not the source before recentres that lane's store (R28, R48). -/
def recentreEntered (before after : Option Source) (s : State) : State :=
  match after with
  | some (.lane l) => if before = after then s else recentre l s
  | _ => s

/-- Move to a timing state and source: a change raises TIMING_CHANGE (R49), an entry recentres (R48). -/
def moveTiming (c : TimingState × Option Source) (s : State) : State :=
  if s.timing.state = c.1 ∧ s.timing.source = c.2 then s
  else
    recentreEntered s.timing.source c.2
      (raise .timingChange .none (timingData c) { s with timing := { s.timing with state := c.1, source := c.2 } })

/-- The evaluation at the end of a master frame start (R45). -/
def evaluateTiming (s : State) : State := moveTiming (evaluated s.timing s.params) s

/-- The loss of the current source, acted on at once (R46). -/
def loseSource (s : State) : State := moveTiming (chosenAtLoss s.timing s.params) s

/-- A lane entering SEEK or OFF is disqualified (R41); where it was the current source, that is a loss (R46). -/
def disqualifyLane (l : LaneId) (s : State) : State :=
  if s.timing.source = some (.lane l) then
    loseSource { s with timing := { s.timing with laneQual := s.timing.laneQual.set l ⟨false, 0⟩ } }
  else { s with timing := { s.timing with laneQual := s.timing.laneQual.set l ⟨false, 0⟩ } }

/-! ### The number of a start (R50, R51) -/

/-- The number of a start, `s.starts` being its ordinal since reset: 0 for the first after a reset; the delivered record's for a lane-timed start that delivers
a frame; else the previous number plus one (R50). -/
def startNumber (origin : Option LaneId) (frames : Tab 16 (Option FrameRecord)) (s : State) : Num :=
  if s.starts = 1 then 0
  else
    match origin with
    | some l =>
      match frames.get l with
      | some r => r.number
      | none => s.timing.number + 1
    | none => s.timing.number + 1

/-- A start is a number step: it is not the first, and its number is not the previous plus one (R51). -/
def isStep (number : Num) (s : State) : Bool := decide (s.starts ≠ 1) && decide (number ≠ s.timing.number + 1)

/-- Number a start: the number is held, the timer restarts (R39), and a number step is counted and raised (R51). -/
def takeNumber (number : Num) (s : State) : State :=
  if isStep number s then
    raise .numberStep .none (octets2 s.timing.number ++ octets2 number)
      { s with timing := { s.timing with number := number, timer := .start, steps := bump s.timing.steps } }
  else { s with timing := { s.timing with number := number, timer := .start } }

/-! ### REFIN (R42, R43) -/

/-- The watch after an accepted pulse: miss run 0, window restarted, and one more count while unqualified (R42). -/
def pulseAccepted (qualifyFrames : Num) (t : Timing) : Timing :=
  { t with
    missRun := 0, window := .sincePulse, pulseHeld := true
    refinQual := if t.refinQual.qualified then t.refinQual else credited qualifyFrames t.refinQual }

/-- The watch after a miss, before any start or disqualification (R43). -/
def missTaken (t : Timing) : Timing :=
  if t.refinQual.qualified then { t with window := .sinceMiss, missRun := t.missRun + 1 }
  else { t with window := .sinceMiss, refinQual := { t.refinQual with count := 0 } }

/-- REFIN disqualified: mark cleared, count and miss run 0, window stopped (R43). -/
def refinDisqualified (t : Timing) : Timing :=
  { t with refinQual := ⟨false, 0⟩, missRun := 0, window := .stopped }

/-- The disqualification of REFIN once its miss run reaches REFIN_MISS; a loss where it is the current source (R43,
R46). -/
def checkMissRun (s : State) : State :=
  if s.timing.refinQual.qualified ∧ s.params.refinMiss.toNat ≤ s.timing.missRun then
    if s.timing.source = some .refin then loseSource { s with timing := refinDisqualified s.timing }
    else { s with timing := refinDisqualified s.timing }
  else s

end Sys2Proof.Machine
end

