-- ==== Sys2Proof/Machine/Channel.lean ====
section
/-! DEFINITION. The Service Channel Unit (Section 7): the receive parser, the forward FIFO, arrivals at the intake, the
outgoing queue and the egress arbiter. -/

namespace Sys2Proof.Machine

/-! ### Outgoing queue and reply cache (R115, R116) -/

/-- The outgoing queue has a free slot beyond `reserved` slots held for a reply (R113, R133). -/
def slotFree (reserved : Nat) (s : State) : Bool :=
  decide (s.channel.outgoing.length + reserved < Config.queueDepth)

/-- Place a message at the end of the outgoing queue (R115). -/
def placeMessage (kind : OutgoingKind) (words : List Word) (s : State) : State :=
  { s with
    channel := { s.channel with
      outgoing := s.channel.outgoing ++ [{ kind := kind, words := words, given := 0, placed := s.starts }] } }

/-- The words of a reply with a body: destination 63, the device address as source (R105, R130). -/
def replyWords (address : Octet) (body : List Octet) : List Word :=
  messageWords controllerAddress address replyType body

/-- The body of a reply that carries no results: tag, overall status, result count 0 (Table 11-2). -/
def bareReply (tag overall : Octet) : List Octet := [tag, overall, 0]

/-! ### Arrivals (R113, R117) -/

/-- The check code as a request's key holds it, and the tag. -/
def sameKey (tag : Octet) (check : Num) (m : IntakeMessage) : Bool :=
  !m.group && decide (requestTag m.octets = tag) && decide (m.check = check)

/-- The cached reply under a key (R116). -/
def cached (tag : Octet) (check : Num) (cache : List CacheEntry) : Option CacheEntry :=
  cache.find? fun e => decide (e.tag = tag) && decide (e.check = check)

/-- A unicast request is dropped for want of a free slot (R113, R123). -/
def dropRequest (s : State) : State :=
  raise .requestDropped .none (octets2 (bump s.channel.requestDropped))
    { s with channel := { s.channel with requestDropped := bump s.channel.requestDropped } }

/-- Answer a request at once with a message that needs a free slot, or drop it (R113). -/
def answerOrDrop (words : List Word) (s : State) : State :=
  if slotFree 0 s then placeMessage .answer words s else dropRequest s

/-- Append a message to the intake. -/
def appendIntake (m : IntakeMessage) (s : State) : State :=
  { s with channel := { s.channel with intake := s.channel.intake ++ [m] } }

/-- The arrival of a unicast request: the tests of R113 in their order. -/
def unicastArrives (m : IntakeMessage) (s : State) : State :=
  if s.dispatcher.restart.isSome then s
  else if s.channel.intake.any (sameKey (requestTag m.octets) m.check) then s
  else
    match cached (requestTag m.octets) m.check s.channel.cache with
    | some e => answerOrDrop e.words s
    | none =>
      if Config.intakeDepth ≤ s.channel.intake.length then
        answerOrDrop (replyWords s.address (bareReply (requestTag m.octets) (overallOctet .busy))) s
      else appendIntake m s

/-- One more group copy dropped or not executed (R117, R118). -/
def dropGroup (s : State) : State :=
  { s with channel := { s.channel with group := { s.channel.group with dropped := bump s.channel.group.dropped } } }

/-- The arrival of a group copy (R117). -/
def groupArrives (m : IntakeMessage) (s : State) : State :=
  if s.dispatcher.restart.isSome then s
  else if Config.intakeDepth ≤ s.channel.intake.length then dropGroup s
  else appendIntake m s

/-! ### The forward FIFO (R111, R112) -/

/-- The FIFO holds 128 words. -/
def fifoFull (s : State) : Bool := decide (Config.fifoDepth ≤ s.channel.fifo.length)

/-- A word enters the FIFO, marked with the start at which, or after which, it entered (R111). -/
def pushWord (w : Word) (s : State) : State :=
  { s with channel := { s.channel with fifo := s.channel.fifo ++ [{ word := w, entered := s.starts }] } }

/-- A word overflows the FIFO (R112, R123). -/
def overflowWord (s : State) : State :=
  raise .forwardOverflow .none (octets2 (bump s.channel.forwardOverflow))
    { s with channel := { s.channel with forwardOverflow := bump s.channel.forwardOverflow } }

/-- Set ABORT owed. -/
def oweAbort (s : State) : State := { s with channel := { s.channel with abortOwed := true } }

/-- An ABORT is placed for a forwarded copy, or owed while the FIFO is full (R110). -/
def placeAbort (s : State) : State := if fifoFull s then oweAbort s else pushWord abortWord s

/-- The HEAD of a forwarded copy finds no room: the FIFO is full, or an ABORT is owed (R112). -/
def headRefused (s : State) : Bool := fifoFull s || s.channel.abortOwed

/-- The HEAD of a forwarded copy arrives (R112). -/
def forwardHead (w : Word) (s : State) : State := if headRefused s then overflowWord s else pushWord w s

/-- A later word of a forwarded copy arrives: stored, or overflowing and truncating its message, or discarded while
the copy is not being stored (R112). -/
def forwardLater (storing : Bool) (w : Word) (s : State) : State :=
  if storing then (if fifoFull s then oweAbort (overflowWord s) else pushWord w s) else s

/-- Whether the copy is still being stored after that word (R112). -/
def stillStoring (storing : Bool) (s : State) : Bool := storing && !fifoFull s

/-- The step by which the owed ABORT is stored is due: there is room (R112). -/
def abortDue (s : State) : Bool := s.channel.abortOwed && !fifoFull s

/-- Store the owed ABORT, when there is room (R112). -/
def storeOwedAbort (s : State) : State :=
  if abortDue s then
    pushWord abortWord { s with channel := { s.channel with abortOwed := false } }
  else s

/-! ### The receive parser (R103 to R110) -/

/-- Replace the parser state. -/
def setParser (p : Option OpenMessage) (s : State) : State := { s with channel := { s.channel with parser := p } }

/-- A group destination of which the part is a member: ALL, or one named in GROUP_0 to GROUP_3 (R106). -/
def memberOf (dest : Octet) (p : Params) : Bool :=
  decide (dest = 31#8) ||
    (decide (32 ≤ dest.toNat) && decide (dest.toNat ≤ 62) && p.groups.toList.any fun g => decide (g = dest.setWidth 16))

/-- The disposition of a message by its destination (R106, R107). -/
def dispositionOf (dest : Octet) (s : State) : Disposition :=
  if dest ≠ 0 ∧ dest = s.address then .consume
  else if memberOf dest s.params then .both
  else .forward

/-- The message a HEAD opens. -/
def openedMessage (w : Word) (s : State) : OpenMessage :=
  { disposition := dispositionOf (octetAt w 2) s, count := 1, dest := octetAt w 2, src := octetAt w 1
    mtype := octetAt w 0, octets := []
    storing := decide (dispositionOf (octetAt w 2) s ≠ .consume) && !headRefused s }

/-- A HEAD taken in BETWEEN opens a message; under FORWARD and BOTH it goes to the forward FIFO (R107). -/
def openMessage (w : Word) (s : State) : State :=
  if dispositionOf (octetAt w 2) s = .consume then setParser (some (openedMessage w s)) s
  else setParser (some (openedMessage w s)) (forwardHead w s)

/-- The open message is abandoned: its consumed copy is discarded, its forwarded copy, if every word of it so far was
stored, is ended by an ABORT (R110, R112). -/
def abandonMessage (s : State) : State :=
  match s.channel.parser with
  | none => s
  | some m => setParser none (if m.storing then placeAbort s else s)

/-- One more stray word (R110). -/
def strayWord (s : State) : State := { s with channel := { s.channel with stray := bump s.channel.stray } }

/-- The message octets of a message: the content octets of its BODY words less the pad octets (R104). -/
def lessPad (octets : List Octet) (pad : Nat) : List Octet := octets.take (octets.length - pad)

/-- The pad count of a TAIL is valid (R104). -/
def padValid (octets : List Octet) (pad : Nat) : Bool := decide (pad ≤ 2) && (decide (octets ≠ []) || decide (pad = 0))

/-- The check of a message against its TAIL is good (R105). -/
def checkGood (m : OpenMessage) (tail : Word) : Bool :=
  padValid m.octets (octetAt tail 0).toNat &&
    decide (checkCode (m.dest :: m.src :: m.mtype :: lessPad m.octets (octetAt tail 0).toNat) =
      num2 (octetAt tail 2) (octetAt tail 1))

/-- The consumed copy of a message as the intake takes it. -/
def consumedCopy (m : OpenMessage) (tail : Word) : IntakeMessage :=
  { group := decide (m.disposition = .both), dest := m.dest, mtype := m.mtype
    octets := lessPad m.octets (octetAt tail 0).toNat, check := num2 (octetAt tail 2) (octetAt tail 1) }

/-- One more bad check (R108, R123). -/
def countBadCheck (s : State) : State := { s with channel := { s.channel with badCheck := bump s.channel.badCheck } }

/-- The end of a message at its TAIL once its forwarded copy is served: the check decides, and a good consumed copy is
handed on (R108). -/
def judgeMessage (m : OpenMessage) (tail : Word) (s : State) : State :=
  if checkGood m tail then
    match m.disposition with
    | .consume => unicastArrives (consumedCopy m tail) s
    | .both => groupArrives (consumedCopy m tail) s
    | .forward => s
  else countBadCheck s

/-- The content octets of a service word. -/
def contentOctets (w : Word) : List Octet := [octetAt w 2, octetAt w 1, octetAt w 0]

/-- A BODY word in IN_MESSAGE (R108); as the 64th word it makes the message over-long, and the forwarded copy gets an
ABORT in its place (R109). -/
def takeBody (w : Word) (m : OpenMessage) (s : State) : State :=
  if m.count < 63 then
    setParser (some { m with count := m.count + 1, octets := m.octets ++ contentOctets w, storing := stillStoring m.storing s })
      (forwardLater m.storing w s)
  else setParser none (if m.storing then placeAbort s else s)

/-- A TAIL word in IN_MESSAGE (R108). -/
def takeTail (w : Word) (m : OpenMessage) (s : State) : State :=
  judgeMessage m w (setParser none (forwardLater m.storing w s))

/-- The parser takes a service word (R107 to R110). -/
def parseWord (h : Heard) (s : State) : State :=
  match heardKind h, s.channel.parser with
  | .idle, _ => s
  | .head, none => openMessage h.content s
  | .head, some _ => openMessage h.content (abandonMessage s)
  | .body, some m => takeBody h.content m s
  | .tail, some m => takeTail h.content m s
  | .body, none => strayWord s
  | .tail, none => strayWord s
  | .malformed, none => strayWord s
  | .abort, none => s
  | .abort, some _ => abandonMessage s
  | .malformed, some _ => abandonMessage s

/-- The parser's part in a start: the service word of the management ingress lane's delivered frame; no frame counts
as IDLE (R107). -/
def parserTakes (frames : Tab 16 (Option FrameRecord)) (s : State) : State :=
  match frames.get s.channel.mgmtIngress with
  | some r => parseWord r.service s
  | none => s

/-- The management ingress lane leaves SYNC or DRIFT: an open message is abandoned (R110). -/
def parserLosesLane (l : LaneId) (s : State) : State := if s.channel.mgmtIngress = l then abandonMessage s else s

/-! ### The egress arbiter (R119, R120) -/

/-- A service word the arbiter gives, and whether it is the TAIL of a message of the outgoing queue. -/
structure Given where
  word : Word
  localTail : Bool
  deriving DecidableEq, Repr

/-- Nothing to send: an IDLE word. -/
def givenIdle : Given := { word := idleWord, localTail := false }

/-- The FIFO head, if it entered before the present start (R119). -/
def fifoReady (s : State) : Option Word :=
  match s.channel.fifo with
  | f :: _ => if f.entered < s.starts then some f.word else none
  | [] => none

/-- Remove the FIFO head, which is given; TAIL and ABORT end the message (R119). -/
def giveForward (w : Word) (s : State) : Given × State :=
  (⟨w, false⟩,
    { s with
      channel := { s.channel with
        fifo := s.channel.fifo.tail
        arbiter := if wordKind w = .tail ∨ wordKind w = .abort then .between else .sendingForward } })

/-- A message of the queue whose HEAD has not been given and that was placed before the present start (R119). -/
def localReady (s : State) : Bool :=
  match s.channel.outgoing.find? fun m => decide (m.given = 0) with
  | some m => decide (m.placed < s.starts)
  | none => false

/-- The queue with the next word of its first unfinished message counted as given (R115: a message whose TAIL has been
given stays in the queue until that is reported emitted, and is passed by). -/
def giveInQueue : List OutgoingMessage → List OutgoingMessage
  | [] => []
  | m :: ms => if m.given < m.words.length then { m with given := m.given + 1 } :: ms else m :: giveInQueue ms

/-- The first unfinished message of the queue. -/
def unfinished (s : State) : Option OutgoingMessage :=
  s.channel.outgoing.find? fun m => decide (m.given < m.words.length)

/-- Give the next word of the first unfinished message of the queue; its TAIL ends the message (R119). -/
def giveLocal (s : State) : Given × State :=
  match unfinished s with
  | none => (givenIdle, { s with channel := { s.channel with arbiter := .between } })
  | some m =>
    (⟨m.words.getD m.given idleWord, decide (m.given + 1 = m.words.length)⟩,
      { s with
        channel := { s.channel with
          outgoing := giveInQueue s.channel.outgoing
          arbiter := if m.given + 1 = m.words.length then .between else .sendingLocal } })

/-- Set the pass-over count (R120). -/
def setPassOver (n : Nat) (s : State) : State := { s with channel := { s.channel with passOver := n } }

/-- The arbiter's choice in BETWEEN (R120). -/
def chooseMessage (s : State) : Given × State :=
  match fifoReady s, localReady s with
  | some w, false => giveForward w s
  | none, true => giveLocal (setPassOver 0 s)
  | some w, true =>
    if s.channel.passOver < Config.passOverLimit then giveForward w (setPassOver (s.channel.passOver + 1) s)
    else giveLocal (setPassOver 0 s)
  | none, false => (givenIdle, s)

/-- The service word of a start (R119, R120). -/
def arbiterGives (s : State) : Given × State :=
  match s.channel.arbiter with
  | .between => chooseMessage s
  | .sendingForward =>
    match fifoReady s with
    | some w => giveForward w s
    | none => (givenIdle, s)
  | .sendingLocal => giveLocal s

/-- The parser may store up to two words at one start (an ABORT for an abandoned message, and the HEAD that abandoned
it), so with fewer than two places left the outcome can depend on whether the arbiter removes a word first. -/
def fifoTight (s : State) : Bool := decide (Config.fifoDepth < s.channel.fifo.length + 2)

/-- The next draw from the free value `Config.parserFirst`. -/
def drawn (s : State) : State := { s with draws := s.draws + 1 }

/-- The parser and the arbiter act at the same start, the parser taken first. -/
def parserThenArbiter (frames : Tab 16 (Option FrameRecord)) (s : State) : Given × State :=
  arbiterGives (parserTakes frames s)

/-- The parser and the arbiter act at the same start, the arbiter taken first. -/
def arbiterThenParser (frames : Tab 16 (Option FrameRecord)) (s : State) : Given × State :=
  ((arbiterGives s).1, parserTakes frames (arbiterGives s).2)

/-- The parser and the arbiter act at the same start. The manual gives no order between them; it matters only while the
FIFO is nearly full, where it is the free value `Config.parserFirst` (assumption log 3). -/
def channelAtStart (frames : Tab 16 (Option FrameRecord)) (s : State) : Given × State :=
  if fifoTight s then
    if Config.parserFirst s.draws then parserThenArbiter frames (drawn s) else arbiterThenParser frames (drawn s)
  else parserThenArbiter frames s

/-! ### The management lanes (R121, R122) -/

/-- Replace lane-change-pending. -/
def setChange (c : Option LaneChange) (s : State) : State := { s with dispatcher := { s.dispatcher with change := c } }

/-- A pending change takes effect at this start: its holder's reply TAIL has been emitted, or it is held by the image
and the arbiter is in BETWEEN (R122). -/
def changeEffective (c : LaneChange) (s : State) : Bool :=
  match c.holder with
  | .request _ => c.armed
  | .image => decide (s.channel.arbiter = .between)

/-- Set MGMT_INGRESS and MGMT_EGRESS. -/
def setMgmtLanes (i e : LaneId) (s : State) : State :=
  { s with channel := { s.channel with mgmtIngress := i, mgmtEgress := e } }

/-- Put the new management lanes into force; a message open on the old ingress lane is abandoned (R122). -/
def changeLanes (c : LaneChange) (s : State) : State :=
  setMgmtLanes (c.ingress.getD s.channel.mgmtIngress) (c.egress.getD s.channel.mgmtEgress)
    (if c.ingress.getD s.channel.mgmtIngress = s.channel.mgmtIngress then s else abandonMessage s)

/-- The lane change of a start, if one is due: it takes effect, or is discarded where the new management ingress lane is
not enabled (R122). -/
def takeLaneChange (s : State) : State :=
  match s.dispatcher.change with
  | none => s
  | some c =>
    if changeEffective c s then
      if inMask s.params.ingressEnable (c.ingress.getD s.channel.mgmtIngress) then setChange none (changeLanes c s)
      else setChange none s
    else s

end Sys2Proof.Machine
end

