-- ==== Sys2Proof/Machine/NoticeMessages.lean ====
section
/-! DEFINITION. Notice messages (sections 9.3 and 9.4): building, copies, the retransmission timer, acknowledgement, and
the report of a unicast execution. -/

namespace Sys2Proof.Machine

/-- The outgoing queue holds a notice message. -/
def noticeQueued (s : State) : Bool := s.channel.outgoing.any fun m => decide (m.kind = .notice)

/-- A notice message can be placed: a slot is free beyond those held for a reply, and the queue holds no notice message
(R115, R133). -/
def noticePlaceable (reserved : Nat) (s : State) : Bool := slotFree reserved s && !noticeQueued s

/-- Entries not carried by the outstanding message. -/
def uncarried (n : NoticeUnit) : List NoticeEntry := n.list.filter fun e => !e.carried

/-- The entries a new message carries: the oldest not carried, up to 8 (R154). -/
def chosenEntries (n : NoticeUnit) : List NoticeEntry := (uncarried n).take Config.messageEntries

/-- The list with the first `k` entries that are not carried marked carried. -/
def markCarried : Nat → List NoticeEntry → List NoticeEntry
  | _, [] => []
  | 0, es => es
  | k + 1, e :: es => if e.carried then e :: markCarried (k + 1) es else { e with carried := true } :: markCarried k es

/-- The body of a notice message (Table 11-3). -/
def noticeBody (seq : Octet) (es : List NoticeEntry) : List Octet :=
  seq :: octetOf es.length :: es.flatMap entryOctets

/-- The words of a notice message (R105, R154). -/
def noticeWords (address seq : Octet) (es : List NoticeEntry) : List Word :=
  messageWords controllerAddress address noticeType (noticeBody seq es)

/-- The building of a notice message is due (R154). -/
def buildDue (reserved : Nat) (s : State) : Bool :=
  decide (s.notices.state = .ready) && operating s && !(uncarried s.notices).isEmpty && noticePlaceable reserved s

/-- The Notice Unit with a new message outstanding (R154). -/
def withOutstanding (address : Octet) (n : NoticeUnit) : NoticeUnit :=
  { n with
    list := markCarried Config.messageEntries n.list
    state := .awaiting
    outstanding := some
      { seq := n.nextSeq, entries := chosenEntries n, words := noticeWords address n.nextSeq (chosenEntries n) }
    copy := .queued
    timer := none
    retries := 0
    nextSeq := n.nextSeq + 1 }

/-- Build and place a notice message, when that is due (R154). -/
def buildNotice (reserved : Nat) (s : State) : State :=
  if buildDue reserved s then
    placeMessage .notice (noticeWords s.address s.notices.nextSeq (chosenEntries s.notices))
      { s with notices := withOutstanding s.address s.notices }
  else s

/-- An owed copy of the outstanding message can be placed (R152). -/
def copyDue (reserved : Nat) (s : State) : Bool :=
  match s.notices.copy, s.notices.outstanding with
  | .owed _, some _ => noticePlaceable reserved s
  | _, _ => false

/-- The Notice Unit once its owed copy is placed; after an expiry the retry count rises (R152, R155, R157). -/
def copyPlaced (n : NoticeUnit) : NoticeUnit :=
  match n.copy with
  | .owed true => { n with copy := .queued, retries := n.retries + 1 }
  | .owed false => { n with copy := .queued }
  | _ => n

/-- Place an owed copy, when that is due (R152). -/
def placeCopy (reserved : Nat) (s : State) : State :=
  match s.notices.outstanding with
  | some m => if copyDue reserved s then placeMessage .notice m.words { s with notices := copyPlaced s.notices } else s
  | none => s

/-- What the Notice Unit does "at the first moment" the queue allows (R152, R154). -/
def noticeMoment (reserved : Nat) (s : State) : State := buildNotice reserved (placeCopy reserved s)

/-! ### The timer (R152, R155) -/

/-- Each master frame start decreases the frames remaining of a running timer (R152). -/
def tickTimer (n : NoticeUnit) : NoticeUnit :=
  match n.timer with
  | some r => if r = 0 then n else { n with timer := some (r - 1) }
  | none => n

/-- The TAIL of a notice message has been emitted: a copy in QUEUED starts the timer; any other report changes nothing
(R152). -/
def noticeEmitted (noticeWait : Num) (n : NoticeUnit) : NoticeUnit :=
  if n.copy = .queued ∧ n.outstanding.isSome then { n with copy := .timing, timer := some noticeWait } else n

/-- The expiry of the retransmission timer is due (R152, R155). -/
def expiryDue (s : State) : Bool := decide (s.notices.timer = some 0)

/-- The Notice Unit after an expiry (R155). -/
def expired (noticeRetries : Num) (n : NoticeUnit) : NoticeUnit :=
  if n.retries < noticeRetries.toNat then { n with timer := none, copy := .owed true }
  else { n with timer := none, state := .stalled, copy := .idle }

/-- Take the expiry, when it is due (R155). -/
def takeExpiry (s : State) : State :=
  if expiryDue s then { s with notices := expired s.params.noticeRetries s.notices } else s

/-! ### Reports and acknowledgement (R156, R157) -/

/-- The report of a unicast execution: a STALLED unit returns to AWAITING with a copy owed (R157). -/
def reported (n : NoticeUnit) : NoticeUnit :=
  if n.state = .stalled then { n with state := .awaiting, retries := 0, copy := .owed false } else n

/-- The queue without a notice message that has not been started (R115, R156). -/
def withdrawn (ms : List OutgoingMessage) : List OutgoingMessage :=
  ms.filter fun m => !(decide (m.kind = .notice) && decide (m.given = 0))

/-- The Notice Unit after the acknowledgement of its outstanding message (R156). -/
def acknowledged (frame : Num) (n : NoticeUnit) : NoticeUnit :=
  transferLost frame
    { setList (uncarried n) n with
      outstanding := none, state := .ready, copy := .idle, timer := none, retries := 0 }

/-- The acknowledgement (R156). -/
def acknowledge (s : State) : State :=
  { s with
    notices := acknowledged s.timing.number s.notices
    channel := { s.channel with outgoing := withdrawn s.channel.outgoing } }

end Sys2Proof.Machine
end

