-- ==== Sys2Proof/Machine/Sequences.lean ====
section
/-! DEFINITION. The Test Sequence Unit (Section 6): the sequences, the generators, and the checkers' detection,
tracking and endings. -/

namespace Sys2Proof.Machine

/-! ### The sequences (R90) -/

/-- The offsets back from bit k whose exclusive-or is bit k. -/
def taps : SequenceKind → List Nat
  | .count => []
  | .pr13 => [1, 3, 4, 13]
  | .pr19 => [1, 2, 5, 19]
  | .pr29 => [2, 29]

/-- The degree L of a PR kind; 32 for COUNT, whose whole word is its state. -/
def degree : SequenceKind → Nat
  | .count => 32 | .pr13 => 13 | .pr19 => 19 | .pr29 => 29

/-- Shift in the next bit of the sequence; the latest bit stands lowest. -/
def prBit (ts : List Nat) (r : Word) : Word :=
  (r <<< 1) ||| (if ts.foldl (fun b t => b ^^ r.getLsbD (t - 1)) false then 1#32 else 0#32)

/-- Shift in `n` further bits. -/
def prBits (ts : List Nat) : Nat → Word → Word
  | 0, r => r
  | n + 1, r => prBits ts n (prBit ts r)

/-- The word that follows `w` in the sequence. -/
def nextInSequence : SequenceKind → Word → Word
  | .count, w => w + 1
  | k, w => prBits (taps k) 32 w

/-- The first word after seeding: 0 for COUNT; bits b0 to b31 for a PR kind, whose first L bits are all 1. -/
def firstWord : SequenceKind → Word
  | .count => 0
  | k => prBits (taps k) (32 - degree k) (BitVec.ofNat 32 (2 ^ degree k - 1))

/-- The word that follows `w` where the sequence arrives with every bit inverted (R95, R97). -/
def nextReceived (k : SequenceKind) (inverted : Bool) (w : Word) : Word :=
  if inverted then ~~~ (nextInSequence k (~~~ w)) else nextInSequence k w

/-! ### Generators -/

/-- A generator just seeded with a kind (R91); OFF has next word 0. -/
def seeded (kind : Option SequenceKind) : Generator :=
  { kind := kind, nextWord := match kind with | none => 0 | some k => firstWord k }

/-- The word a generator presents at a master frame start (R89). -/
def presented (g : Generator) : Word :=
  match g.kind with
  | none => 0
  | some _ => g.nextWord

/-- The generator after the start (R89). -/
def advanced (g : Generator) : Generator :=
  match g.kind with
  | none => g
  | some k => { g with nextWord := nextInSequence k g.nextWord }

/-! ### Detection (R95, R96) -/

/-- The PR candidate of a seed, unless its L bits are all 0. -/
def prCandidate (k : SequenceKind) (inverted : Bool) (seed : Word) : List Candidate :=
  if (if inverted then ~~~ seed else seed) &&& BitVec.ofNat 32 (2 ^ degree k - 1) = 0 then []
  else [{ kind := k, inverted := inverted, predicted := nextReceived k inverted seed }]

/-- A new round from a seed: its candidates in order of preference. -/
def startRound (seed : Word) : Round :=
  { seed := seed
    standing := { kind := .count, inverted := false, predicted := seed + 1 } ::
      (prCandidate .pr13 false seed ++ prCandidate .pr19 false seed ++ prCandidate .pr29 false seed ++
        prCandidate .pr13 true seed ++ prCandidate .pr19 true seed ++ prCandidate .pr29 true seed)
    compared := 0 }

/-- The candidate after its prediction was met. -/
def advanceCandidate (c : Candidate) : Candidate :=
  { c with predicted := nextReceived c.kind c.inverted c.predicted }

/-- The candidates that a sampled word leaves standing, advanced. -/
def survivors (w : Word) (cs : List Candidate) : List Candidate :=
  (cs.filter fun c => decide (c.predicted = w)).map advanceCandidate

/-- A sampled word in DETECT: it seeds a round, or is compared within one; the fourth word that leaves a candidate
standing makes the first of them the winner (R95, R96). -/
def detectWord (w : Word) (k : Checker) : Checker :=
  match k.round with
  | none => { k with round := some (startRound w) }
  | some r =>
    match survivors w r.standing with
    | [] => { k with round := some (startRound w) }
    | c :: cs =>
      if r.compared + 1 < Config.confirmWords then
        { k with round := some { r with standing := c :: cs, compared := r.compared + 1 } }
      else
        { k with state := .track, detected := some (c.kind, c.inverted), tracked := true, reference := c.predicted
                 erroredRun := 0, round := none }

/-! ### Tracking (R97, R98) -/

/-- The number of bit positions in which two words differ. -/
def differingBits (a b : Word) : Nat :=
  (List.range 32).countP fun i => (a ^^^ b).getLsbD i

/-- The reference one word along the tracked sequence. -/
def nextReference (k : Checker) : Word :=
  match k.detected with
  | some (kind, inverted) => nextReceived kind inverted k.reference
  | none => k.reference

/-- A sampled word in TRACK (R97); the eighth consecutive errored word loses track (R98). -/
def trackWord (w : Word) (k : Checker) : Checker :=
  if w = k.reference then
    { k with compared := bump k.compared, erroredRun := 0, reference := nextReference k }
  else if k.erroredRun + 1 < Config.trackLimit then
    { k with compared := bump k.compared, errored := bump k.errored
             bitErrors := bumpBy k.bitErrors (differingBits w k.reference), erroredRun := k.erroredRun + 1
             reference := nextReference k }
  else
    { k with compared := bump k.compared, errored := bump k.errored
             bitErrors := bumpBy k.bitErrors (differingBits w k.reference), erroredRun := 0
             reference := nextReference k, state := .detect, round := none, lost := bump k.lost }

/-- A checker is in DETECT or TRACK. -/
def checking (k : Checker) : Bool := decide (k.state = .detect) || decide (k.state = .track)

/-- The sample of a master frame start (R94): `heard` is the word of the watched slot, if a frame was delivered. Its
code-error flag has no bearing. -/
def sampleChecker (heard : Option Heard) (k : Checker) : Checker :=
  if checking k ∧ k.remaining ≠ 0 then
    match heard, k.state with
    | some h, .detect => detectWord h.content { k with remaining := k.remaining - 1 }
    | some h, .track => trackWord h.content { k with remaining := k.remaining - 1 }
    | _, _ => { k with remaining := k.remaining - 1 }
  else k

/-! ### Starting and ending a run -/

/-- The record of a run just started (R93). -/
def startedChecker (lane : LaneId) (slot : SlotId) (frames : Num) : Checker :=
  { Checker.reset with state := .detect, lane := lane, slot := slot, frameCount := frames, remaining := frames }

/-- The result of a run that ends at its frame count (R99). -/
def countedResult (k : Checker) : CheckResult :=
  if k.tracked then (if k.errored = 0 then .clean else .errors) else .notFound

/-- The errored words in CHECK_DONE: two octets, FFFFH above 65534 (R99). -/
def erroredOctets (k : Checker) : List Octet :=
  if k.errored.toNat ≤ 65534 then octets2 (k.errored.setWidth 16) else octets2 0xFFFF#16

/-- The record of a run ended with a result: a detection round in progress is discarded, every count stands. -/
def endedChecker (r : CheckResult) (k : Checker) : Checker :=
  { k with state := .done, result := some r, round := none }

/-- The data of CHECK_DONE (R99). -/
def checkDoneData (r : CheckResult) (k : Checker) : List Octet :=
  [checkResultOctet (some r), detectedOctet k.detected] ++ erroredOctets k

/-- End a checker's run with a result and raise CHECK_DONE (R99 to R101). -/
def endChecker (c : CheckerId) (r : CheckResult) (s : State) : State :=
  raise .checkDone (.checker c) (checkDoneData r (s.checkers.get c))
    (setChecker c (endedChecker r (s.checkers.get c)) s)

/-- The end of a run by its count is due: the start that brought frames remaining to 0 has been taken (R99). -/
def checkEndDue (c : CheckerId) (s : State) : Bool :=
  checking (s.checkers.get c) && decide ((s.checkers.get c).remaining = 0)

/-- Take the end of a run by its count, when it is due (R99). -/
def takeCheckEnd (c : CheckerId) (s : State) : State :=
  if checkEndDue c s then endChecker c (countedResult (s.checkers.get c)) s else s

/-- A run that watches a lane that enters SEEK or OFF ends with LANE_LOST (R101). -/
def loseChecker (l : LaneId) (c : CheckerId) (s : State) : State :=
  if checking (s.checkers.get c) ∧ (s.checkers.get c).lane = l then endChecker c .laneLost s else s

/-- R101 for every checker. -/
def loseCheckers (l : LaneId) (s : State) : State :=
  (List.finRange 4).foldl (fun s c => loseChecker l c s) s

/-- The checkers that lost track between two states of the unit raise CHECK_LOST (R98). -/
def raiseCheckLost (before : Tab 4 Checker) (s : State) : State :=
  (List.finRange 4).foldl (fun s c =>
    if (before.get c).state = .track ∧ (s.checkers.get c).state = .detect then
      raise .checkLost (.checker c) (octets2 (s.checkers.get c).lost) s
    else s) s

/-- What checker `k` sees of the frames delivered at a start: the word of its watched slot, if its watched lane's store
delivered a frame (section 6.2). -/
def watchedWord (delivered : Tab 16 (Option FrameRecord)) (k : Checker) : Option Heard :=
  (delivered.get k.lane).map fun r => r.payload.get k.slot

/-- Every checker samples the frames delivered at a master frame start (R94). -/
def sampleCheckers (delivered : Tab 16 (Option FrameRecord)) (s : State) : State :=
  raiseCheckLost s.checkers
    { s with
      checkers := Tab.ofFn fun c => sampleChecker (watchedWord delivered (s.checkers.get c)) (s.checkers.get c) }

end Sys2Proof.Machine
end

