-- ==== Sys2Proof/Machine/Switching.lean ====
section
/-! DEFINITION. The Connection Map's reactions to a master frame start (sections 4.4 and 4.6) and the Switch Core
(sections 5.1 to 5.4). -/

namespace Sys2Proof.Machine

/-! ### The commit (R62 to R67) -/

/-- A step from number `p` to number `q` passes frame `f`: it is forward, and the distance from `p` to `f` is at least
1 and at most the distance from `p` to `q` (R67). -/
def passes (p q f : Num) : Bool :=
  ahead p q && decide (1 ≤ distance p f) && decide (distance p f ≤ distance p q)

/-- A PENDING commit fires at the start numbered `q`, the start before having been `p` (R64, R67); the first start
after a reset has none before it. -/
def fires (isFirst : Bool) (p q : Num) : CommitRecord → Bool
  | .none => false
  | .next => true
  | .frame f => decide (q = f) || (!isFirst && passes p q f)

/-- The other bank. -/
def otherBank : BankName → BankName
  | .a => .b
  | .b => .a

/-- The map after a commit: roles exchanged, epoch up, record NONE (R66). -/
def committed (m : ConnectionMap) : ConnectionMap :=
  { m with active := otherBank m.active, epoch := m.epoch + 1, commit := .none }

/-- Fire a commit whose target is met at the start numbered `q`; COMMIT_DONE carries the new epoch and `q` (R66). -/
def fireCommit (isFirst : Bool) (p q : Num) (s : State) : State :=
  if fires isFirst p q s.map.commit then
    raise .commitDone .none (octets2 (s.map.epoch + 1) ++ octets2 q) { s with map := committed s.map }
  else s

/-! ### The copy engine (R59 to R61) -/

/-- The engine is RUNNING (R59). -/
def copying (m : ConnectionMap) : Bool := m.copy.isSome

/-- The SHADOW bank with one egress lane copied from the ACTIVE bank. -/
def copiedLane (k : LaneId) (m : ConnectionMap) : Bank := (shadowBank m).set k ((activeBank m).get k)

/-- The engine's step at a master frame start: one lane is copied and next lane advances (R60). -/
def copyStep (m : ConnectionMap) : ConnectionMap :=
  match m.copy with
  | none => m
  | some k => if h : k < 16 then { setShadow (copiedLane ⟨k, h⟩ m) m with copy := some (k + 1) } else m

/-- The end of the copy is due: the start that copied OUT15 has been taken (R60). -/
def copyEndDue (s : State) : Bool :=
  match s.map.copy with
  | some k => decide (16 ≤ k)
  | none => false

/-- Take the end of the copy, when it is due: the engine is IDLE and COPY_DONE carries the epoch (R60). -/
def takeCopyEnd (s : State) : State :=
  if copyEndDue s then
    raise .copyDone .none (octets2 s.map.epoch) { s with map := { s.map with copy := none } }
  else s

/-! ### The Switch Core (R74 to R81) -/

/-- The source word of a LANE entry, with its flag, where the store delivered a frame (R76). -/
def sourceWord (frames : Tab 16 (Option FrameRecord)) (l : LaneId) (t : SlotId) : Option Heard :=
  (frames.get l).map fun r => r.payload.get t

/-- The egress word of a LANE entry whose source word is not present, and whether it is a substitution (R77). -/
def lossWord (loss : LossAction) (heard : Option Heard) (held : Word) : Word × Bool :=
  match loss, heard with
  | .fill w, _ => (w, true)
  | .hold, _ => (held, true)
  | .pass, some h => (h.content, false)
  | .pass, none => (0, true)

/-- The egress word an entry gives at a start, and whether it is a substitution (R75 to R77). -/
def formWord (frames : Tab 16 (Option FrameRecord)) (gens : Tab 4 Generator) (held : Word) : Entry → Word × Bool
  | .fill w => (w, false)
  | .gen g => (presented (gens.get g), false)
  | .lane l t loss =>
    match sourceWord frames l t with
    | some h => if h.flagged then lossWord loss (some h) held else (h.content, false)
    | none => lossWord loss none held

/-- The word formed at an egress position, and whether it is a substitution (R74). -/
def formAt (frames : Tab 16 (Option FrameRecord)) (s : State) (k : LaneId) (t : SlotId) : Word × Bool :=
  formWord frames s.generators ((s.hold.get k).get t) (((activeBank s.map).get k).get t)

/-- The payload of egress lane `k` (R74). -/
def payloadOf (frames : Tab 16 (Option FrameRecord)) (s : State) (k : LaneId) : Tab 40 Word :=
  Tab.ofFn fun t => (formAt frames s k t).1

/-- The hold words of egress lane `k` after the start: each word formed that is no substitution (R79). -/
def heldAfter (frames : Tab 16 (Option FrameRecord)) (s : State) (k : LaneId) : Tab 40 Word :=
  Tab.ofFn fun t => if (formAt frames s k t).2 then (s.hold.get k).get t else (formAt frames s k t).1

/-- The payloads of the egress lanes that are ON at the start (R74, R84). -/
def payloads (frames : Tab 16 (Option FrameRecord)) (s : State) : Tab 16 (Option (Tab 40 Word)) :=
  Tab.ofFn fun k => if inMask s.params.egressEnable k then some (payloadOf frames s k) else none

/-- The hold words after the start; those of a lane that is OFF stand (R74, R79). -/
def updateHold (frames : Tab 16 (Option FrameRecord)) (s : State) : State :=
  { s with hold := Tab.ofFn fun k => if inMask s.params.egressEnable k then heldAfter frames s k else s.hold.get k }

/-- Every generator advances (R89). -/
def advanceGenerators (s : State) : State :=
  { s with generators := Tab.ofFn fun g => advanced (s.generators.get g) }

end Sys2Proof.Machine
end

