-- ==== Sys2Proof/Machine/Start.lean ====
section
/-! DEFINITION. The master frame start: the one event at which every block reacts (Section 3 introduction, R47). -/

namespace Sys2Proof.Machine

/-- The service word of an egress lane's frame: the arbiter's word on the management egress lane, IDLE elsewhere
(R86). -/
def serviceFor (given : Given) (s : State) (k : LaneId) : Word :=
  if k = s.channel.mgmtEgress then given.word else idleWord

/-- The frames of a start, each with the number of the start in its marker word (R82, R83). -/
def frameSet (given : Given) (words : Tab 16 (Option (Tab 40 Word))) (s : State) : FrameSet :=
  { frames := Tab.ofFn fun k =>
      (words.get k).map fun p =>
        { marker := markerWord s.timing.number, payload := p, service := serviceFor given s k }
    localTail := given.localTail }

/-- Each Egress Framer takes its enable state from the mask (R84); the frames of the start follow those in sending
(R82). -/
def sendFrames (given : Given) (words : Tab 16 (Option (Tab 40 Word))) (s : State) : State :=
  { s with
    egress :=
      { enabled := Tab.ofFn fun k => inMask s.params.egressEnable k
        sending := s.egress.sending ++ [frameSet given words s] } }

/-- A failed attempt's successor becomes due at the first start after the failure (R164). -/
def tickLoader (n : Loader) : Loader := if n.next = .awaitsStart then { n with next := .due } else n

/-- Every store is read, the start is numbered, and the UNDER slips and the number step are raised (R24, R29, R50,
R51). `origin` is the timing lane of a lane-timed start. -/
def openStart (origin : Option LaneId) (s : State) : State :=
  raiseUnderSlips s.stores (takeNumber (startNumber origin (delivered s.stores) s) (readStores s))

/-- The survey's sample of a start: `before` are the stores before their reads (R33). -/
def surveyAtStart (before : Tab 16 Store) (s : State) : State :=
  { s with
    survey := sampleSurvey (deliveredBy (before.get s.survey.lane)) (underSlips (before.get s.survey.lane))
      (fillOf (s.stores.get s.survey.lane)) s.timing.number s.survey }

/-- The copy engine's step, if it is RUNNING (R60). -/
def stepCopy (s : State) : State := { s with map := copyStep s.map }

/-- The map's and the measuring units' reactions: the commit fires, the copy engine steps, the checkers and the survey
sample. `before` is the state as the start found it. -/
def mapAndMeasure (before s : State) : State :=
  surveyAtStart before.stores
    (sampleCheckers (delivered before.stores)
      (stepCopy (fireCommit (decide (before.starts = 1)) before.timing.number s.timing.number s)))

/-- Hold words and generators after the words of the start are formed (R79, R89). -/
def afterWords (frames : Tab 16 (Option FrameRecord)) (s : State) : State := advanceGenerators (updateHold frames s)

/-- The payload is formed from the bank that is ACTIVE once a commit has fired; then parser and arbiter take their
words and the frames go out (R55, R74, R82, R107, R119). -/
def switchAndSend (frames : Tab 16 (Option FrameRecord)) (s : State) : State :=
  sendFrames (channelAtStart frames (afterWords frames s)).1 (payloads frames s)
    (channelAtStart frames (afterWords frames s)).2

/-- The timers that count starts: the retransmission timer (R152) and the loader's next attempt (R164). -/
def countStart (s : State) : State :=
  { s with notices := tickTimer s.notices, loader := tickLoader s.loader }

/-- The start is taken: it gets its ordinal, and a lane change that is due gives it its roles (R122). -/
def beginStart (s : State) : State := takeLaneChange { s with starts := s.starts + 1 }

/-- The reactions of a start that has begun, under the timing state held. -/
def reactToStart (origin : Option LaneId) (b : State) : State :=
  countStart (switchAndSend (delivered b.stores) (mapAndMeasure b (openStart origin b)))

/-- A master frame start: it is made under the timing state held, and the state is evaluated after it (R45). `origin` is
the timing lane of a lane-timed start. -/
def masterFrameStart (origin : Option LaneId) (s : State) : State :=
  evaluateTiming (reactToStart origin (beginStart s))

end Sys2Proof.Machine
end

