-- ==== Sys2Proof/Machine/Lanes.lean ====
section
/-! DEFINITION. The Lane Receivers (Section 1): word arrival in each alignment state, loss of alignment, signal absence,
LANE_RESET, enabling and disabling. -/

namespace Sys2Proof.Machine

/-! ### Markers -/

/-- A valid marker: the marker pattern in the upper half and the code-error flag clear (R2). -/
def validMarker (h : Heard) : Bool := decide (h.content.extractLsb' 16 16 = Config.markerPattern) && !h.flagged

/-- The frame number of a marker: its lower half (R2). -/
def markerNumber (h : Heard) : Num := h.content.extractLsb' 0 16

/-- A marker is in sequence: its number is the successor of the last frame number (section 1.1). -/
def inSequence (r : Lane) (h : Heard) : Bool := decide (markerNumber h = r.last + 1)

/-! ### Leaving alignment -/

/-- What the other blocks do when a lane enters SEEK or OFF (R15): its store returns to IDLE (R27), it is disqualified
as a timing source (R41, R46), and a checker that watches it ends LANE_LOST (R101). -/
def laneGone (l : LaneId) (s : State) : State := loseCheckers l (disqualifyLane l (idleStore l s))

/-- The Lane Receiver after a loss of alignment (R12). -/
def lostLane (r : Lane) : Lane :=
  { r with align := .seek, confirmed := 0, missed := 0, assembly := none, syncLosses := bump r.syncLosses }

/-- The data of SYNC_LOST: cause and last frame number (R12). -/
def syncLostData (cause : Octet) (r : Lane) : List Octet := cause :: octets2 r.last

/-- Loss of alignment of a lane in SYNC or DRIFT, with its cause (R12). -/
def loseAlignment (l : LaneId) (cause : Octet) (s : State) : State :=
  parserLosesLane l
    (laneGone l
      (surveySyncLoss l
        (raise .syncLost (.lane l) (syncLostData cause (s.lanes.get l)) (setLane l (lostLane (s.lanes.get l)) s))))

/-- The Lane Receiver when confirmation is abandoned (R6, R12, R13, R18). -/
def unconfirmed (r : Lane) : Lane := { r with align := .seek, confirmed := 0 }

/-- A lane in CONFIRM returns to SEEK; that is no loss of alignment (R6, R12). -/
def abandonConfirm (l : LaneId) (s : State) : State := laneGone l (setLane l (unconfirmed (s.lanes.get l)) s)

/-! ### Word arrival (R1 to R11, R14) -/

/-- The code-errored word count, for a lane not in OFF (R1). -/
def countCode (h : Heard) (r : Lane) : Lane := if h.flagged then { r with codeErrors := bump r.codeErrors } else r

/-- The expected position advances by one, from 41 back to 0 (R1). -/
def stepPosition (r : Lane) : Lane := { r with position := r.position + 1 }

/-- Begin assembling a frame with a number, which becomes the last frame number (R7 to R11, R14). -/
def beginFrame (number : Num) (r : Lane) : Lane :=
  { r with last := number, assembly := some { number := number, payload := [] } }

/-- A valid marker found in SEEK (R4). -/
def seekFound (h : Heard) (r : Lane) : Lane :=
  { r with align := .confirm, last := markerNumber h, confirmed := 0, missed := 0, position := 1 }

/-- A word in SEEK (R4). -/
def seekWord (l : LaneId) (h : Heard) (s : State) : State :=
  if validMarker h then setLane l (seekFound h (s.lanes.get l)) s else s

/-- The lane enters SYNC from CONFIRM: it assembles the frame of the confirming marker, its store enters FILLING and
SYNC_GAINED is raised (R7, R22). -/
def gainSync (l : LaneId) (h : Heard) (s : State) : State :=
  raise .syncGained (.lane l) (octets2 (markerNumber h))
    (setStore l (opened (s.stores.get l))
      (setLane l
        (beginFrame (markerNumber h)
          { s.lanes.get l with align := .sync, confirmed := (s.lanes.get l).confirmed + 1, missed := 0 }) s))

/-- The marker position in CONFIRM (R5, R6). -/
def confirmMarker (l : LaneId) (h : Heard) (s : State) : State :=
  if validMarker h then
    if inSequence (s.lanes.get l) h then
      if s.params.confirmCount.toNat ≤ (s.lanes.get l).confirmed + 1 then gainSync l h s
      else
        setLane l { s.lanes.get l with confirmed := (s.lanes.get l).confirmed + 1, last := markerNumber h } s
    else setLane l { s.lanes.get l with confirmed := 0, last := markerNumber h } s
  else abandonConfirm l s

/-- A valid marker in SYNC or DRIFT: the lane is in SYNC with miss count 0 and begins a frame with the marker's number,
counted as a number jump when out of sequence (R8, R9, R11). -/
def markerKept (h : Heard) (r : Lane) : Lane :=
  beginFrame (markerNumber h)
    { r with
      align := .sync, missed := 0
      numberJumps := if inSequence r h then r.numberJumps else bump r.numberJumps }

/-- The misses of a lane after one more: 1 in SYNC, one more in DRIFT (R10, R11). -/
def missesAfter (r : Lane) : Nat := if r.align = .sync then 1 else r.missed + 1

/-- The Lane Receiver after a miss, the miss counted (R10, R11). -/
def missCounted (r : Lane) : Lane := { r with markerMisses := bump r.markerMisses, missed := missesAfter r }

/-- A missed marker in SYNC or DRIFT: counted; at MISS_LIMIT alignment is lost, else the lane drifts on an assumed
number (R10 to R12). -/
def missMarker (l : LaneId) (s : State) : State :=
  surveyMarkerMiss l
    (setLane l (missCounted (s.lanes.get l)) s) |> fun t =>
  if t.params.missLimit.toNat ≤ (t.lanes.get l).missed then loseAlignment l causeMisses t
  else
    setLane l (beginFrame ((t.lanes.get l).last + 1) { t.lanes.get l with align := .drift }) t

/-- The marker position in SYNC or DRIFT (R8, R11). -/
def alignedMarker (l : LaneId) (h : Heard) (s : State) : State :=
  if validMarker h then setLane l (markerKept h (s.lanes.get l)) s else missMarker l s

/-- A payload word is gathered into the frame under assembly (R14). -/
def gathered (h : Heard) (r : Lane) : Lane :=
  { r with assembly := r.assembly.map fun a => { a with payload := a.payload ++ [h] } }

/-- The frame record of a completed frame (R14). -/
def completed (a : Assembly) (h : Heard) : FrameRecord :=
  { number := a.number, payload := Tab.ofFn fun t => a.payload.getD t.val ⟨0, false⟩, service := h }

/-- A frame record is written to the lane's store: the lane's qualification is credited (R41), the store takes the
write (R23), and where the lane is the timing lane the write makes a master frame start (R47). -/
def writeRecord (l : LaneId) (r : FrameRecord) (s : State) : State :=
  if s.timing.source = some (.lane l) then masterFrameStart (some l) (writeStore l r (creditLane l s))
  else writeStore l r (creditLane l s)

/-- The service word completes the frame under assembly, which is written (R14). -/
def completeFrame (l : LaneId) (h : Heard) (s : State) : State :=
  match (s.lanes.get l).assembly with
  | some a => writeRecord l (completed a h) (setLane l { s.lanes.get l with assembly := none } s)
  | none => s

/-- A word in SYNC or DRIFT at the position `p` it takes (R1, R14). -/
def alignedWord (l : LaneId) (p : Fin 42) (h : Heard) (s : State) : State :=
  if p = 0 then alignedMarker l h s
  else if p = 41 then completeFrame l h s
  else setLane l (gathered h (s.lanes.get l)) s

/-- A word in CONFIRM at the position `p` it takes: only position 0 is examined (R5). -/
def confirmWord (l : LaneId) (p : Fin 42) (h : Heard) (s : State) : State :=
  if p = 0 then confirmMarker l h s else s

/-- A word arrives on a lane (R1). -/
def arriveWord (l : LaneId) (h : Heard) (s : State) : State :=
  match (s.lanes.get l).align with
  | .off => s
  | .seek => seekWord l h (setLane l (countCode h (s.lanes.get l)) s)
  | .confirm =>
    confirmWord l (s.lanes.get l).position h (setLane l (stepPosition (countCode h (s.lanes.get l))) s)
  | .sync | .drift =>
    alignedWord l (s.lanes.get l).position h (setLane l (stepPosition (countCode h (s.lanes.get l))) s)

/-! ### Signal absence, LANE_RESET, enabling (R13, R16, R18) -/

/-- A report of signal absence (R13). -/
def loseSignal (l : LaneId) (s : State) : State :=
  match (s.lanes.get l).align with
  | .off | .seek => s
  | .confirm => abandonConfirm l s
  | .sync | .drift => loseAlignment l causeSignal s

/-- LANE_RESET of a lane (R18): SEEK, the store IDLE, a checker on it LANE_LOST, a survey of it ABORTED. A lane in OFF
stays in OFF. -/
def resetLane (l : LaneId) (s : State) : State :=
  match (s.lanes.get l).align with
  | .off => s
  | .seek => abortSurvey l (laneGone l s)
  | .confirm => abortSurvey l (abandonConfirm l s)
  | .sync | .drift => abortSurvey l (loseAlignment l causeLaneReset s)

/-- The Lane Receiver disabled (R16). -/
def disabledLane (r : Lane) : Lane := { r with align := .off, confirmed := 0, missed := 0, assembly := none }

/-- A lane whose enable bit goes to 0 enters OFF (R16); a survey of it is aborted (R36). -/
def disableLane (l : LaneId) (s : State) : State :=
  abortSurvey l (laneGone l (setLane l (disabledLane (s.lanes.get l)) s))

/-- A lane whose enable bit goes to 1 leaves OFF for SEEK (R16). -/
def enableLane (l : LaneId) (s : State) : State :=
  if (s.lanes.get l).align = .off then setLane l { s.lanes.get l with align := .seek } s else s

/-- One lane's part in a write of INGRESS_ENABLE, by its bit before and after (R16). -/
def switchLane (before after : Num) (s : State) (l : LaneId) : State :=
  match inMask before l, inMask after l with
  | true, false => disableLane l s
  | false, true => enableLane l s
  | _, _ => s

/-- A write of INGRESS_ENABLE acts on each lane whose bit changes (R16), whether a request or the image makes it (R165).
R16 and R46 give no order among the lanes of one write: they are taken one by one from IN0 to IN15, each with all it brings
about, so that the loss of the current source at one lane can be followed by the loss of the source taken up in its place
at a later lane of the same write, with a recentre and a TIMING_CHANGE more (DESIGN CHOICE, assumption log 26). -/
def writeIngressEnable (v : Num) (s : State) : State :=
  (List.finRange 16).foldl (switchLane s.params.ingressEnable v) { s with params := { s.params with ingressEnable := v } }

end Sys2Proof.Machine
end

