-- ==== Sys2Proof/Machine/Parameters.lean ====
section
/-! DEFINITION. Parameters: their values, and what a write of each does, by PARAM_WRITE and by the image (section 8.6,
R121, R137 to R139). -/

namespace Sys2Proof.Machine

/-- The value in force of a parameter (R136). -/
def paramValue (s : State) : Param → Num
  | .deviceAddress => s.address.setWidth 16
  | .timingPrimary => s.params.timingPrimary
  | .timingSecondary => s.params.timingSecondary
  | .timingRevert => s.params.timingRevert
  | .qualifyFrames => s.params.qualifyFrames
  | .refinMiss => s.params.refinMiss
  | .mgmtIngress => BitVec.ofNat 16 s.channel.mgmtIngress.val
  | .mgmtEgress => BitVec.ofNat 16 s.channel.mgmtEgress.val
  | .ingressEnable => s.params.ingressEnable
  | .egressEnable => s.params.egressEnable
  | .confirmCount => s.params.confirmCount
  | .missLimit => s.params.missLimit
  | .noticeMask => s.params.noticeMask
  | .noticeWait => s.params.noticeWait
  | .noticeRetries => s.params.noticeRetries
  | .group i => s.params.groups.get i
  | .genKind g => genKindValue (s.generators.get g).kind

/-- Store a value and act on it as the owning section states. DEVICE_ADDRESS cannot be written, and the management
lanes change only through lane-change-pending (R137). -/
def storeParam (p : Param) (v : Num) (s : State) : State :=
  match p with
  | .deviceAddress | .mgmtIngress | .mgmtEgress => s
  | .timingPrimary => { s with params := { s.params with timingPrimary := v } }
  | .timingSecondary => { s with params := { s.params with timingSecondary := v } }
  | .timingRevert => { s with params := { s.params with timingRevert := v } }
  | .qualifyFrames => requalifyAll { s with params := { s.params with qualifyFrames := v } }
  | .refinMiss => { s with params := { s.params with refinMiss := v } }
  | .ingressEnable => writeIngressEnable v s
  | .egressEnable => { s with params := { s.params with egressEnable := v } }
  | .confirmCount => { s with params := { s.params with confirmCount := v } }
  | .missLimit => { s with params := { s.params with missLimit := v } }
  | .noticeMask => { s with params := { s.params with noticeMask := heldMask v } }
  | .noticeWait => { s with params := { s.params with noticeWait := v } }
  | .noticeRetries => { s with params := { s.params with noticeRetries := v } }
  | .group i => { s with params := { s.params with groups := s.params.groups.set i v } }
  | .genKind g => { s with generators := s.generators.set g (seeded ((genKindOf v).getD none)) }

/-! ### Management lane changes (R121) -/

/-- A lane change is held for an earlier request, or by the image. -/
def changeElsewhere (serial : Nat) (s : State) : Bool :=
  match s.dispatcher.change with
  | some c => decide (c.holder ≠ .request serial)
  | none => false

/-- The change pending for this request, or an empty one. -/
def ownChange (serial : Nat) (s : State) : LaneChange :=
  s.dispatcher.change.getD { ingress := none, egress := none, holder := .request serial, armed := false }

/-- Hold a change, or nothing when neither lane is to change. -/
def holdChange (c : LaneChange) (s : State) : State :=
  setChange (if c.ingress.isNone ∧ c.egress.isNone then none else some c) s

/-- A write of MGMT_INGRESS that passed the range test: status and effect (R121). A change held elsewhere is tested first,
since R122 has every such write meet it as BUSY (DEDUCED, assumption log 27). -/
def writeMgmtIngress (serial : Nat) (l : LaneId) (s : State) : ItemStatus × State :=
  if changeElsewhere serial s then (.busy, s)
  else if l = s.channel.mgmtIngress then (.done, holdChange { ownChange serial s with ingress := none } s)
  else if inMask s.params.ingressEnable l then (.done, holdChange { ownChange serial s with ingress := some l } s)
  else (.notAllowed, s)

/-- A write of MGMT_EGRESS that passed the range test: status and effect (R121), in the order of MGMT_INGRESS (DEDUCED,
assumption log 27). -/
def writeMgmtEgress (serial : Nat) (l : LaneId) (s : State) : ItemStatus × State :=
  if changeElsewhere serial s then (.busy, s)
  else if l = s.channel.mgmtEgress then (.done, holdChange { ownChange serial s with egress := none } s)
  else if inMask s.params.egressEnable l then (.done, holdChange { ownChange serial s with egress := some l } s)
  else (.notAllowed, s)

/-- A write of EGRESS_ENABLE keeps the management egress lane and a pending new one enabled (R85). -/
def keepsEgress (v : Num) (s : State) : Bool :=
  inMask v s.channel.mgmtEgress &&
    match s.dispatcher.change with
    | some c => (match c.egress with | some l => inMask v l | none => true)
    | none => true

/-- The parameters that may not be written in a group copy (R132). -/
def barredInGroup : Param → Bool
  | .mgmtIngress | .mgmtEgress | .group _ => true
  | _ => false

/-- PARAM_WRITE of a known parameter: the tests of R137 in their order, then the write. -/
def writeParam (group : Bool) (serial : Nat) (p : Param) (v : Num) (s : State) : ItemStatus × State :=
  if p = .deviceAddress then (.notAllowed, s)
  else if !paramInRange p v then (.outOfRange, s)
  else if group && barredInGroup p then (.notInGroup, s)
  else
    match p with
    | .ingressEnable => if inMask v s.channel.mgmtIngress then (.done, storeParam p v s) else (.notAllowed, s)
    | .egressEnable => if keepsEgress v s then (.done, storeParam p v s) else (.notAllowed, s)
    | .mgmtIngress =>
      match laneOfNum v with
      | some l => writeMgmtIngress serial l s
      | none => (.outOfRange, s)
    | .mgmtEgress =>
      match laneOfNum v with
      | some l => writeMgmtEgress serial l s
      | none => (.outOfRange, s)
    | _ => (.done, storeParam p v s)

end Sys2Proof.Machine
end

