-- ==== Sys2Proof/Machine/Items.lean ====
section
/-! DEFINITION. The items of a request: each one's validation, effect and data (sections 8.5 to 8.11). -/

namespace Sys2Proof.Machine

/-- What an item returns: its status, its data, and the state it leaves. -/
structure ItemResult where
  status : ItemStatus
  data : List Octet
  after : State
  deriving DecidableEq, Repr

/-- A failing item returns no data and changes nothing (R125, R128). -/
def fails (st : ItemStatus) (s : State) : ItemResult := { status := st, data := [], after := s }

/-- A reading item: DONE, with data, changing nothing. -/
def reads (data : List Octet) (s : State) : ItemResult := { status := .done, data := data, after := s }

/-- An item that acts. -/
def acts (st : ItemStatus) (s : State) : ItemResult := { status := st, data := [], after := s }

/-! ### STATUS and the parameters (R135 to R137) -/

/-- The 34 octets of STATUS (R135). -/
def statusData (s : State) : List Octet :=
  [deviceOctet (operating s), loaderOctet s.loader.state, resultOctet s.loader.result, octetOf s.loader.attempts,
    timingOctet s.timing.state, sourceOctet s.timing.source] ++
  octets2 s.timing.number ++ octets2 s.timing.steps ++ octets2 s.map.epoch ++ [bankOctet s.map.active] ++
  commitOctets s.map.commit ++
  [copyOctet s.map.copy, noticeStateOctet s.notices.state, octetOf s.notices.list.length,
    match s.notices.outstanding with | some m => m.seq | none => 0,
    octetOf s.notices.retries] ++
  octets2 s.notices.lost ++ [octetOf s.channel.intake.length, octetOf s.channel.outgoing.length] ++
  octets2 s.channel.badCheck ++ octets2 s.channel.stray ++ octets2 s.channel.forwardOverflow ++
  octets2 s.channel.requestDropped ++ [s.address]

/-- PARAM_READ (R136). -/
def itemParamRead (args : List Octet) (s : State) : ItemResult :=
  match args with
  | [i] =>
    match paramOf i with
    | some p => reads (octets2 (paramValue s p)) s
    | none => fails .badArgument s
  | _ => fails .badArgument s

/-- An item whose tests give a status and a state. -/
def settled (r : ItemStatus × State) : ItemResult := { status := r.1, data := [], after := r.2 }

/-- PARAM_WRITE (R137). -/
def itemParamWrite (group : Bool) (serial : Nat) (args : List Octet) (s : State) : ItemResult :=
  match args with
  | [i, hi, lo] =>
    match paramOf i with
    | some p => settled (writeParam group serial p (num2 hi lo) s)
    | none => fails .badArgument s
  | _ => fails .badArgument s

/-! ### Map and commit items (R57 to R69) -/

/-- A commit is PENDING. -/
def commitPending (s : State) : Bool := decide (s.map.commit ≠ .none)

/-- The SHADOW bank is claimed by a running copy or a reload (R65). -/
def shadowBusy (s : State) : Bool := copying s.map || reloading s

/-- MAP_WRITE (R57). -/
def itemMapWrite (args : List Octet) (s : State) : ItemResult :=
  match rawRun args with
  | none => fails .badArgument s
  | some raw =>
    match checkRun raw with
    | none => fails .outOfRange s
    | some run =>
      if commitPending s then fails .pending s
      else if shadowBusy s then fails .busy s
      else acts .done { s with map := setShadow (writeRun run (shadowBank s.map)) s.map }

/-- MAP_READ (R58). Where more than one of its tests fails, R58 gives no order: the selector is tested first, then the
lane and the slots, then the copy (DESIGN CHOICE, assumption log 25). -/
def itemMapRead (args : List Octet) (s : State) : ItemResult :=
  match args with
  | [bank, l, f, n] =>
    if bank = 0x00#8 ∨ bank = 0x01#8 then
      match laneOf l with
      | none => fails .outOfRange s
      | some l =>
        if !slotsInRange f n then fails .outOfRange s
        else if bank = 0x00#8 then reads ((readRun (activeBank s.map) l f.toNat n.toNat).flatMap encodeEntry) s
        else if copying s.map then fails .busy s
        else reads ((readRun (shadowBank s.map) l f.toNat n.toNat).flatMap encodeEntry) s
    else fails .badArgument s
  | _ => fails .badArgument s

/-- MAP_COPY (R59). -/
def itemMapCopy (s : State) : ItemResult :=
  if commitPending s then fails .pending s
  else if shadowBusy s then fails .busy s
  else acts .started { s with map := { s.map with copy := some 0 } }

/-- The target a COMMIT carries (R63, R128). -/
def commitTarget (args : List Octet) : Option CommitRecord :=
  match args with
  | [k] => if k = 0x00#8 then some .next else none
  | [k, hi, lo] => if k = 0x01#8 then some (.frame (num2 hi lo)) else none
  | _ => none

/-- A target lies in the window: NEXT, or a frame ahead of the current master frame number (R63). -/
def inWindow (number : Num) : CommitRecord → Bool
  | .frame f => ahead number f
  | _ => true

/-- COMMIT (R63). -/
def itemCommit (args : List Octet) (s : State) : ItemResult :=
  match commitTarget args with
  | none => fails .badArgument s
  | some target =>
    if commitPending s then fails .pending s
    else if shadowBusy s then fails .busy s
    else if inWindow s.timing.number target then
      { status := .started, data := octets2 s.timing.number
        after := { s with map := { s.map with commit := target } } }
    else fails .outOfWindow s

/-- COMMIT_CANCEL (R68). -/
def itemCommitCancel (s : State) : ItemResult :=
  if commitPending s then acts .done { s with map := { s.map with commit := .none } } else fails .noCommit s

/-! ### Lane items (R141 to R143) -/

/-- The 17 octets of LANE_READ (R141). -/
def laneData (r : Lane) (st : Store) : List Octet :=
  [alignOctet r.align, storeOctet st.state, octetOf (fillOf st)] ++ octets2 r.last ++ octets2 r.markerMisses ++
    octets2 r.codeErrors ++ octets2 r.numberJumps ++ octets2 r.syncLosses ++ octets2 st.underSlips ++
    octets2 st.overSlips

/-- LANE_READ (R141). -/
def itemLaneRead (args : List Octet) (s : State) : ItemResult :=
  match args with
  | [o] =>
    match laneOf o with
    | some l => reads (laneData (s.lanes.get l) (s.stores.get l)) s
    | none => fails .outOfRange s
  | _ => fails .badArgument s

/-- LANE_RESET (R142). -/
def itemLaneReset (args : List Octet) (s : State) : ItemResult :=
  match args with
  | [o] =>
    match laneOf o with
    | some l =>
      if (s.lanes.get l).align = .off then fails .notAllowed s else acts .done (resetLane l s)
    | none => fails .outOfRange s
  | _ => fails .badArgument s

/-- The lane counters cleared (R19). -/
def clearedLane (r : Lane) : Lane :=
  { r with markerMisses := 0, codeErrors := 0, numberJumps := 0, syncLosses := 0 }

/-- The slip counters cleared (R29). -/
def clearedStore (st : Store) : Store := { st with underSlips := 0, overSlips := 0 }

/-- The channel counts and the dropped count of the group result record cleared (R123). -/
def clearedChannel (c : Channel) : Channel :=
  { c with
    badCheck := 0, stray := 0, forwardOverflow := 0, requestDropped := 0
    group := { c.group with dropped := 0 } }

/-- The effect of COUNTS_CLEAR (R143). -/
def clearCounts (mask : Num) (channelToo : Bool) (s : State) : State :=
  { s with
    lanes := Tab.ofFn fun l => if inMask mask l then clearedLane (s.lanes.get l) else s.lanes.get l
    stores := Tab.ofFn fun l => if inMask mask l then clearedStore (s.stores.get l) else s.stores.get l
    channel := if channelToo then clearedChannel s.channel else s.channel }

/-- COUNTS_CLEAR (R143). -/
def itemCountsClear (args : List Octet) (s : State) : ItemResult :=
  match args with
  | [hi, lo, flags] =>
    if flags &&& 0xFE#8 = 0 then acts .done (clearCounts (num2 hi lo) (flags.getLsbD 0) s) else fails .badArgument s
  | _ => fails .badArgument s

/-! ### Measurement items (R93, R100, R102, R32, R37, R144) -/

/-- CHECK_START (R93). -/
def itemCheckStart (args : List Octet) (s : State) : ItemResult :=
  match args with
  | [c, l, t, hi, lo] =>
    match quadOf c, laneOf l, slotOf t with
    | some c, some l, some t =>
      if num2 hi lo = 0 then fails .outOfRange s
      else if checking (s.checkers.get c) then fails .busy s
      else if (s.lanes.get l).align = .off then fails .notAllowed s
      else acts .started (setChecker c (startedChecker l t (num2 hi lo)) s)
    | _, _, _ => fails .outOfRange s
  | _ => fails .badArgument s

/-- CHECK_STOP (R100). -/
def itemCheckStop (args : List Octet) (s : State) : ItemResult :=
  match args with
  | [c] =>
    match quadOf c with
    | some c =>
      if checking (s.checkers.get c) then
        { status := .done, data := [0x01#8], after := endChecker c .stopped s }
      else { status := .done, data := [0x00#8], after := s }
    | none => fails .outOfRange s
  | _ => fails .badArgument s

/-- The 24 octets of CHECK_READ (R144). -/
def checkData (k : Checker) : List Octet :=
  [checkerOctet k.state, octetOf k.lane.val, octetOf k.slot.val] ++ octets2 k.frameCount ++ octets2 k.remaining ++
    (match k.detected with
      | some (kind, inv) => [sequenceOctet kind, if inv then 0x01#8 else 0x00#8]
      | none => [0xFF#8, 0xFF#8]) ++
    octets4 k.compared ++ octets4 k.errored ++ octets4 k.bitErrors ++ octets2 k.lost ++ [checkResultOctet k.result]

/-- CHECK_READ (R102). -/
def itemCheckRead (args : List Octet) (s : State) : ItemResult :=
  match args with
  | [c] =>
    match quadOf c with
    | some c => reads (checkData (s.checkers.get c)) s
    | none => fails .outOfRange s
  | _ => fails .badArgument s

/-- SURVEY_START (R32). Where more than one condition of R32's table holds, R32 gives no order of its rows, as R93 does for
CHECK_START: they are tried as they stand, OUT_OF_RANGE, BUSY, NOT_ALLOWED (DESIGN CHOICE, assumption log 27). -/
def itemSurveyStart (args : List Octet) (s : State) : ItemResult :=
  match args with
  | [l, hi, lo] =>
    match laneOf l with
    | some l =>
      if num2 hi lo = 0 then fails .outOfRange s
      else if s.survey.state = .running then fails .busy s
      else if (s.lanes.get l).align = .off then fails .notAllowed s
      else acts .started { s with survey := startedSurvey l (num2 hi lo) }
    | none => fails .outOfRange s
  | _ => fails .badArgument s

/-- A fill in SURVEY_READ; FFH absent (R37). -/
def fillOctet : Option Nat → Octet
  | some n => octetOf n
  | none => 0xFF#8

/-- A frame number in SURVEY_READ; FFFFH absent (R37). -/
def frameOctets (f : Option Num) : List Octet := octets2 (f.getD 0xFFFF#16)

/-- The 22 octets of SURVEY_READ SUMMARY (R144). -/
def surveySummary (v : Survey) : List Octet :=
  [surveyOctet v.state, octetOf v.lane.val] ++ octets2 v.frameCount ++ octets2 v.remaining ++ octets2 v.observed ++
    [fillOctet v.minFill, fillOctet v.maxFill] ++ octets2 v.underSlips ++ octets2 v.overSlips ++ octets2 v.syncLosses ++
    octets2 v.markerMisses ++ frameOctets v.first ++ frameOctets v.last

/-- Twenty slot error counts from a slot on, in slot order (R37). -/
def surveyPage (first : Nat) (v : Survey) : List Octet := ((v.slotErrors.toList.drop first).take 20).flatMap octets2

/-- SURVEY_READ (R37). -/
def itemSurveyRead (args : List Octet) (s : State) : ItemResult :=
  match args with
  | [sel] =>
    if sel = 0x00#8 then reads (surveySummary s.survey) s
    else if sel = 0x01#8 then reads (surveyPage 0 s.survey) s
    else if sel = 0x02#8 then reads (surveyPage 20 s.survey) s
    else fails .badArgument s
  | _ => fails .badArgument s

/-! ### Notice and group items (R145, R146, R156, R158) -/

/-- NOTICE_ACK (R145). -/
def itemNoticeAck (args : List Octet) (s : State) : ItemResult :=
  match args with
  | [seq] =>
    match s.notices.outstanding with
    | some m => if m.seq = seq then acts .done (acknowledge s) else fails .stale s
    | none => fails .nothingOutstanding s
  | _ => fails .badArgument s

/-- The 9 octets of GROUP_READ (R146). -/
def groupData (g : GroupRecord) : List Octet :=
  [g.tag, g.group, octetOf g.executed] ++
    (match g.firstFailure with
      | some (i, st) => [octetOf i, statusOctet st]
      | none => [0x00#8, 0xFF#8]) ++
    octets2 g.frame ++ octets2 g.dropped

/-! ### Image reload and RESTART (R126, R147, R167) -/

/-- The loader once a reload begins: its first attempt begins at the item (R167). -/
def reloadBegun (n : Loader) : Loader :=
  readBegun { n with state := .reloading, resume := n.state, attempts := 1, next := .none }

/-- IMAGE_RELOAD (R147). -/
def itemImageReload (s : State) : ItemResult :=
  if commitPending s then fails .pending s
  else if shadowBusy s then fails .busy s
  else acts .started { s with loader := reloadBegun s.loader }

/-- RESTART in a unicast request: restart-pending is set, and a change held by this request is discarded (R121,
R126). -/
def itemRestart (serial : Nat) (s : State) : ItemResult :=
  acts .done
    { s with
      dispatcher := { s.dispatcher with
        restart := some serial
        change := s.dispatcher.change.filter fun c => decide (c.holder ≠ .request serial) } }

/-! ### Any item -/

/-- An item of a known kind with an allowed argument length, under its own rule. -/
def runItem (group : Bool) (serial : Nat) (k : ItemKind) (args : List Octet) (s : State) : ItemResult :=
  match k with
  | .echo => reads args s
  | .status => reads (statusData s) s
  | .paramRead => itemParamRead args s
  | .paramWrite => itemParamWrite group serial args s
  | .mapWrite => itemMapWrite args s
  | .mapRead => itemMapRead args s
  | .mapCopy => itemMapCopy s
  | .commit => itemCommit args s
  | .commitCancel => itemCommitCancel s
  | .laneRead => itemLaneRead args s
  | .laneReset => itemLaneReset args s
  | .countsClear => itemCountsClear args s
  | .checkStart => itemCheckStart args s
  | .checkStop => itemCheckStop args s
  | .checkRead => itemCheckRead args s
  | .surveyStart => itemSurveyStart args s
  | .surveyRead => itemSurveyRead args s
  | .noticeAck => itemNoticeAck args s
  | .groupRead => reads (groupData s.channel.group) s
  | .imageReload => itemImageReload s
  | .restart => itemRestart serial s

/-- The steps of R125 and the further test of R132: the kind, the argument length, the permission in a group copy, and
then the item's own rule. R128 puts the length before any other test of the item, and R132 puts the permission after the
kind without naming the length; read together they put it after the length (DEDUCED, assumption log 24). -/
def judgeItem (group : Bool) (serial : Nat) (raw : RawItem) (s : State) : ItemResult :=
  match itemKind raw.kind with
  | none => fails .unknownKind s
  | some k =>
    if !lengthAllowed k raw.args.length then fails .badArgument s
    else if group && !permittedInGroup k then fails .notInGroup s
    else runItem group serial k raw.args s

/-- The size test of R129: `used` octets of the reply so far, this item's full result, and three octets for each of the
`behind` items after it. -/
def replyFits (used dataLength behind : Nat) : Bool := decide (used + (3 + dataLength) + 3 * behind ≤ Config.bodyLimit)

/-- An item is taken; one of a unicast request whose result would not fit is not executed and returns TOO_LONG
(R129). -/
def takeItem (group : Bool) (serial used behind : Nat) (raw : RawItem) (s : State) : ItemResult :=
  if !group && succeeds (judgeItem group serial raw s).status &&
      !replyFits used (judgeItem group serial raw s).data.length behind then
    fails .tooLong s
  else judgeItem group serial raw s

end Sys2Proof.Machine
end

