-- ==== Sys2Proof/Machine/Requests.lean ====
section
/-! DEFINITION. The execution of requests: the items in order, the reply, the group result record (sections 7.5, 7.6,
8.1 to 8.4). -/

namespace Sys2Proof.Machine

/-- One result of a reply: kind octet, status, data (R130). -/
structure ItemReport where
  kind : Octet
  status : ItemStatus
  data : List Octet
  deriving DecidableEq, Repr

/-- The result of an item that was not taken (R125). -/
def skippedReport (raw : RawItem) : ItemReport := { kind := raw.kind, status := .skipped, data := [] }

/-- A RESTART that succeeded ends the request early without failing (R126). -/
def endsRequest (raw : RawItem) (r : ItemResult) : Bool := succeeds r.status && decide (itemKind raw.kind = some .restart)

/-- The reply slots held during an execution: one for a unicast request's reply (R133), none for a group copy. -/
def reservedSlots (group : Bool) : Nat := if group then 0 else 1

/-- The items in list order, `used` octets of the reply being taken (R125, R129). After each item the Notice Unit takes
its first moment (R152, R154). -/
def takeAll (group : Bool) (serial : Nat) : List RawItem → Nat → State → List ItemReport × State
  | [], _, s => ([], s)
  | raw :: rest, used, s =>
    let r := takeItem group serial used rest.length raw s
    let report : ItemReport := { kind := raw.kind, status := r.status, data := r.data }
    let after := noticeMoment (reservedSlots group) r.after
    if succeeds r.status && !endsRequest raw r then
      let tailing := takeAll group serial rest (used + 3 + r.data.length) after
      (report :: tailing.1, tailing.2)
    else (report :: rest.map skippedReport, after)

/-- No item failed: every status is DONE, STARTED, or the SKIPPED of an item behind a RESTART (R125, R126). -/
def noneFailed (reports : List ItemReport) : Bool :=
  reports.all fun r => succeeds r.status || decide (r.status = .skipped)

/-- The overall status of a reply (R125). -/
def overallOf (reports : List ItemReport) : Overall := if noneFailed reports then .complete else .partly

/-- A result's octets (Table 11-2). -/
def reportOctets (r : ItemReport) : List Octet := [r.kind, statusOctet r.status, octetOf r.data.length] ++ r.data

/-- The body of a reply with results (R130, Table 11-2). -/
def resultsBody (tag : Octet) (reports : List ItemReport) : List Octet :=
  [tag, overallOctet (overallOf reports), octetOf reports.length] ++ reports.flatMap reportOctets

/-- The head of the intake removed (R114). -/
def popIntake (s : State) : State := { s with channel := { s.channel with intake := s.channel.intake.tail } }

/-- A reply enters the cache at the head; the oldest of 4 is removed (R116). -/
def cacheReply (e : CacheEntry) (s : State) : State :=
  { s with channel := { s.channel with cache := (e :: s.channel.cache).take Config.cacheDepth } }

/-- The report of a unicast execution at its beginning (R133, R157): a copy owed by it is placed at once if a further
slot is free. -/
def reportExecution (s : State) : State := noticeMoment 1 { s with notices := reported s.notices }

/-- The serial number of the next execution is taken. -/
def takeSerial (s : State) : State :=
  { s with dispatcher := { s.dispatcher with nextSerial := s.dispatcher.nextSerial + 1 } }

/-- A unicast execution begins: the head leaves the intake, the execution gets its serial number and is reported. -/
def beginExecution (s : State) : State := reportExecution (takeSerial (popIntake s))

/-- A reply without results, which is not cached (R114, R116). -/
def answerBare (serial : Nat) (m : IntakeMessage) (o : Overall) (s : State) : State :=
  placeMessage (.reply serial) (replyWords s.address (bareReply (requestTag m.octets) (overallOctet o))) s

/-- The reply with results: placed, and entered in the cache under the request's key (R116, R130). -/
def answerResults (serial : Nat) (m : IntakeMessage) (reports : List ItemReport) (s : State) : State :=
  cacheReply
    { tag := requestTag m.octets, check := m.check
      words := replyWords s.address (resultsBody (requestTag m.octets) reports) }
    (placeMessage (.reply serial) (replyWords s.address (resultsBody (requestTag m.octets) reports)) s)

/-- A unicast request is executed after its beginning (R114). -/
def answerRequest (serial : Nat) (m : IntakeMessage) (s : State) : State :=
  if !operating s then answerBare serial m .starting s
  else
    match requestItems m.mtype m.octets with
    | none => answerBare serial m .malformed s
    | some items =>
      answerResults serial m (takeAll false serial items 3 s).1 (takeAll false serial items 3 s).2

/-- The head of the intake is a unicast request that can be executed: restart-pending is clear and a slot is free
(R114). -/
def requestDue (s : State) : Bool :=
  match s.channel.intake with
  | m :: _ => !m.group && s.dispatcher.restart.isNone && slotFree 0 s
  | [] => false

/-- Execute the unicast request at the head of the intake, when that is due (R114). -/
def executeRequest (s : State) : State :=
  match s.channel.intake with
  | m :: _ => if requestDue s then answerRequest s.dispatcher.nextSerial m (beginExecution s) else s
  | [] => s

/-! ### Group copies (R117, R118, R132) -/

/-- The items of a group copy that were taken: all but the SKIPPED. -/
def takenCount (reports : List ItemReport) : Nat := reports.countP fun r => decide (r.status ≠ .skipped)

/-- Index, from `i`, and status of the first item that did not return DONE or STARTED. -/
def firstFailure : Nat → List ItemReport → Option (Nat × ItemStatus)
  | _, [] => none
  | i, r :: rs => if succeeds r.status then firstFailure (i + 1) rs else some (i, r.status)

/-- The group result record after an execution that ran its items; the dropped count persists (R118). -/
def recordGroup (m : IntakeMessage) (frame : Num) (reports : List ItemReport) (s : State) : State :=
  { s with
    channel := { s.channel with
      group :=
        { tag := requestTag m.octets, group := m.dest, executed := takenCount reports
          firstFailure := firstFailure 1 reports, frame := frame, dropped := s.channel.group.dropped } } }

/-- A group copy is executed once it has left the intake (R117, R132). -/
def answerGroup (m : IntakeMessage) (s : State) : State :=
  if !operating s then dropGroup s
  else
    match requestItems m.mtype m.octets with
    | none => dropGroup s
    | some items =>
      recordGroup m s.timing.number (takeAll true s.dispatcher.nextSerial items 3 s).1
        (takeAll true s.dispatcher.nextSerial items 3 s).2

/-- The head of the intake is a group copy that can be executed: restart-pending is clear (R114). -/
def groupDue (s : State) : Bool :=
  match s.channel.intake with
  | m :: _ => m.group && s.dispatcher.restart.isNone
  | [] => false

/-- Execute the group copy at the head of the intake, when that is due (R117). -/
def executeGroup (s : State) : State :=
  match s.channel.intake with
  | m :: _ => if groupDue s then answerGroup m (popIntake s) else s
  | [] => s

end Sys2Proof.Machine
end

