-- ==== Sys2Proof/Machine/Loading.lean ====
section
/-! DEFINITION. The Image Loader (Section 10): judging an image, applying it, the ends of attempts; and the resets. -/

namespace Sys2Proof.Machine

/-! ### The image (section 10.2, R163, section 11.6) -/

/-- The octet the flash returned at an address; where it returned none, all ones (R163). -/
def flashOctet (octets : List Octet) (a : Nat) : Octet := octets.getD a 0xFF#8

/-- `n` flash octets from an address on. -/
def flashOctets (octets : List Octet) (a n : Nat) : List Octet := (List.range n).map fun i => flashOctet octets (a + i)

/-- A record as it stands in the image: kind octet and contents (Table 11-9). -/
structure RawRecord where
  kind : Octet
  contents : List Octet
  deriving DecidableEq, Repr

/-- `n` records, each of a kind octet, a two-octet content length and its contents, that fill the octets exactly (R163,
Table 11-9). -/
def takeRecords : Nat → List Octet → Option (List RawRecord)
  | 0, [] => some []
  | n + 1, k :: hi :: lo :: rest =>
    if (num2 hi lo).toNat ≤ rest.length then
      (takeRecords n (rest.drop (num2 hi lo).toNat)).map (fun rs => ⟨k, rest.take (num2 hi lo).toNat⟩ :: rs)
    else none
  | _, _ => none

/-- Parameter settings of 3 octets each that fill the octets exactly (Table 11-10). -/
def takeSettings : List Octet → Option (List (Octet × Num))
  | [] => some []
  | i :: hi :: lo :: rest => (takeSettings rest).map fun ss => (i, num2 hi lo) :: ss
  | _ => none

/-- A record with its contents read (Table 11-10). -/
inductive ImageRecord where
  | device (address : Octet) (settings : List (Octet × Num))
  | lane (settings : List (Octet × Num))
  | mapRange (run : RawRun)
  deriving DecidableEq, Repr

/-- A record's contents, if its kind is known and they fill its length exactly; a MAP_RANGE record passes the first
test of R57 (R163). -/
def readRecord (r : RawRecord) : Option ImageRecord :=
  if r.kind = 0x01#8 then
    match r.contents with
    | a :: rest => (takeSettings rest).map (.device a)
    | [] => none
  else if r.kind = 0x02#8 then (takeSettings r.contents).map .lane
  else if r.kind = 0x03#8 then (rawRun r.contents).map .mapRange
  else none

/-- Every record, if each can be read. -/
def readRecords : List RawRecord → Option (List ImageRecord)
  | [] => some []
  | r :: rs =>
    match readRecord r, readRecords rs with
    | some r, some rs => some (r :: rs)
    | _, _ => none

/-- The records are DEVICE records. -/
def isDevice : ImageRecord → Bool
  | .device _ _ => true
  | _ => false

/-- The records are LANE records. -/
def isLaneRecord : ImageRecord → Bool
  | .lane _ => true
  | _ => false

/-- The identifiers allowed in a DEVICE record: 2 to 8 and 13 to 19 (section 10.2). -/
def deviceIdentifier (i : Octet) : Bool :=
  (decide (2 ≤ i.toNat) && decide (i.toNat ≤ 8)) || (decide (13 ≤ i.toNat) && decide (i.toNat ≤ 19))

/-- The identifiers allowed in a LANE record: 9 to 12 (section 10.2). -/
def laneIdentifier (i : Octet) : Bool := decide (9 ≤ i.toNat) && decide (i.toNat ≤ 12)

/-- The identifiers of a record are allowed in its kind (R163). -/
def identifiersAllowed : ImageRecord → Bool
  | .device _ ss => ss.all fun p => deviceIdentifier p.1
  | .lane ss => ss.all fun p => laneIdentifier p.1
  | .mapRange _ => true

/-- A setting's value is in the range of Table 8-3 (R163). -/
def settingInRange (p : Octet × Num) : Bool :=
  match paramOf p.1 with
  | some q => paramInRange q p.2
  | none => false

/-- Every value of a record is in range; a MAP_RANGE record passes the second test of R57 (R163). -/
def valuesInRange : ImageRecord → Bool
  | .device a ss => decide (a.toNat ≤ 30) && ss.all settingInRange
  | .lane ss => ss.all settingInRange
  | .mapRange r => (checkRun r).isSome

/-- A verified image: the DEVICE record's address (0 for none), the settings in the order they stand, the runs in the
order they stand. -/
structure Image where
  address : Octet
  settings : List (Octet × Num)
  runs : List Run
  deriving DecidableEq, Repr

/-- What a verified image's records carry. -/
def imageOf : List ImageRecord → Image
  | [] => { address := 0, settings := [], runs := [] }
  | .device a ss :: rs => { imageOf rs with address := a, settings := ss ++ (imageOf rs).settings }
  | .lane ss :: rs => { imageOf rs with settings := ss ++ (imageOf rs).settings }
  | .mapRange r :: rs =>
    match checkRun r with
    | some run => { imageOf rs with runs := run :: (imageOf rs).runs }
    | none => imageOf rs

/-- How an attempt ends (R163). -/
inductive Verdict where
  | absent
  | failed
  | verified (image : Image)
  deriving DecidableEq, Repr

/-- The tests on the records of an image, its check code apart (R163). -/
def recordsPass (rs : List ImageRecord) : Bool :=
  decide (rs.countP isDevice ≤ 1) && decide (rs.countP isLaneRecord ≤ 1) && rs.all identifiersAllowed &&
    rs.all valuesInRange

/-- The total length the header gives (Table 11-9). -/
def imageLength (octets : List Octet) : Nat := (num2 (flashOctet octets 4) (flashOctet octets 5)).toNat

/-- The header tests after the marker (R163): the version is 1, the length at least header and check code, at most
8192. -/
def headerPasses (octets : List Octet) : Bool :=
  decide (flashOctet octets 2 = 1#8) && decide (8 ≤ imageLength octets) &&
    decide (imageLength octets ≤ Config.imageLimit)

/-- The records of an image whose header passes. -/
def imageRecords (octets : List Octet) : Option (List ImageRecord) :=
  (takeRecords (flashOctet octets 3).toNat (flashOctets octets 6 (imageLength octets - 8))).bind readRecords

/-- The computed check code equals the one read (R163). -/
def imageCheckGood (octets : List Octet) : Bool :=
  decide (checkCode (flashOctets octets 0 (imageLength octets - 2)) =
    num2 (flashOctet octets (imageLength octets - 2)) (flashOctet octets (imageLength octets - 1)))

/-- The tests of R163, the first that fails deciding. -/
def judgeImage (octets : List Octet) : Verdict :=
  if num2 (flashOctet octets 0) (flashOctet octets 1) ≠ Config.imageMarker then .absent
  else if !headerPasses octets then .failed
  else
    match imageRecords octets with
    | none => .failed
    | some rs => if recordsPass rs && imageCheckGood octets then .verified (imageOf rs) else .failed

/-! ### The extent of the read (R163)

"The attempt judges the octets as they arrive" and "the read stops at the first failing test". A test is made here at the
octet that completes what it tests: the marker, the version, the total length, a record's kind, its length, its contents, the
check code (DESIGN CHOICE, assumption log 16). -/

/-- A record's kind octet fails: the kind is unknown, or a second DEVICE or LANE record begins (R163). -/
def kindFails (seen : List Octet) (k : Octet) : Bool :=
  !([0x01#8, 0x02#8, 0x03#8].contains k) || (decide (k ≠ 0x03#8) && seen.contains k)

/-- A record whose contents have arrived passes the tests on them (R163). -/
def contentsPass (r : RawRecord) : Bool :=
  match readRecord r with
  | some i => identifiersAllowed i && valuesInRange i
  | none => false

/-- The address behind the last octet read: `n` records are still to come from address `a` on, `seen` are the kinds of those
before, and `area` are the octets up to the check code. With every record passed the check code is read (R163). -/
def recordsStop : Nat → List Octet → Nat → List Octet → Nat
  | 0, _, a, area => if area = [] then a + 2 else a
  | _ + 1, _, a, [] => a
  | n + 1, seen, a, k :: area =>
    if kindFails seen k then a + 1
    else
      match area with
      | hi :: lo :: rest =>
        if rest.length < (num2 hi lo).toNat then a + 3
        else if contentsPass ⟨k, rest.take (num2 hi lo).toNat⟩ then
          recordsStop n (k :: seen) (a + 3 + (num2 hi lo).toNat) (rest.drop (num2 hi lo).toNat)
        else a + 3 + (num2 hi lo).toNat
      | short => a + 1 + short.length

/-- The number of octets an attempt reads (R163). -/
def readStop (octets : List Octet) : Nat :=
  if num2 (flashOctet octets 0) (flashOctet octets 1) ≠ Config.imageMarker then 2
  else if flashOctet octets 2 ≠ 1#8 then 3
  else if !headerPasses octets then 6
  else recordsStop (flashOctet octets 3).toNat [] 6 (flashOctets octets 6 (imageLength octets - 8))

/-- The octets of one attempt arrive, the engine advancing with each (R163). -/
def readImage (octets : List Octet) (n : Loader) : Loader :=
  (flashOctets octets 0 (readStop octets)).foldl octetTaken n

/-! ### Applying an image (R70, R71, R165) -/

/-- The value the image gives a parameter: the later one, where it is named twice (R165). -/
def imageValue (p : Param) (im : Image) : Option Num :=
  (im.settings.filter fun q => decide (paramOf q.1 = some p)).getLast?.map fun q => q.2

/-- The lane the image names for a management lane, if it differs from the current one (R165). -/
def imageLane (p : Param) (current : LaneId) (im : Image) : Option LaneId :=
  ((imageValue p im).bind laneOfNum).filter fun l => decide (l ≠ current)

/-- A lane mask with the bits of a current management lane and of the one the image names forced to 1 (R165). -/
def forcedMask (v : Num) (current : LaneId) (named : Option LaneId) : Num :=
  match named with
  | some l => withLane (withLane v current) l
  | none => withLane v current

/-- The value the image gives a parameter as it is applied, the management lanes' enable bits forced (R165). -/
def appliedValue (p : Param) (im : Image) (s : State) : Option Num :=
  match p with
  | .ingressEnable =>
    (imageValue p im).map fun v => forcedMask v s.channel.mgmtIngress (imageLane .mgmtIngress s.channel.mgmtIngress im)
  | .egressEnable =>
    (imageValue p im).map fun v => forcedMask v s.channel.mgmtEgress (imageLane .mgmtEgress s.channel.mgmtEgress im)
  | _ => imageValue p im

/-- The parameters an image may carry that take effect as a write does (R139, R165). -/
def imageParams : List Param :=
  [.timingPrimary, .timingSecondary, .timingRevert, .qualifyFrames, .refinMiss, .ingressEnable, .egressEnable,
    .confirmCount, .missLimit, .noticeMask, .noticeWait, .noticeRetries, .group 0, .group 1, .group 2, .group 3]

/-- One parameter of the image takes effect (R165). -/
def applyParam (im : Image) (s : State) (p : Param) : State :=
  match appliedValue p im s with
  | some v => storeParam p v s
  | none => s

/-- The device address after the application: the image's where the straps read 0 or 31 and it carries one (R165). -/
def appliedAddress (im : Image) (s : State) : Octet :=
  if (s.straps = 0 ∨ s.straps = 31) ∧ im.address ≠ 0 then im.address else s.address

/-- The lane change an image holds, if it names other management lanes (R122, R165). -/
def imageChange (im : Image) (s : State) : Option LaneChange :=
  if (imageLane .mgmtIngress s.channel.mgmtIngress im).isNone ∧ (imageLane .mgmtEgress s.channel.mgmtEgress im).isNone
  then none
  else
    some
      { ingress := imageLane .mgmtIngress s.channel.mgmtIngress im
        egress := imageLane .mgmtEgress s.channel.mgmtEgress im, holder := .image, armed := false }

/-- The MAP_RANGE records written into the SHADOW bank as one event, the later prevailing (R70). -/
def writeRuns (im : Image) (s : State) : State :=
  { s with map := setShadow (im.runs.foldl (fun b r => writeRun r b) (shadowBank s.map)) s.map }

/-- START_UP is raised: placed at the front of the list with cause, result and attempts (R153, R166). It is never
masked. -/
def raiseStartUp (s : State) : State :=
  { s with
    notices := placeStartUp s.timing.number
      [causeOctet s.loader.cause, resultOctet s.loader.result, octetOf s.loader.attempts] s.notices }

/-- The loader at the end of a load or reload: its state and result, the engine idle (R161, R168, R169). -/
def loaderEnded (st : LoaderState) (r : LoadResult) (n : Loader) : Loader :=
  { n with state := st, result := r, engine := none, next := .none }

/-- The settings of a verified image: address, parameters, lane change (R165). -/
def applySettings (im : Image) (s : State) : State :=
  imageParams.foldl (applyParam im) { setChange (imageChange im s) s with address := appliedAddress im s }

/-- The immediate commit the loader asks for (R71). -/
def requestCommit (s : State) : State := { s with map := { s.map with commit := .next } }

/-- A verified start-up image is applied as one event (R165). -/
def applyImage (im : Image) (s : State) : State :=
  raiseStartUp
    ((fun s : State => { s with loader := loaderEnded .loaded .loaded s.loader })
      (requestCommit (writeRuns im (applySettings im s))))

/-! ### The ends of attempts (R163, R164, R167, R168) -/

/-- A start-up load ends without an image: DEFAULTS, START_UP (R164, R166). -/
def endLoadEmpty (r : LoadResult) (s : State) : State :=
  raiseStartUp { s with loader := loaderEnded .defaults r s.loader }

/-- A reload ends: the state returns to what it was, RELOAD_DONE carries result and attempts (R168). -/
def endReload (r : LoadResult) (s : State) : State :=
  raise .reloadDone .none [resultOctet r, octetOf s.loader.attempts]
    { s with loader := loaderEnded s.loader.resume r s.loader }

/-- An attempt failed and another follows: the engine is idle until the next attempt (R164, R169). -/
def loaderWaits (n : Loader) : Loader := { n with engine := none, next := .awaitsStart }

/-- The end of a load or reload with no image, by its kind. -/
def endEmpty (r : LoadResult) (s : State) : State := if reloading s then endReload r s else endLoadEmpty r s

/-- An attempt is in progress (R163). -/
def attemptRunning (s : State) : Bool := s.loader.engine.isSome

/-- The end of an attempt whose octets have been read, by the verdict on them (R163 to R168). -/
def concludeAttempt (verdict : Verdict) (s : State) : State :=
  match verdict with
  | .absent => endEmpty .absent s
  | .failed =>
    if s.loader.attempts < Config.attemptLimit then { s with loader := loaderWaits s.loader } else endEmpty .failed s
  | .verified im => if reloading s then endReload .loaded (writeRuns im s) else applyImage im s

/-- An attempt: the engine takes the octets of the flash up to the first failing test, or all of the image, and the attempt
ends by the verdict on them (R163). -/
def endAttempt (octets : List Octet) (s : State) : State :=
  concludeAttempt (judgeImage octets) { s with loader := readImage octets s.loader }

/-- The loader at the beginning of a further attempt (R164). -/
def attemptBegun (n : Loader) : Loader :=
  readBegun { n with attempts := n.attempts + 1, next := .none }

/-- A further attempt is due: the start after a failure has been taken (R164). -/
def attemptDue (s : State) : Bool := decide (s.loader.next = .due)

/-- Begin the next attempt, when that is due (R164). -/
def beginAttempt (s : State) : State := if attemptDue s then { s with loader := attemptBegun s.loader } else s

/-! ### Resets (R88, R126, R162) -/

/-- The device address the straps give: 1 to 30, else 0 until an image is applied (R106). -/
def strapAddress (straps : BitVec 5) : Octet := if straps = 31 then 0 else straps.setWidth 8

/-- The reset of every block: each takes its reset values, the address is read from the straps, and the first attempt
of a load with that cause begins at the reset itself (R126, R162). The commands waiting in the queue, and the draws made
from the free value, are not the part's own state and stand. -/
def resetPart (cause : Cause) (straps : BitVec 5) (s : State) : State :=
  { State.reset with
    loader := { Loader.reset with cause := cause }, address := strapAddress straps, straps := straps, draws := s.draws
    pending := s.pending }

/-! ### Emission reports (R86, R115, R122, R126, R152) -/

/-- The report of a reply's TAIL arms the lane change its request holds (R122). -/
def armChange (serial : Nat) (s : State) : State :=
  match s.dispatcher.change with
  | some c => if c.holder = .request serial then setChange (some { c with armed := true }) s else s
  | none => s

/-- The head message of the queue leaves it (R115). -/
def popOutgoing (s : State) : State :=
  { s with channel := { s.channel with outgoing := s.channel.outgoing.tail } }

/-- The report that the TAIL of a message of the queue has been emitted, by what the message is. -/
def reportTail (m : OutgoingMessage) (s : State) : State :=
  match m.kind with
  | .reply serial => if s.dispatcher.restart = some serial then resetPart .restart s.straps s else armChange serial s
  | .answer => s
  | .notice => { s with notices := noticeEmitted s.params.noticeWait s.notices }

/-- The message whose TAIL was emitted leaves the queue and the report is delivered (R115). -/
def messageEmitted (s : State) : State :=
  match s.channel.outgoing with
  | m :: _ => reportTail m (popOutgoing s)
  | [] => s

/-- The service word of the oldest frames in sending has been sent; they are complete (R82, R86). -/
def emitServiceWord (s : State) : State :=
  match s.egress.sending with
  | [] => s
  | f :: rest =>
    if f.localTail then messageEmitted { s with egress := { s.egress with sending := rest } }
    else { s with egress := { s.egress with sending := rest } }

end Sys2Proof.Machine
end

