-- ==== Sys2Proof/Machine/Settle.lean ====
section
/-! DEFINITION. The steps the part takes itself once they are due: which they are, and taking all of them.

Ten rows of the opcode table (COPY_DONE to IMAGE_ATTEMPT_BEGIN) are steps that nothing outside the part commands: a rule
says when each is taken ("at that start", "at the first moment ...", "when room appears"). Each is a command here and
acts only when it is due. So that a queue that does not name them loses nothing, an event on the part's lines first takes
every step that is still due, in the fixed order of `settle`; the sender of commands chooses another order by naming the
steps (assumption log 2). -/

namespace Sys2Proof.Machine

/-- What a master frame start brings about in the blocks that count starts: the copy's end (R60), the checkers' (R99),
the survey's (R35), the expiry of the retransmission timer (R155) and the next load attempt (R164). Each belongs to that
start, and whatever follows the start finds them taken. -/
def finishStart (s : State) : State :=
  beginAttempt (takeExpiry (takeSurveyEnd ((List.finRange 4).foldl (fun s c => takeCheckEnd c s) (takeCopyEnd s))))

/-- The message at the head of the intake is executed, when that is due (R114, R117). -/
def executeHead (s : State) : State := if groupDue s then executeGroup s else executeRequest s

/-- The head of the intake is executed when that is due, and the Notice Unit takes its first moment. -/
def serveIntake (s : State) : State := noticeMoment 0 (executeHead s)

/-- Every step that is due is taken: what the latest start brought about, the owed ABORT, the Notice Unit's first
moment, the messages of the intake (at most 2). -/
def settle (s : State) : State := serveIntake (serveIntake (noticeMoment 0 (storeOwedAbort (finishStart s))))

/-- Something that the latest start brought about is due. -/
def startUnfinished (s : State) : Bool :=
  copyEndDue s || (List.finRange 4).any (fun c => checkEndDue c s) || surveyEndDue s || expiryDue s || attemptDue s

/-- No step of the part is due. -/
def quiet (s : State) : Bool :=
  !startUnfinished s && !abortDue s && !copyDue 0 s && !buildDue 0 s && !groupDue s && !requestDue s

end Sys2Proof.Machine
end

