-- ==== Sys2Proof/Machine/Lines.lean ====
section
/-! DEFINITION. The commands that are events on the part's lines: reset, ingress words and signal absence, the local
frame timer, REFIN, the flash. Each first takes the steps of the part that are still due (`settle`). -/

namespace Sys2Proof.Machine

/-- POWER_ON_RESET (R162): every block takes its reset values, the straps are read (R106), the first attempt of the
start-up load begins with cause POWER_ON. -/
def execPowerOnReset (straps : BitVec 5) (s : State) : Host.Outcome State Fault Refusal :=
  .next (resetPart .powerOn straps s)

/-- WORD_ARRIVAL (R1). -/
def execWordArrival (lane : LaneId) (word : Word) (flagged : Bool) (s : State) : Host.Outcome State Fault Refusal :=
  .next (arriveWord lane ⟨word, flagged⟩ (settle s))

/-- SIGNAL_ABSENCE (R13). -/
def execSignalAbsence (lane : LaneId) (s : State) : Host.Outcome State Fault Refusal :=
  .next (loseSignal lane (settle s))

/-- The timing states whose starts the local frame timer makes (R45). -/
def locallyTimed (s : State) : Bool := decide (s.timing.state = .freerun) || decide (s.timing.state = .holdover)

/-- The local frame timer runs out (R39): in FREERUN and HOLDOVER it makes a start; in PRIMARY and SECONDARY it makes
none, is restarted and runs on. -/
def timerExpires (s : State) : State :=
  if locallyTimed s then masterFrameStart none s else { s with timing := { s.timing with timer := .expiry } }

/-- LOCAL_FRAME_TIMER_EXPIRY (R39). -/
def execLocalFrameTimerExpiry (s : State) : Host.Outcome State Fault Refusal :=
  .next (timerExpires (settle s))

/-- A start, where the FTU is REFIN-timed (R47). -/
def refinStart (s : State) : State := if s.timing.source = some .refin then masterFrameStart none s else s

/-- A pulse less than one half of a nominal period after the previous accepted pulse, which must be held (R42, R52). -/
def pulseEarly (early : Bool) (s : State) : Bool := early && s.timing.pulseHeld

/-- A REFIN pulse (R42): an early one is discarded; any other is accepted, and makes a start when REFIN-timed. -/
def takePulse (early : Bool) (s : State) : State :=
  if pulseEarly early s then s
  else refinStart { s with timing := pulseAccepted s.params.qualifyFrames s.timing }

/-- REFIN_PULSE (R42). -/
def execRefinPulse (early : Bool) (s : State) : Host.Outcome State Fault Refusal :=
  .next (takePulse early (settle s))

/-- A REFIN miss (R43): counted, making a start when REFIN-timed, and disqualifying REFIN at REFIN_MISS after that
start. A window that is stopped does not run out. -/
def takeMiss (s : State) : State :=
  if s.timing.window = .stopped then s
  else checkMissRun (refinStart { s with timing := missTaken s.timing })

/-- REFIN_MISS (R43). -/
def execRefinMiss (s : State) : Host.Outcome State Fault Refusal :=
  .next (takeMiss (settle s))

/-- SERVICE_WORD_EMITTED (R86): the oldest frames in sending are complete, and the emission is reported. -/
def execServiceWordEmitted (s : State) : Host.Outcome State Fault Refusal :=
  .next (emitServiceWord (settle s))

/-- The end of the load attempt in progress; without one there is nothing to end. -/
def attemptEnds (octets : List Octet) (s : State) : State := if attemptRunning s then endAttempt octets s else s

/-- IMAGE_ATTEMPT_END (R163). -/
def execImageAttemptEnd (octets : List Octet) (s : State) : Host.Outcome State Fault Refusal :=
  .next (attemptEnds octets (settle s))

end Sys2Proof.Machine
end

