-- ==== Sys2Proof/Machine/Steps.lean ====
section
/-! DEFINITION. The commands that are steps the part takes itself: each acts when it is due and changes nothing
otherwise. -/

namespace Sys2Proof.Machine

/-- COPY_DONE (R60): the copy of OUT15 ended the copy; the engine returns to IDLE and COPY_DONE is raised. -/
def execCopyDone (s : State) : Host.Outcome State Fault Refusal :=
  .next (takeCopyEnd s)

/-- CHECK_DONE (R99): the run whose frames remaining reached 0 ends in DONE with CLEAN, ERRORS or NOT_FOUND. -/
def execCheckDone (checker : CheckerId) (s : State) : Host.Outcome State Fault Refusal :=
  .next (takeCheckEnd checker s)

/-- SURVEY_DONE (R35): the survey whose frames remaining reached 0 closes as DONE. -/
def execSurveyDone (s : State) : Host.Outcome State Fault Refusal :=
  .next (takeSurveyEnd s)

/-- OWED_ABORT_STORED (R112): room has appeared in the forward FIFO; the owed ABORT is stored. -/
def execOwedAbortStored (s : State) : Host.Outcome State Fault Refusal :=
  .next (storeOwedAbort s)

/-- REQUEST_EXECUTION (R114): the unicast request at the head of the intake is executed as one event and its reply is
placed. -/
def execRequestExecution (s : State) : Host.Outcome State Fault Refusal :=
  .next (executeRequest (finishStart s))

/-- GROUP_COPY_EXECUTION (R117): the group copy at the head of the intake runs its permitted items. -/
def execGroupCopyExecution (s : State) : Host.Outcome State Fault Refusal :=
  .next (executeGroup (finishStart s))

/-- NOTICE_MESSAGE_BUILD (R154). -/
def execNoticeMessageBuild (s : State) : Host.Outcome State Fault Refusal :=
  .next (buildNotice 0 s)

/-- NOTICE_COPY_PLACEMENT (R152). -/
def execNoticeCopyPlacement (s : State) : Host.Outcome State Fault Refusal :=
  .next (placeCopy 0 s)

/-- RETRANSMISSION_TIMER_EXPIRY (R155). -/
def execRetransmissionTimerExpiry (s : State) : Host.Outcome State Fault Refusal :=
  .next (takeExpiry s)

/-- IMAGE_ATTEMPT_BEGIN (R164). -/
def execImageAttemptBegin (s : State) : Host.Outcome State Fault Refusal :=
  .next (beginAttempt s)

end Sys2Proof.Machine
end

