-- ==== Sys2Proof/Machine/Dispatch.lean ====
section
/-! DEFINITION. Which meaning each command of the opcode table has. -/

namespace Sys2Proof.Machine

def exec (i : Instr) (s : State) : Host.Outcome State Fault Refusal :=
  match i with
  | .powerOnReset straps => Sys2Proof.Machine.execPowerOnReset straps s
  | .wordArrival lane word flagged => Sys2Proof.Machine.execWordArrival lane word flagged s
  | .signalAbsence lane => Sys2Proof.Machine.execSignalAbsence lane s
  | .localFrameTimerExpiry => Sys2Proof.Machine.execLocalFrameTimerExpiry s
  | .refinPulse early => Sys2Proof.Machine.execRefinPulse early s
  | .refinMiss => Sys2Proof.Machine.execRefinMiss s
  | .serviceWordEmitted => Sys2Proof.Machine.execServiceWordEmitted s
  | .imageAttemptEnd octets => Sys2Proof.Machine.execImageAttemptEnd octets s
  | .copyDone => Sys2Proof.Machine.execCopyDone s
  | .checkDone checker => Sys2Proof.Machine.execCheckDone checker s
  | .surveyDone => Sys2Proof.Machine.execSurveyDone s
  | .owedAbortStored => Sys2Proof.Machine.execOwedAbortStored s
  | .requestExecution => Sys2Proof.Machine.execRequestExecution s
  | .groupCopyExecution => Sys2Proof.Machine.execGroupCopyExecution s
  | .noticeMessageBuild => Sys2Proof.Machine.execNoticeMessageBuild s
  | .noticeCopyPlacement => Sys2Proof.Machine.execNoticeCopyPlacement s
  | .retransmissionTimerExpiry => Sys2Proof.Machine.execRetransmissionTimerExpiry s
  | .imageAttemptBegin => Sys2Proof.Machine.execImageAttemptBegin s

end Sys2Proof.Machine
end

