-- ==== Sys2Proof/Safety.lean ====
section
/-! DEFINITION. What holds of the part at every moment: the predicates over State that the statements speak of. Each is a
decidable proposition over the state alone and cites the rule it is read from. -/

namespace Sys2Proof.Machine

/-! ### Lanes and stores (Sections 1 and 2) -/

/-- The lane holds alignment: SYNC or DRIFT. -/
def aligned (r : Lane) : Bool := decide (r.align = .sync) || decide (r.align = .drift)

/-- The frame under assembly of a lane (R14): in SYNC and DRIFT it holds one word for each position taken since the
marker, under the last frame number, and there is none at position 0; in every other state there is none. -/
def assemblyLegal (r : Lane) : Bool :=
  match r.assembly with
  | none => !aligned r || decide (r.position = 0)
  | some a => aligned r && decide (a.payload.length + 1 = r.position.val) && decide (a.number = r.last)

/-- The records a store may hold in each state (R21 to R24). -/
def storeLegal (st : Store) : Bool :=
  match st.state with
  | .idle => decide (st.records.length = 0)
  | .filling => decide (st.records.length ≤ 1)
  | .running => decide (st.records.length ≤ Config.storeDepth)

/-- The store is in IDLE exactly while its lane is in OFF, SEEK or CONFIRM (R22). -/
def storeFollows (r : Lane) (st : Store) : Bool := decide (st.state ≠ .idle) == aligned r

/-- Every lane and store is legal (R14, R21 to R24), and a lane is in OFF exactly while its enable bit is 0 (R16). -/
abbrev LanesLegal (s : State) : Prop :=
  ∀ l : LaneId,
    assemblyLegal (s.lanes.get l) = true ∧ storeLegal (s.stores.get l) = true ∧
      storeFollows (s.lanes.get l) (s.stores.get l) = true ∧
      ((s.lanes.get l).align = .off ↔ inMask s.params.ingressEnable l = false)

/-! ### Frame timing (Section 3) -/

/-- The current source is none in FREERUN and HOLDOVER and some source in PRIMARY and SECONDARY (R45). -/
def sourceLegal (t : Timing) : Bool :=
  decide (t.state = .primary ∨ t.state = .secondary) == t.source.isSome

/-- The current source, if there is one, is qualified (R45, R46); QUALIFY_FRAMES is at least 1 (Table 8-3). -/
abbrev TimingLegal (s : State) : Prop :=
  sourceLegal s.timing = true ∧ (s.timing.source.isSome → qualified s.timing s.timing.source = true) ∧
    1 ≤ s.params.qualifyFrames.toNat ∧
    ∀ l : LaneId, aligned (s.lanes.get l) = false → s.timing.laneQual.get l = ⟨false, 0⟩

/-! ### The Connection Map (Section 4) -/

/-- The operations that claim the SHADOW bank, in flight (R65). -/
def claims (s : State) : Nat :=
  (if copying s.map then 1 else 0) + (if commitPending s then 1 else 0) + (if reloading s then 1 else 0)

/-- Bank B is ACTIVE exactly when the epoch is odd (R56). At most one operation claims the SHADOW bank (R65), none during
the start-up load (R71); the read engine runs, or waits to, only during a load or reload (R169), and a reload returns to
LOADED or DEFAULTS (R168). Between commands a read that has begun stands at address 0 with no octet taken (log 16), and no
read has taken more than 8192 octets (R163). -/
abbrev MapLegal (s : State) : Prop :=
  ((s.map.active = .b) ↔ (s.map.epoch.getLsbD 0 = true)) ∧
    claims s ≤ 1 ∧ (operating s = false → claims s = 0) ∧
    ((s.loader.engine.isSome ∨ s.loader.next ≠ .none) → operating s = false ∨ reloading s = true) ∧
    (reloading s = true → s.loader.resume = .loaded ∨ s.loader.resume = .defaults) ∧
    (s.loader.engine.isSome → s.loader.engine = some 0 ∧ s.loader.taken = []) ∧
    s.loader.taken.length ≤ Config.imageLimit

/-! ### The service channel (Section 7) -/

/-- The parser's open message is being stored in the forward FIFO. -/
def parserStoring (c : Channel) : Bool :=
  match c.parser with
  | some m => m.storing
  | none => false

/-- Scan forwarded words, inside a message (`true`) or between messages: each message begins with its HEAD and ends with
its TAIL or an ABORT (R111). The answer says whether the scan ends inside a message; nothing for words out of form. -/
def scanForward : Bool → List Word → Option Bool
  | inside, [] => some inside
  | false, w :: ws => if wordKind w = .head then scanForward true ws else none
  | true, w :: ws =>
    match wordKind w with
    | .body => scanForward true ws
    | .tail => scanForward false ws
    | .abort => scanForward false ws
    | _ => none

/-- The words of one forwarded message stand together in the FIFO, from its HEAD to its TAIL or an ABORT (R111): only the
last may still be open, and then the parser is storing it or its ABORT is owed; the arbiter in SENDING from FORWARD is
inside the first. -/
abbrev ForwardInForm (s : State) : Prop :=
  scanForward (decide (s.channel.arbiter = .sendingForward)) (s.channel.fifo.map fun f => f.word) =
      some (parserStoring s.channel || s.channel.abortOwed) ∧
    (parserStoring s.channel && s.channel.abortOwed) = false

/-- The key of a request in the intake, which a group copy has not (R113). -/
def intakeKeys (c : Channel) : List (Octet × Num) :=
  c.intake.filterMap fun m => if m.group then none else some (requestTag m.octets, m.check)

/-- The keys of the reply cache (R116). -/
def cacheKeys (c : Channel) : List (Octet × Num) := c.cache.map fun e => (e.tag, e.check)

/-- The bounds of the Service Channel Unit (R111, R114 to R116, R119): its capacities, at most one notice message in the
queue, and no key twice among the intake's requests and the reply cache. -/
abbrev ChannelBounded (s : State) : Prop :=
  s.channel.fifo.length ≤ Config.fifoDepth ∧ s.channel.intake.length ≤ Config.intakeDepth ∧
    s.channel.outgoing.length ≤ Config.queueDepth ∧
    (s.channel.outgoing.countP fun m => decide (m.kind = .notice)) ≤ 1 ∧
    s.channel.cache.length ≤ Config.cacheDepth ∧ (intakeKeys s.channel ++ cacheKeys s.channel).Nodup ∧
    s.channel.passOver ≤ Config.passOverLimit

/-- The management lanes are enabled, and so is a pending new management egress lane (R17, R85, R122); every egress lane
is ON during the start-up load (R139). -/
abbrev ManagementEnabled (s : State) : Prop :=
  inMask s.params.ingressEnable s.channel.mgmtIngress = true ∧ keepsEgress s.params.egressEnable s = true ∧
    (operating s = false → s.params.egressEnable = 0xFFFF#16)

/-! ### Notices (Section 9) -/

/-- The kind and subject of the entries that are not carried. -/
def uncarriedKeys (n : NoticeUnit) : List (NoticeKind × Subject) := (uncarried n).map fun e => (e.kind, e.subject)

/-- The copy positions each state of the unit has (R152). -/
def positionLegal (n : NoticeUnit) : Bool :=
  match n.copy with
  | .idle => decide (n.state = .ready ∨ n.state = .stalled)
  | _ => decide (n.state = .awaiting)

/-- The notice list and the unit's states (R149, R151 to R153): at most 16 entries, ALERT asserted while there is one, no
two entries outside the outstanding message sharing kind and subject, no START_UP before the end of the start-up load, an
outstanding message exactly outside READY, the timer running exactly in TIMING. -/
abbrev NoticesLegal (s : State) : Prop :=
  s.notices.list.length ≤ Config.listDepth ∧ (s.notices.alert = !s.notices.list.isEmpty) ∧
    (uncarriedKeys s.notices).Nodup ∧ (operating s = false → ∀ e ∈ s.notices.list, e.kind ≠ .startUp) ∧
    (s.notices.outstanding.isSome = decide (s.notices.state ≠ .ready)) ∧ positionLegal s.notices = true ∧
    (s.notices.timer.isSome = decide (s.notices.copy = .timing))

/-! ### Checkers and parameters (Sections 6 and 8) -/

/-- A checker's record (sections 6.3 and 6.7): a result exactly in DONE, a detected kind exactly once it has tracked, in
TRACK it has tracked and fewer than 8 consecutive words were errored, each loss of track cost errored words, and it has
not sampled more starts than its frame count. -/
def checkerLegal (k : Checker) : Bool :=
  (k.result.isSome == decide (k.state = .done)) && (k.detected.isSome == k.tracked) &&
    (decide (k.state ≠ .track) || (k.tracked && decide (k.erroredRun < Config.trackLimit))) &&
    (decide (k.state ≠ .detect) || decide (k.erroredRun = 0)) &&
    (decide (k.lost = 0) || decide (k.errored ≠ 0)) && decide (k.remaining.toNat ≤ k.frameCount.toNat)

/-- Every checker's record is legal. -/
abbrev CheckersLegal (s : State) : Prop := ∀ c : CheckerId, checkerLegal (s.checkers.get c) = true

/-- Every parameter of Table 8-3. -/
def everyParam : List Param :=
  imageParams ++ [.deviceAddress, .mgmtIngress, .mgmtEgress, .genKind 0, .genKind 1, .genKind 2, .genKind 3]

/-- Every parameter lies in the range of Table 8-3, DEVICE_ADDRESS among them, and NOTICE_MASK holds its fixed bits
(R138). -/
abbrev ParamsInRange (s : State) : Prop :=
  (∀ p ∈ everyParam, paramInRange p (paramValue s p) = true) ∧ s.params.noticeMask = heldMask s.params.noticeMask

/-! ### A notice raised during an event -/

/-- A notice of this kind and subject, if raised after at most `before` others of the same event, finds an entry to
coalesce into or room to be appended (R149). -/
def noticeFits (before : Nat) (kind : NoticeKind) (subject : Subject) (n : NoticeUnit) : Prop :=
  (∃ e ∈ n.list, e.kind = kind ∧ e.subject = subject ∧ e.carried = false) ∨ n.list.length + before < 16

/-- Between `b` and `t` a notice of this kind, subject and data has been raised, after at most `before` others of the same
event: where its kind is enabled and it fits, the list holds it with the number of the latest start (R148, R149). -/
def Raised (before : Nat) (kind : NoticeKind) (subject : Subject) (data : List Octet) (b t : State) : Prop :=
  b.params.noticeMask.getLsbD (noticeBit kind) = true → noticeFits before kind subject b.notices →
    ∃ e ∈ t.notices.list, e.kind = kind ∧ e.subject = subject ∧ e.carried = false ∧ e.frame = t.timing.number ∧
      e.data = data

/-- Between `b` and `t` no notice has been raised but of the kinds and subjects that `may` names, those enabled in
NOTICE_MASK (R148, R149, R151). Each entry keeps its place, kind, subject and carried mark; a carried one and one that `may`
does not name stand whole, and one that a notice coalesced into has the number of the latest start. What is new stands
behind them, is not carried and has that number. ALERT is asserted where the list has changed, and is not taken back; the
lost count stands while the list is not full. Where nothing may be raised, list, ALERT and lost count stand. -/
structure OnlyRaised (may : NoticeKind → Subject → Bool) (b t : State) : Prop where
  stands : ∀ (i : Nat) (e : NoticeEntry), b.notices.list[i]? = some e →
    ∃ e', t.notices.list[i]? = some e' ∧ e'.kind = e.kind ∧ e'.subject = e.subject ∧ e'.carried = e.carried ∧
      (e' = e ∨
        (e.carried = false ∧ may e.kind e.subject = true ∧ b.params.noticeMask.getLsbD (noticeBit e.kind) = true ∧
          e'.frame = t.timing.number))
  fresh : ∀ (i : Nat) (e : NoticeEntry), b.notices.list.length ≤ i → t.notices.list[i]? = some e →
    e.carried = false ∧ may e.kind e.subject = true ∧ b.params.noticeMask.getLsbD (noticeBit e.kind) = true ∧
      e.frame = t.timing.number
  alert : (t.notices.alert = b.notices.alert ∨ t.notices.alert = true) ∧
    (t.notices.list ≠ b.notices.list → t.notices.alert = true)
  lost : t.notices.lost = b.notices.lost ∨ 16 ≤ t.notices.list.length
  unraised : (∀ kind subject, may kind subject = true → b.params.noticeMask.getLsbD (noticeBit kind) = false) →
    t.notices.list = b.notices.list ∧ t.notices.alert = b.notices.alert ∧ t.notices.lost = b.notices.lost

/-- Between `b` and `t` nothing happened to the Notice Unit but raises that `may` names: its state, outstanding message,
copy position, timer, retry count and next number stand. -/
def NoticesKept (may : NoticeKind → Subject → Bool) (b t : State) : Prop :=
  t.notices =
      { b.notices with list := t.notices.list, alert := t.notices.alert, lost := t.notices.lost } ∧
    OnlyRaised may b t

/-- The SLIP notices of the start that finds the part in `b` (R24, R29): one for each store that is RUNNING and empty. -/
def slipsAt (b : State) : Nat :=
  (List.finRange 16).countP fun l => decide ((b.stores.get l).state = .running) && (b.stores.get l).records.isEmpty

/-- The CHECK_LOST notices between `b` and `t` (R98): one for each checker that goes from TRACK to DETECT. -/
def tracksLost (b t : State) : Nat :=
  (List.finRange 4).countP fun c =>
    decide ((b.checkers.get c).state = .track) && decide ((t.checkers.get c).state = .detect)

/-! ### What a lane does to the other blocks when it goes out of alignment -/

/-- The choice of the Frame Timing Unit at the loss of its source (R46): P if qualified, else S if qualified, else
HOLDOVER. -/
def choiceAtLoss (t : Timing) (p : Params) : TimingState × Option Source :=
  if qualified t (primarySource p) = true then (.primary, primarySource p)
  else if qualified t (secondarySource p) = true then (.secondary, secondarySource p)
  else (.holdover, none)

/-- A store after a recentre (R28): the two newest records in RUNNING, or what it holds in FILLING. A store in IDLE, which
the timing lane's store never is, is left (assumption log 15). -/
def afterRecentre (st : Store) : Store :=
  if st.state = .idle then st
  else if 2 ≤ st.records.length then
    { st with state := .running, records := st.records.drop (st.records.length - 2) }
  else { st with state := .filling }

/-- A checker whose run is in progress. -/
def inProgress (k : Checker) : Bool := decide (k.state = .detect ∨ k.state = .track)

/-- The data of CHECK_DONE with a result: result, detected kind with its flag, errored words, FFFFH above 65534 (R99). -/
def checkDoneOctets (result : Octet) (k : Checker) : List Octet :=
  [result, detectedOctet k.detected] ++
    (if k.errored.toNat ≤ 65534 then [octetAt k.errored 1, octetAt k.errored 0] else [0xFF#8, 0xFF#8])

/-- The run of checker `c` is in progress and watches lane `l`. -/
def runsOn (l : LaneId) (b : State) (c : CheckerId) : Bool :=
  inProgress (b.checkers.get c) && decide ((b.checkers.get c).lane = l)

/-- The survey is RUNNING on lane `l`. -/
def surveysLane (l : LaneId) (b : State) : Bool := decide (b.survey.state = .running ∧ b.survey.lane = l)

/-- The notices that follow when lane `l` enters SEEK or OFF: TIMING_CHANGE where it is the current source (R49), CHECK_DONE
of each checker whose run watches it (R101), and SURVEY_DONE where the event aborts its survey (R36). -/
def leavesNotices (aborts : Bool) (l : LaneId) (b : State) : NoticeKind → Subject → Bool
  | .timingChange, .none => decide (b.timing.source = some (.lane l))
  | .checkDone, .checker c => runsOn l b c
  | .surveyDone, .none => aborts
  | _, _ => false

/-- How many notices those are. -/
def noticesLeaving (aborts : Bool) (l : LaneId) (b : State) : Nat :=
  (decide (b.timing.source = some (.lane l))).toNat + (List.finRange 4).countP (runsOn l b) + aborts.toNat

/-- What the other blocks do when lane `l` enters SEEK or OFF (R15), between `b` and `t`: its store is IDLE (R27); it is
unqualified (R41), and a timing source lost with it is replaced at once (R46), with TIMING_CHANGE (R49) and the recentre of a
lane entered (R48); the checkers that watch it end LANE_LOST with CHECK_DONE (R101); where the event `aborts` a survey of
it, SURVEY_DONE carries lane, ABORTED and frames observed (R36). The event raises `besides` more notices. Each
notice is said to be in the list where all others of the event find room beside it, so no order among them is said
(assumption log 7). -/
structure LaneLeft (besides : Nat) (aborts : Bool) (l : LaneId) (b t : State) : Prop where
  store : t.stores.get l = { b.stores.get l with state := .idle, records := [] }
  others : ∀ k, k ≠ l → t.stores.get k =
    if b.timing.source = some (.lane l) ∧ t.timing.source = some (.lane k) then afterRecentre (b.stores.get k)
    else b.stores.get k
  timing : t.timing =
    { b.timing with
      laneQual := b.timing.laneQual.set l ⟨false, 0⟩
      state := if b.timing.source = some (.lane l) then (choiceAtLoss t.timing b.params).1 else b.timing.state
      source := if b.timing.source = some (.lane l) then (choiceAtLoss t.timing b.params).2 else b.timing.source }
  change : b.timing.source = some (.lane l) →
    Raised (besides + noticesLeaving aborts l b - 1) .timingChange .none
      [timingOctet t.timing.state, sourceOctet t.timing.source] b t
  checkers : ∀ c, t.checkers.get c =
    if ((b.checkers.get c).state = .detect ∨ (b.checkers.get c).state = .track) ∧ (b.checkers.get c).lane = l then
      { b.checkers.get c with state := .done, result := some .laneLost, round := none }
    else b.checkers.get c
  ended : ∀ c, runsOn l b c = true →
    Raised (besides + noticesLeaving aborts l b - 1) .checkDone (.checker c)
      (checkDoneOctets 0x05#8 (b.checkers.get c)) b t
  aborted : aborts = true →
    Raised (besides + noticesLeaving aborts l b - 1) .surveyDone .none
      [BitVec.ofNat 8 l.val, 0x02#8, octetAt b.survey.observed 1, octetAt b.survey.observed 0] b t

/-- Between `b` and `t` nothing changed but lanes, stores, survey, timing, checkers, the service channel and the notice
list. What is said of those is said beside it; of the notice list, `NoticesKept`. -/
def OtherBlocksKept (b t : State) : Prop :=
  t.map = b.map ∧ t.hold = b.hold ∧ t.egress = b.egress ∧ t.generators = b.generators ∧ t.dispatcher = b.dispatcher ∧
    t.loader = b.loader ∧ t.params = b.params ∧ t.address = b.address ∧ t.straps = b.straps ∧ t.starts = b.starts ∧
    t.draws = b.draws ∧ t.pending = b.pending

/-! ### What a disqualification of REFIN does -/

/-- REFIN is disqualified in `u`, which gives `t` (R43): its record and its miss run are cleared and its window stops. Where it
was the current source the loss is acted on at once (R46): the state and source of the choice, with TIMING_CHANGE (R49) and
the recentre of a lane entered (R48). Nothing else changes; of the Notice Unit nothing but that notice, and nothing at all
where REFIN was not the source. -/
structure RefinDisqualified (u t : State) : Prop where
  timing : t.timing =
    { u.timing with
      refinQual := ⟨false, 0⟩, missRun := 0, window := .stopped
      state := if u.timing.source = some .refin then (choiceAtLoss t.timing u.params).1 else u.timing.state
      source := if u.timing.source = some .refin then (choiceAtLoss t.timing u.params).2 else u.timing.source }
  stores : ∀ k, t.stores.get k =
    if u.timing.source = some .refin ∧ t.timing.source = some (.lane k) then afterRecentre (u.stores.get k)
    else u.stores.get k
  change : u.timing.source = some .refin →
    Raised 0 .timingChange .none [timingOctet t.timing.state, sourceOctet t.timing.source] u t
  quiet : u.timing.source ≠ some .refin → t.notices = u.notices
  notices : NoticesKept
    (fun kind subject => decide (kind = .timingChange ∧ subject = .none ∧ u.timing.source = some .refin)) u t
  kept : t.lanes = u.lanes ∧ t.survey = u.survey ∧ t.checkers = u.checkers ∧ t.channel = u.channel ∧
    OtherBlocksKept u t

/-! ### What a loss of alignment does -/

/-- The Lane Receiver after a loss of alignment (R12): SEEK, both counts 0, no frame under assembly, one more sync loss;
every other field as before, the last frame number among them. -/
def laneAfterLoss (r : Lane) : Lane :=
  { r with
    align := .seek, confirmed := 0, missed := 0, assembly := none
    syncLosses := if r.syncLosses = 0xFFFF#16 then 0xFFFF#16 else r.syncLosses + 1 }

/-- The Service Channel Unit when its open message is abandoned (R110): the parser is in BETWEEN, and a forwarded copy that
is being stored is ended by an ABORT, placed under the ordinal `n` of the latest start, or owed while the FIFO is full
(R112). The ABORT has zero content (assumption log 10). -/
def channelAbandoned (n : Nat) (c : Channel) : Channel :=
  match c.parser with
  | none => c
  | some m =>
    if m.storing = false then { c with parser := none }
    else if c.fifo.length < 128 then { c with parser := none, fifo := c.fifo ++ [{ word := 0xDD000000#32, entered := n }] }
    else { c with parser := none, abortOwed := true }

/-- The survey where the event aborts it (R36). -/
def surveyAfter (aborts : Bool) (v : Survey) : Survey := if aborts then { v with state := .aborted } else v

/-- The effects of a loss of alignment of lane `l` between two states (R12, R15, R27, R34, R41, R46, R48, R49, R101, R110):
the receiver, the survey of the lane, which counts the loss and which the event may abort (R36), the SYNC_LOST entry,
everything of `LaneLeft`, the message open on the management ingress lane; and nothing of the other blocks, nor of the
Notice Unit but the notices named. -/
structure AlignmentLost (aborts : Bool) (l : LaneId) (cause : Octet) (b t : State) : Prop where
  lanes : t.lanes = b.lanes.set l (laneAfterLoss (b.lanes.get l))
  left : LaneLeft 1 aborts l b t
  survey : t.survey =
    surveyAfter aborts
      (if b.survey.state = .running ∧ b.survey.lane = l ∧ b.survey.first.isSome ∧ b.survey.remaining ≠ 0 then
        { b.survey with syncLosses := bump b.survey.syncLosses }
      else b.survey)
  channel : t.channel = if b.channel.mgmtIngress = l then channelAbandoned b.starts b.channel else b.channel
  notice :
    Raised (noticesLeaving aborts l b) .syncLost (.lane l)
      [cause, octetAt (b.lanes.get l).last 1, octetAt (b.lanes.get l).last 0] b t
  notices : NoticesKept
    (fun kind subject => decide (kind = .syncLost ∧ subject = .lane l) || leavesNotices aborts l b kind subject) b t
  kept : OtherBlocksKept b t

/-! ### What a change of the lane enables does -/

/-- A write that takes INGRESS_ENABLE from `before` to `after` disables lane `l`. -/
def turnsOff (before after : Num) (l : LaneId) : Bool := before.getLsbD l.val && !after.getLsbD l.val

/-- Such a write enables lane `l`. -/
def turnsOn (before after : Num) (l : LaneId) : Bool := !before.getLsbD l.val && after.getLsbD l.val

/-- Such a write disables the lane that is the current source. -/
def sourceTurnsOff (before after : Num) (t : Timing) : Bool :=
  match t.source with
  | some (.lane l) => turnsOff before after l
  | _ => false

/-- The notices that follow when the lanes disabled go out (R36, R49, R101). -/
def switchNotices (v : Num) (s : State) : NoticeKind → Subject → Bool
  | .timingChange, .none => sourceTurnsOff s.params.ingressEnable v s.timing
  | .checkDone, .checker c =>
    inProgress (s.checkers.get c) && turnsOff s.params.ingressEnable v (s.checkers.get c).lane
  | .surveyDone, .none =>
    decide (s.survey.state = .running) && turnsOff s.params.ingressEnable v s.survey.lane
  | _, _ => false

/-- The effects between `s` and `t` of INGRESS_ENABLE taking the value `v` (R16, R27, R36, R41, R46, R48, R49, R101). A lane
whose bit goes to 0 enters OFF with its store in IDLE, unqualified, its checkers ended LANE_LOST and a survey of it aborted;
one whose bit goes to 1 leaves OFF for SEEK; the other lanes stand. A source that is disabled is replaced by the choice of
R46 among the sources left, and the store of a lane so entered is recentred. Each end and the change of source raises its
notice; of the Notice Unit nothing else changes. -/
structure LanesSwitched (v : Num) (s t : State) : Prop where
  lanes : ∀ l, t.lanes.get l =
    if turnsOff s.params.ingressEnable v l then
      { s.lanes.get l with align := .off, confirmed := 0, missed := 0, assembly := none }
    else if turnsOn s.params.ingressEnable v l ∧ (s.lanes.get l).align = .off then
      { s.lanes.get l with align := .seek }
    else s.lanes.get l
  stores : ∀ l, t.stores.get l =
    if turnsOff s.params.ingressEnable v l then { s.stores.get l with state := .idle, records := [] }
    else if t.timing.source = some (.lane l) ∧ s.timing.source ≠ some (.lane l) then afterRecentre (s.stores.get l)
    else s.stores.get l
  quals : ∀ l, t.timing.laneQual.get l =
    if turnsOff s.params.ingressEnable v l then ⟨false, 0⟩ else s.timing.laneQual.get l
  timing : t.timing =
    { s.timing with
      laneQual := t.timing.laneQual
      state := if sourceTurnsOff s.params.ingressEnable v s.timing then (choiceAtLoss t.timing s.params).1
        else s.timing.state
      source := if sourceTurnsOff s.params.ingressEnable v s.timing then (choiceAtLoss t.timing s.params).2
        else s.timing.source }
  change : sourceTurnsOff s.params.ingressEnable v s.timing = true →
    Raised 5 .timingChange .none [timingOctet t.timing.state, sourceOctet t.timing.source] s t
  checkers : ∀ c, t.checkers.get c =
    if inProgress (s.checkers.get c) ∧ turnsOff s.params.ingressEnable v (s.checkers.get c).lane then
      { s.checkers.get c with state := .done, result := some .laneLost, round := none }
    else s.checkers.get c
  ended : ∀ c, inProgress (s.checkers.get c) → turnsOff s.params.ingressEnable v (s.checkers.get c).lane = true →
    Raised 5 .checkDone (.checker c) (checkDoneOctets 0x05#8 (s.checkers.get c)) s t
  survey : t.survey =
    if s.survey.state = .running ∧ turnsOff s.params.ingressEnable v s.survey.lane then
      { s.survey with state := .aborted }
    else s.survey
  aborted : s.survey.state = .running → turnsOff s.params.ingressEnable v s.survey.lane = true →
    Raised 5 .surveyDone .none
      [BitVec.ofNat 8 s.survey.lane.val, 0x02#8, octetAt s.survey.observed 1, octetAt s.survey.observed 0] s t
  notices : NoticesKept (switchNotices v s) s t

/-! ### The notices of a start -/

/-- The notices that a master frame start taking the part from `b` to `t` can raise: NUMBER_STEP (R51), SLIP of a store that
is RUNNING and empty (R29), COMMIT_DONE (R66), CHECK_LOST (R98), FORWARD_OVERFLOW and REQUEST_DROPPED where their counts
move, or stand at their end (R123), TIMING_CHANGE (R49). -/
def startNotices (b t : State) : NoticeKind → Subject → Bool
  | .numberStep, .none => decide (b.starts ≠ 0) && decide (t.timing.number ≠ b.timing.number + 1)
  | .slip, .lane l => decide ((b.stores.get l).state = .running) && (b.stores.get l).records.isEmpty
  | .commitDone, .none => decide (t.map.epoch ≠ b.map.epoch)
  | .checkLost, .checker c =>
    decide ((b.checkers.get c).state = .track) && decide ((t.checkers.get c).state = .detect)
  | .forwardOverflow, .none =>
    decide (t.channel.forwardOverflow ≠ b.channel.forwardOverflow ∨ b.channel.forwardOverflow = 0xFFFF#16)
  | .requestDropped, .none =>
    decide (t.channel.requestDropped ≠ b.channel.requestDropped ∨ b.channel.requestDropped = 0xFFFF#16)
  | .timingChange, .none =>
    decide (t.timing.state ≠ b.timing.state ∨ t.timing.source ≠ b.timing.source)
  | _, _ => false

end Sys2Proof.Machine
end

