-- ==== Sys2Proof/Certificates/Slice0/Obligations.lean ====
section
/-! DEFINITION. The statements about the model, one definition each; OBLIGATIONS.json lists them with their titles, the
spec's sentences and the sections they rest on. `b` stands for the state in which a line event finds the part once the
steps that were due have been taken (`settle`, assumption log 2), `t` for the state after the command. -/

open Sys2Proof Sys2Proof.Machine

/-! ### The queue of commands, and the steps that are due -/

/-- The front command of the queue is executed with the queue's rest. -/
def Obligations.StepRunsTheFrontCommand : Prop :=
  ∀ (c : Instr) (rest : List Instr) (s : State),
    step { s with pending := c :: rest } = exec c { s with pending := rest }

/-- Every command is taken: it answers a next state, and leaves the commands behind it in the queue. The spec
describes no stop of the part, and the model reads from that silence that no command stops it (log 20, DEDUCED); that
the queue stands through every command, a reset among them, is the model's own (log 17, DEDUCED; log 4, DESIGN
CHOICE). -/
def Obligations.EveryCommandAnswersNextAndKeepsTheQueue : Prop :=
  ∀ (c : Instr) (s : State), ∃ t, exec c s = .next t ∧ t.pending = s.pending

/-- On an empty queue the part takes every step that is due, in one round of `settle` (R112, R114, R152, R154: "at the
first moment"), and idles where none is. That this happens then, and in a fixed order, is the model's choice (log 2);
the intake never holds more than 2 messages (`Obligations.EveryStepKeepsTheChannelBounds`). A state is quiet when none
of the commands that are steps of the part would change it, and `settle` is those commands one after another, in that
order: what the latest start brought about (`finishStart`), the owed ABORT, the Notice Unit, and twice the head of the
intake with the Notice Unit after it. -/
def Obligations.EmptyQueueTakesEveryDueStep : Prop :=
  ∀ (s : State) (steps : List Instr) (take : Instr → State → State) (head : State → State),
    steps =
      [.copyDone, .checkDone 0, .checkDone 1, .checkDone 2, .checkDone 3, .surveyDone, .retransmissionTimerExpiry,
        .imageAttemptBegin, .owedAbortStored, .noticeCopyPlacement, .noticeMessageBuild, .requestExecution,
        .groupCopyExecution] →
    (∀ c u, exec c u = .next (take c u)) →
    (∀ u, head u = take .noticeMessageBuild (take .noticeCopyPlacement
      (take
        (match u.channel.intake with
        | m :: _ => if m.group then .groupCopyExecution else .requestExecution
        | [] => .requestExecution) u))) →
    (s.pending = [] → step s = .next (settle s)) ∧ (quiet s = true → settle s = s) ∧
      (s.channel.intake.length ≤ 2 → quiet (settle s) = true) ∧ (quiet s = true ↔ ∀ c ∈ steps, take c s = s) ∧
      finishStart s =
        take .imageAttemptBegin (take .retransmissionTimerExpiry (take .surveyDone
          (take (.checkDone 3) (take (.checkDone 2) (take (.checkDone 1) (take (.checkDone 0) (take .copyDone s))))))) ∧
      settle s =
        head (head (take .noticeMessageBuild (take .noticeCopyPlacement (take .owedAbortStored (finishStart s)))))

/-! ### Reset -/

/-- POWER_ON_RESET (R162, R106): every block takes its reset values, the straps are read, and the first attempt of a
load with cause POWER_ON begins, the read command 03H and the address 0 sent to the flash (R163). The model's choices
in it: the attempt count 1 right after the reset, and the queue and the count of draws, which stand (log 17, DEDUCED);
the state DEFAULTS that the loader would resume (log 21, DESIGN CHOICE). -/
def Obligations.PowerOnResetSetsEveryBlock : Prop :=
  ∀ (straps : BitVec 5) (s : State),
    exec (.powerOnReset straps) s =
      .next
        { State.reset with
          loader := { state := .loading, resume := .defaults, cause := .powerOn, attempts := 1, result := .none
                      engine := some 0, sent := [0x03#8, 0#8, 0#8, 0#8], taken := [], next := .none }
          address := if 1 ≤ straps.toNat ∧ straps.toNat ≤ 30 then straps.setWidth 8 else 0
          straps := straps
          draws := s.draws
          pending := s.pending }

/-- The values the spec's reset tables give (R20, R30, R38, R52, R73, R80, R88, R92, R102, R118, R124, R160, R162,
Table 8-3); the device address is 0 because State.reset reads the straps at level 0, which is the model's choice (log
1). -/
def Obligations.ResetStateHoldsTheTablesValues : Prop :=
  (∀ l : LaneId,
    ((State.reset.lanes.get l).align = .seek ∧ (State.reset.lanes.get l).position = 0 ∧
      (State.reset.lanes.get l).last = 0 ∧ (State.reset.lanes.get l).confirmed = 0 ∧
      (State.reset.lanes.get l).missed = 0 ∧ (State.reset.lanes.get l).assembly = none ∧
      (State.reset.lanes.get l).markerMisses = 0 ∧ (State.reset.lanes.get l).codeErrors = 0 ∧
      (State.reset.lanes.get l).numberJumps = 0 ∧ (State.reset.lanes.get l).syncLosses = 0) ∧
    State.reset.stores.get l = { state := .idle, records := [], underSlips := 0, overSlips := 0 } ∧
    State.reset.timing.laneQual.get l = ⟨false, 0⟩ ∧ State.reset.egress.enabled.get l = true ∧
    ∀ t : SlotId, (State.reset.hold.get l).get t = 0 ∧ (State.reset.map.bankA.get l).get t = .fill 0 ∧
      (State.reset.map.bankB.get l).get t = .fill 0) ∧
  (State.reset.survey.state = .idle ∧ State.reset.survey.lane = 0 ∧ State.reset.survey.frameCount = 0 ∧
    State.reset.survey.remaining = 0 ∧ State.reset.survey.observed = 0 ∧ State.reset.survey.minFill = none ∧
    State.reset.survey.maxFill = none ∧ State.reset.survey.underSlips = 0 ∧ State.reset.survey.overSlips = 0 ∧
    State.reset.survey.syncLosses = 0 ∧ State.reset.survey.markerMisses = 0 ∧
    (∀ t : SlotId, State.reset.survey.slotErrors.get t = 0) ∧ State.reset.survey.first = none ∧
    State.reset.survey.last = none) ∧
  (State.reset.timing.state = .freerun ∧ State.reset.timing.source = none ∧ State.reset.timing.refinQual = ⟨false, 0⟩ ∧
    State.reset.timing.missRun = 0 ∧ State.reset.timing.window = .stopped ∧
    State.reset.timing.pulseHeld = false ∧ State.reset.timing.number = 0 ∧ State.reset.timing.steps = 0) ∧
  (State.reset.map.active = .a ∧ State.reset.map.epoch = 0 ∧ State.reset.map.commit = .none ∧
    State.reset.map.copy = none) ∧
  State.reset.egress.sending = [] ∧ (∀ g : GenId, State.reset.generators.get g = { kind := none, nextWord := 0 }) ∧
  (∀ c : CheckerId, (State.reset.checkers.get c).state = .idle ∧ (State.reset.checkers.get c).lane = 0 ∧
    (State.reset.checkers.get c).slot = 0 ∧ (State.reset.checkers.get c).frameCount = 0 ∧
    (State.reset.checkers.get c).remaining = 0 ∧ (State.reset.checkers.get c).compared = 0 ∧
    (State.reset.checkers.get c).errored = 0 ∧ (State.reset.checkers.get c).bitErrors = 0 ∧
    (State.reset.checkers.get c).lost = 0 ∧ (State.reset.checkers.get c).detected = none ∧
    (State.reset.checkers.get c).result = none) ∧
  (State.reset.channel.parser = none ∧ State.reset.channel.fifo = [] ∧ State.reset.channel.abortOwed = false ∧
    State.reset.channel.intake = [] ∧ State.reset.channel.outgoing = [] ∧ State.reset.channel.arbiter = .between ∧
    State.reset.channel.passOver = 0 ∧ State.reset.channel.cache = [] ∧ State.reset.channel.badCheck = 0 ∧
    State.reset.channel.stray = 0 ∧ State.reset.channel.forwardOverflow = 0 ∧
    State.reset.channel.requestDropped = 0 ∧
    State.reset.channel.group =
      { tag := 0, group := 0, executed := 0, firstFailure := none, frame := 0, dropped := 0 } ∧
    State.reset.channel.mgmtIngress = 0 ∧ State.reset.channel.mgmtEgress = 0 ∧ State.reset.address = 0) ∧
  (State.reset.dispatcher.restart = none ∧ State.reset.dispatcher.change = none) ∧
  (State.reset.notices.list = [] ∧ State.reset.notices.state = .ready ∧ State.reset.notices.outstanding = none ∧
    State.reset.notices.copy = .idle ∧ State.reset.notices.timer = none ∧ State.reset.notices.retries = 0 ∧
    State.reset.notices.nextSeq = 0 ∧ State.reset.notices.lost = 0 ∧ State.reset.notices.alert = false) ∧
  (State.reset.loader.state = .loading ∧ State.reset.loader.result = .none) ∧
  (State.reset.params.timingPrimary = 0 ∧ State.reset.params.timingSecondary = 17 ∧
    State.reset.params.timingRevert = 1 ∧ State.reset.params.qualifyFrames = 64 ∧ State.reset.params.refinMiss = 3 ∧
    State.reset.params.ingressEnable = 0xFFFF#16 ∧ State.reset.params.egressEnable = 0xFFFF#16 ∧
    State.reset.params.confirmCount = 3 ∧ State.reset.params.missLimit = 4 ∧ State.reset.params.noticeWait = 2048 ∧
    State.reset.params.noticeRetries = 6 ∧ State.reset.params.noticeMask = 0x7FFF#16 ∧
    ∀ i, State.reset.params.groups.get i = 0)

/-! ### Raising a notice -/

/-- A raise (R148, R149, R151): a masked kind changes nothing; otherwise the notice coalesces into the entry of its
kind and subject that is not carried, else is appended, else is counted lost; only the Notice Unit changes. -/
def Obligations.RaiseCoalescesAppendsOrLoses : Prop :=
  ∀ (kind : NoticeKind) (subject : Subject) (data : List Octet) (s : State),
    (s.params.noticeMask.getLsbD (noticeBit kind) = false → raise kind subject data s = s) ∧
    (s.params.noticeMask.getLsbD (noticeBit kind) = true →
      raise kind subject data s =
        { s with
          notices :=
            if ∃ e ∈ s.notices.list, e.kind = kind ∧ e.subject = subject ∧ e.carried = false then
              { s.notices with
                alert := true
                list := s.notices.list.map fun e =>
                  if e.kind = kind ∧ e.subject = subject ∧ e.carried = false then
                    { e with repeats := if e.repeats = 255 then 255 else e.repeats + 1, frame := s.timing.number
                             data := data }
                  else e }
            else if s.notices.list.length < 16 then
              { s.notices with
                alert := true
                list := s.notices.list ++
                  [{ kind := kind, subject := subject, repeats := 1, frame := s.timing.number, data := data
                     carried := false }] }
            else
              { s.notices with
                lost := if s.notices.lost = 0xFFFF#16 then 0xFFFF#16 else s.notices.lost + 1 } })

/-! ### Word arrival, signal absence and LANE_RESET (Section 1) -/

/-- WORD_ARRIVAL in OFF (R1): the word is discarded and counted nowhere. In SEEK (R1, R2, R4): it is counted if
flagged, and tested as a marker; a valid one takes the lane to CONFIRM with its number. That a field no rule names
stands is the model's reading (log 13, DEDUCED). -/
def Obligations.WordInOffIsDiscardedAndInSeekIsTested : Prop :=
  ∀ (l : LaneId) (w : Word) (f : Bool) (s b : State) (r : Lane), settle s = b → b.lanes.get l = r →
    (r.align = .off → exec (.wordArrival l w f) s = .next b) ∧
    (r.align = .seek →
      exec (.wordArrival l w f) s =
        .next
          { b with
            lanes := b.lanes.set l
              (if w.extractLsb' 16 16 = 0x2D71#16 ∧ f = false then
                { r with align := .confirm, position := 1, last := w.extractLsb' 0 16, confirmed := 0, missed := 0 }
              else { r with codeErrors := if f then bump r.codeErrors else r.codeErrors }) })

/-- WORD_ARRIVAL in CONFIRM (R5, R6): only position 0 is examined; a marker in sequence short of CONFIRM_COUNT is
counted; the one that reaches it takes the lane into SYNC with a frame begun, its store into FILLING, and raises
SYNC_GAINED (R7, R22); one out of sequence starts the confirmation again; a word that is no valid marker returns the
lane to SEEK, counting no miss, no jump and no sync loss, with the store in IDLE, and ends a checker that watches the
lane LANE_LOST (R101), nothing else changing, in the Notice Unit but CHECK_DONE and, at the loss of a source,
TIMING_CHANGE; no order among the notices of one event is said (log 7). Fields that no rule names after these events
stand, by the model's reading: the confirm count in SYNC, the position and the miss count in SEEK, the working fields
of a checker that ends but for its round (log 13, DEDUCED). -/
def Obligations.WordInConfirmCountsMarkersOrFails : Prop :=
  ∀ (l : LaneId) (w : Word) (f : Bool) (s b : State) (r : Lane), settle s = b → b.lanes.get l = r → r.align = .confirm →
    (r.position ≠ 0 →
      exec (.wordArrival l w f) s =
        .next
          { b with
            lanes := b.lanes.set l
              { r with position := r.position + 1
                       codeErrors := if f then bump r.codeErrors else r.codeErrors } }) ∧
    (r.position = 0 → w.extractLsb' 16 16 = 0x2D71#16 → f = false → w.extractLsb' 0 16 = r.last + 1 →
      r.confirmed + 1 < b.params.confirmCount.toNat →
      exec (.wordArrival l w f) s =
        .next
          { b with
            lanes := b.lanes.set l { r with position := 1, confirmed := r.confirmed + 1, last := r.last + 1 } }) ∧
    (r.position = 0 → w.extractLsb' 16 16 = 0x2D71#16 → f = false → w.extractLsb' 0 16 = r.last + 1 →
      b.params.confirmCount.toNat ≤ r.confirmed + 1 →
      exec (.wordArrival l w f) s =
        .next
          (raise .syncGained (.lane l) [octetAt (r.last + 1) 1, octetAt (r.last + 1) 0]
            { b with
              lanes := b.lanes.set l
                { r with align := .sync, position := 1, last := r.last + 1, confirmed := r.confirmed + 1, missed := 0
                         assembly := some { number := r.last + 1, payload := [] } }
              stores := b.stores.set l { b.stores.get l with state := .filling, records := [] } })) ∧
    (r.position = 0 → w.extractLsb' 16 16 = 0x2D71#16 → f = false → w.extractLsb' 0 16 ≠ r.last + 1 →
      exec (.wordArrival l w f) s =
        .next
          { b with
            lanes := b.lanes.set l { r with position := 1, confirmed := 0, last := w.extractLsb' 0 16 } }) ∧
    (r.position = 0 → (w.extractLsb' 16 16 ≠ 0x2D71#16 ∨ f = true) →
      ∃ t, exec (.wordArrival l w f) s = .next t ∧
        t.lanes = b.lanes.set l
          { r with align := .seek, confirmed := 0, position := 1
                   codeErrors := if f then bump r.codeErrors else r.codeErrors } ∧
        LaneLeft 0 false l b t ∧ t.survey = b.survey ∧ t.channel = b.channel ∧ NoticesKept (leavesNotices false l b) b t ∧
        OtherBlocksKept b t)

/-- WORD_ARRIVAL in SYNC or DRIFT, short of position 41 and of a loss. Positions 1 to 40 (R1, R2, R14): the word joins
the frame under assembly with its flag, whatever its content. Position 0: a valid marker keeps or restores SYNC and
begins a frame with its number, counted as a jump when out of sequence (R8, R9, R11); a missed marker short of
MISS_LIMIT is counted, by a survey of the lane too (R34), and the lane drifts on the successor of its last number
(R10, R11). That a field no rule names stands, the confirm count among them, is the model's reading (log 13, DEDUCED).
-/
def Obligations.WordInSyncOrDriftBuildsTheFrame : Prop :=
  ∀ (l : LaneId) (w : Word) (f : Bool) (s b : State) (r : Lane), settle s = b → b.lanes.get l = r →
    (r.align = .sync ∨ r.align = .drift) →
    (r.position ≠ 0 → r.position ≠ 41 →
      exec (.wordArrival l w f) s =
        .next
          { b with
            lanes := b.lanes.set l
              { r with
                position := r.position + 1
                codeErrors := if f then bump r.codeErrors else r.codeErrors
                assembly := r.assembly.map fun a => { a with payload := a.payload ++ [⟨w, f⟩] } } }) ∧
    (r.position = 0 → w.extractLsb' 16 16 = 0x2D71#16 → f = false →
      exec (.wordArrival l w f) s =
        .next
          { b with
            lanes := b.lanes.set l
              { r with
                align := .sync, missed := 0, position := 1, last := w.extractLsb' 0 16
                assembly := some { number := w.extractLsb' 0 16, payload := [] }
                numberJumps := if w.extractLsb' 0 16 = r.last + 1 then r.numberJumps else bump r.numberJumps } }) ∧
    (r.position = 0 → (w.extractLsb' 16 16 ≠ 0x2D71#16 ∨ f = true) →
      (if r.align = .sync then 1 else r.missed + 1) < b.params.missLimit.toNat →
      exec (.wordArrival l w f) s =
        .next
          { b with
            lanes := b.lanes.set l
              { r with
                align := .drift, position := 1, last := r.last + 1
                missed := if r.align = .sync then 1 else r.missed + 1
                markerMisses := bump r.markerMisses
                codeErrors := if f then bump r.codeErrors else r.codeErrors
                assembly := some { number := r.last + 1, payload := [] } }
            survey :=
              if b.survey.state = .running ∧ b.survey.lane = l ∧ b.survey.first.isSome ∧ b.survey.remaining ≠ 0 then
                { b.survey with markerMisses := bump b.survey.markerMisses }
              else b.survey })

/-- The three causes of R12. WORD_ARRIVAL in SYNC or DRIFT (R10, R11): the miss that reaches MISS_LIMIT is counted,
and alignment is lost with cause 01H. SIGNAL_ABSENCE (R13): from SYNC or DRIFT a loss with cause 02H; from CONFIRM
back to SEEK with no counter changed; SEEK and OFF are unchanged. LANE_RESET (R18, R36, R101, R142): a lane that is
none gives OUT_OF_RANGE, one in OFF NOT_ALLOWED; any other goes to SEEK, from SYNC or DRIFT as a loss with cause 03H,
and a survey of it is aborted with SURVEY_DONE. Nothing else changes, in the Notice Unit nothing but the notices these
effects raise, among which no order is said (log 7). That the expected position, the last frame number and every other
field no rule names stand through a loss and a LANE_RESET, and a checker's working fields but its round through its
end, is the model's reading (log 13, DEDUCED, unsafe for these clauses); that an ABORT placed has zero content is log
10 (DEDUCED). -/
def Obligations.AlignmentIsLostByMissesSignalOrLaneReset : Prop :=
  (∀ (l : LaneId) (w : Word) (f : Bool) (s b : State) (r : Lane), settle s = b → b.lanes.get l = r →
    (r.align = .sync ∨ r.align = .drift) → r.position = 0 → (w.extractLsb' 16 16 ≠ 0x2D71#16 ∨ f = true) →
    b.params.missLimit.toNat ≤ (if r.align = .sync then 1 else r.missed + 1) →
    ∃ t, exec (.wordArrival l w f) s = .next t ∧
      AlignmentLost false l 0x01#8
        { b with
          lanes := b.lanes.set l
            { r with
              position := 1
              missed := if r.align = .sync then 1 else r.missed + 1
              markerMisses := bump r.markerMisses
              codeErrors := if f then bump r.codeErrors else r.codeErrors }
          survey :=
            if b.survey.state = .running ∧ b.survey.lane = l ∧ b.survey.first.isSome ∧ b.survey.remaining ≠ 0 then
              { b.survey with markerMisses := bump b.survey.markerMisses }
            else b.survey }
        t) ∧
  (∀ (l : LaneId) (s b : State) (r : Lane), settle s = b → b.lanes.get l = r →
    ((r.align = .off ∨ r.align = .seek) → exec (.signalAbsence l) s = .next b) ∧
    (r.align = .confirm →
      ∃ t, exec (.signalAbsence l) s = .next t ∧
        t.lanes = b.lanes.set l { r with align := .seek, confirmed := 0 } ∧
        LaneLeft 0 false l b t ∧ t.survey = b.survey ∧ t.channel = b.channel ∧ NoticesKept (leavesNotices false l b) b t ∧
        OtherBlocksKept b t) ∧
    ((r.align = .sync ∨ r.align = .drift) →
      ∃ t, exec (.signalAbsence l) s = .next t ∧ AlignmentLost false l 0x02#8 b t)) ∧
  ∀ (group : Bool) (serial : Nat) (o : Octet) (s : State) (r : ItemResult),
    judgeItem group serial { kind := 0x0B#8, args := [o] } s = r →
    (16 ≤ o.toNat → r = { status := .outOfRange, data := [], after := s }) ∧
    ∀ l : LaneId, o.toNat = l.val →
      ((s.lanes.get l).align = .off → r = { status := .notAllowed, data := [], after := s }) ∧
      ((s.lanes.get l).align ≠ .off →
        r.status = .done ∧ r.data = [] ∧
        (((s.lanes.get l).align = .sync ∨ (s.lanes.get l).align = .drift) →
          AlignmentLost (surveysLane l s) l 0x03#8 s r.after) ∧
        (((s.lanes.get l).align = .seek ∨ (s.lanes.get l).align = .confirm) →
          r.after.lanes = s.lanes.set l
              { s.lanes.get l with
                align := .seek
                confirmed := if (s.lanes.get l).align = .confirm then 0 else (s.lanes.get l).confirmed } ∧
            LaneLeft 0 (surveysLane l s) l s r.after ∧ r.after.survey = surveyAfter (surveysLane l s) s.survey ∧
            r.after.channel = s.channel ∧ NoticesKept (leavesNotices (surveysLane l s) l s) s r.after ∧
            OtherBlocksKept s r.after))

/-- WORD_ARRIVAL in SYNC or DRIFT at position 41 (R14, R23, R41, R47): the completed frame, with its 40 payload words,
credits the lane's qualification and is written to the store; on the timing lane the write makes a master frame start.
-/
def Obligations.ServiceWordWritesTheRecord : Prop :=
  ∀ (l : LaneId) (w : Word) (f : Bool) (s b : State) (r : Lane) (a : Assembly), settle s = b → b.lanes.get l = r →
    (r.align = .sync ∨ r.align = .drift) → r.position = 41 → r.assembly = some a →
    ∀ (rec : FrameRecord) (u : State), rec.number = a.number → rec.payload.toList = a.payload → rec.service = ⟨w, f⟩ →
      writeStore l rec
        { b with
          lanes := b.lanes.set l
            { r with position := 0, assembly := none
                     codeErrors := if f then bump r.codeErrors else r.codeErrors }
          timing := { b.timing with
            laneQual := b.timing.laneQual.set l
              { count := min ((b.timing.laneQual.get l).count + 1) 1024
                qualified := (b.timing.laneQual.get l).qualified ||
                  decide (b.params.qualifyFrames.toNat ≤ min ((b.timing.laneQual.get l).count + 1) 1024) } } } = u →
    exec (.wordArrival l w f) s =
      .next (if b.timing.source = some (.lane l) then masterFrameStart (some l) u else u)

/-- A write (R23, R29, R34): discarded in IDLE; the second record takes FILLING into RUNNING; a fifth is discarded as
an OVER slip, which is counted, counted by a survey of the lane, and raises SLIP with the totals. -/
def Obligations.StoreTakesAWriteByItsState : Prop :=
  ∀ (l : LaneId) (rec : FrameRecord) (s : State) (st : Store), s.stores.get l = st →
    writeStore l rec s =
      match st.state with
      | .idle => s
      | .filling =>
        { s with
          stores := s.stores.set l
            { st with state := if st.records = [] then .filling else .running, records := st.records ++ [rec] } }
      | .running =>
        if st.records.length < 4 then
          { s with stores := s.stores.set l { st with records := st.records ++ [rec] } }
        else
          raise .slip (.lane l)
            [octetAt st.underSlips 1, octetAt st.underSlips 0, octetAt (bump st.overSlips) 1,
              octetAt (bump st.overSlips) 0]
            { s with
              stores := s.stores.set l { st with overSlips := bump st.overSlips }
              survey :=
                if s.survey.state = .running ∧ s.survey.lane = l ∧ s.survey.first.isSome ∧ s.survey.remaining ≠ 0 then
                  { s.survey with overSlips := bump s.survey.overSlips }
                else s.survey }

/-- A word on one lane leaves the receivers of the other lanes as they are: they are independent (Section 1). -/
def Obligations.WordOnOneLaneLeavesTheOtherReceivers : Prop :=
  ∀ (l k : LaneId) (w : Word) (f : Bool) (s t : State), k ≠ l → exec (.wordArrival l w f) s = .next t →
    t.lanes.get k = (settle s).lanes.get k

/-! ### Frame timing (Section 3) -/

/-- LOCAL_FRAME_TIMER_EXPIRY (R39, R45): in FREERUN and HOLDOVER a master frame start; in PRIMARY and SECONDARY the
timer is restarted and nothing else happens. REFIN_PULSE (R42, R47): an early pulse is discarded; any other clears the
miss run, restarts the window and counts towards qualification, and makes a start when REFIN is the current source.
Elapsed time is not modelled: the expiry comes, and a pulse is early, as the command says, and the timer's value is
what last started it (log 5, DESIGN CHOICE). -/
def Obligations.TimerExpiryAndRefinPulseMakeStarts : Prop :=
  (∀ (s b : State), settle s = b →
    exec .localFrameTimerExpiry s =
      .next
        (if b.timing.state = .freerun ∨ b.timing.state = .holdover then masterFrameStart none b
        else { b with timing := { b.timing with timer := .expiry } })) ∧
  ∀ (early : Bool) (s b u : State), settle s = b →
    u = { b with
          timing := { b.timing with
            missRun := 0, window := .sincePulse, pulseHeld := true
            refinQual :=
              if b.timing.refinQual.qualified then b.timing.refinQual
              else
                { count := min (b.timing.refinQual.count + 1) 1024
                  qualified := decide (b.params.qualifyFrames.toNat ≤ min (b.timing.refinQual.count + 1) 1024) } } } →
    exec (.refinPulse early) s =
      .next
        (if early ∧ b.timing.pulseHeld then b
        else if b.timing.source = some .refin then masterFrameStart none u
        else u)

/-- REFIN_MISS (R43, R46 to R49). A window that is stopped does not run (R42), and the command then changes nothing,
which is the model's choice (log 5, DESIGN CHOICE). With the window running: an unqualified REFIN returns to count 0
(were it the current source, which the invariant of the timing state excludes, a start would follow); a qualified one
has one more miss in its run, with a start where it is the current source; at REFIN_MISS the start that the miss makes
stands, and REFIN is then disqualified and its window stops. Where REFIN is the source at that moment, the loss is
acted on at once: the state and source become the choice of R46, which is never REFIN, TIMING_CHANGE is raised, and
the store of a lane so entered is recentred; nothing else changes, in the Notice Unit nothing but that notice. When
the window runs out is the sender's to say (log 5, DESIGN CHOICE). -/
def Obligations.RefinMissAdvancesTheRunOrDisqualifies : Prop :=
  ∀ (s b : State), settle s = b →
    (b.timing.window = .stopped → exec .refinMiss s = .next b) ∧
    (b.timing.window ≠ .stopped →
      (b.timing.refinQual.qualified = false →
        ∀ u : State,
        u = { b with timing := { b.timing with
                window := .sinceMiss, refinQual := { qualified := false, count := 0 } } } →
        exec .refinMiss s = .next (if b.timing.source = some .refin then masterFrameStart none u else u)) ∧
      (b.timing.refinQual.qualified = true → b.timing.missRun + 1 < b.params.refinMiss.toNat →
        exec .refinMiss s =
          .next
            (if b.timing.source = some .refin then
              masterFrameStart none
                { b with timing := { b.timing with window := .sinceMiss, missRun := b.timing.missRun + 1 } }
            else { b with timing := { b.timing with window := .sinceMiss, missRun := b.timing.missRun + 1 } })) ∧
      (b.timing.refinQual.qualified = true → b.params.refinMiss.toNat ≤ b.timing.missRun + 1 →
        ∃ t, exec .refinMiss s = .next t ∧
          (∀ v : State,
            v = { b with timing := { b.timing with window := .sinceMiss, missRun := b.timing.missRun + 1 } } →
            RefinDisqualified (if b.timing.source = some .refin then masterFrameStart none v else v) t) ∧
          t.timing.refinQual = ⟨false, 0⟩ ∧ t.timing.missRun = 0 ∧
          t.timing.window = .stopped ∧ t.timing.source ≠ some .refin ∧
          t.starts = (if b.timing.source = some .refin then b.starts + 1 else b.starts) ∧
          (b.timing.source ≠ some .refin →
            t = { b with timing := { b.timing with window := .stopped, missRun := 0, refinQual := ⟨false, 0⟩ } })))

/-- The number of a master frame start, the step count and the timer (R39, R50, R51); a number step raises NUMBER_STEP
with the number before it and its own. The first start after a reset is none (log 22, DEDUCED). The timer's value is
what last started it (log 5, DESIGN CHOICE); the ordinal of starts is the model's own (log 12). NUMBER_STEP is said to
be in the list where all other notices of the start find room beside it, so no order among them is said (log 7). -/
def Obligations.StartIsNumberedByItsOrigin : Prop :=
  ∀ (origin : Option LaneId) (b t : State), masterFrameStart origin b = t →
    t.starts = b.starts + 1 ∧ t.timing.timer = .start ∧
    t.timing.number =
      (if b.starts = 0 then 0
      else
        match origin with
        | some l =>
          if (b.stores.get l).state = .running then
            match (b.stores.get l).records with
            | r :: _ => r.number
            | [] => b.timing.number + 1
          else b.timing.number + 1
        | none => b.timing.number + 1) ∧
    t.timing.steps =
      (if b.starts ≠ 0 ∧ t.timing.number ≠ b.timing.number + 1 then bump b.timing.steps else b.timing.steps) ∧
    (b.starts ≠ 0 → t.timing.number ≠ b.timing.number + 1 →
      Raised (4 + slipsAt b + tracksLost b t) .numberStep .none
        [octetAt b.timing.number 1, octetAt b.timing.number 0, octetAt t.timing.number 1, octetAt t.timing.number 0] b t)

/-- At a master frame start every store is read once (R24): RUNNING gives up its oldest record or counts an UNDER
slip, which raises SLIP with the totals after it (R29); IDLE and FILLING keep what they hold; the store of a timing
lane just entered is then recentred (R28, R48). That a store in IDLE is left by a recentre is the model's choice (log
15, DESIGN CHOICE) and does not arise where LanesLegal and TimingLegal hold. The delivered frame, by which later
statements speak of this read, is the oldest record of a store in RUNNING (R24, R25); a counter stops at its largest
value (the Introduction, "Counters"). SLIP is said to be in the list where all other notices of the start find room
beside it, so no order among them is said (log 7). -/
def Obligations.StartReadsEveryStoreOnce : Prop :=
  (∀ (w : Nat) (c : BitVec w), bump c = if c = BitVec.allOnes w then c else c + 1) ∧
  (∀ st : Store, deliveredBy st = if st.state = .running then st.records.head? else none) ∧
  ∀ (origin : Option LaneId) (b t : State) (l : LaneId) (st : Store), masterFrameStart origin b = t →
    st = (match (b.stores.get l).state, (b.stores.get l).records with
      | .running, _ :: rest => { b.stores.get l with records := rest }
      | .running, [] => { b.stores.get l with underSlips := bump (b.stores.get l).underSlips }
      | _, _ => b.stores.get l) →
    (t.stores.get l =
      if t.timing.source = some (.lane l) ∧ b.timing.source ≠ some (.lane l) ∧ st.state ≠ .idle then
        (if 2 ≤ st.records.length then
          { st with state := .running, records := st.records.drop (st.records.length - 2) }
        else { st with state := .filling })
      else st) ∧
    ((b.stores.get l).state = .running → (b.stores.get l).records = [] →
      Raised (4 + slipsAt b + tracksLost b t) .slip (.lane l)
        [octetAt st.underSlips 1, octetAt st.underSlips 0, octetAt st.overSlips 1, octetAt st.overSlips 0] b t)

/-- At a master frame start the timing state is evaluated by the table of R45 against the parameters and qualification
records as they stand; a change of state or source raises TIMING_CHANGE with both (R49). P and S are the sources that
TIMING_PRIMARY and TIMING_SECONDARY name (R40): 0 to 15 a lane, 16 REFIN, any other value none; S is none while it
names the same source as P; no source is never qualified. -/
def Obligations.StartEvaluatesTheTimingState : Prop :=
  ∀ (origin : Option LaneId) (b t : State) (p s : Option Source) (named : Sys2Proof.Num → Option Source)
      (q : Option Source → Bool), masterFrameStart origin b = t →
    (∀ v, named v =
      if h : v.toNat < 16 then some (.lane ⟨v.toNat, h⟩) else if v = 16#16 then some .refin else none) →
    p = named b.params.timingPrimary →
    s = (if b.params.timingSecondary = b.params.timingPrimary then none else named b.params.timingSecondary) →
    (∀ x, q x =
      match x with
      | some (.lane l) => (b.timing.laneQual.get l).qualified
      | some .refin => b.timing.refinQual.qualified
      | none => false) →
    primarySource b.params = p ∧ secondarySource b.params = s ∧ (∀ x, qualified b.timing x = q x) ∧
    ((t.timing.state ≠ b.timing.state ∨ t.timing.source ≠ b.timing.source) →
      Raised (4 + slipsAt b + tracksLost b t) .timingChange .none [timingOctet t.timing.state, sourceOctet t.timing.source]
        b t) ∧
    (t.timing.state, t.timing.source) =
      match b.timing.state with
      | .freerun | .holdover =>
        if q p then (.primary, p)
        else if q s then (.secondary, s)
        else (b.timing.state, b.timing.source)
      | .primary =>
        if b.timing.source.isSome ∧ b.timing.source = p then (.primary, b.timing.source)
        else if q p then (.primary, p)
        else if q s then (.secondary, s)
        else (.holdover, none)
      | .secondary =>
        if q p ∧ b.params.timingRevert = 1 then (.primary, p)
        else if b.timing.source.isSome ∧ b.timing.source = s then (.secondary, b.timing.source)
        else if q p then (.primary, p)
        else if q s then (.secondary, s)
        else (.holdover, none)

/-! ### The other blocks at a start (Sections 4 to 7), and what the part does itself -/

/-- The bank that the roles name ACTIVE is read as such, the other as SHADOW (R54). A PENDING commit fires exactly
when R64 and R67 say, with the effects of R66, COMMIT_DONE among them, and before the words of the start are formed
(R55); otherwise the record stands. The copy engine then copies one lane (R60). Sixteen of its steps make the SHADOW
bank an exact image of the ACTIVE bank, which stands. That the first start after a reset passes no pending frame
target is read from R67 (log 22, DEDUCED). The start that copies OUT15 leaves the engine RUNNING with 16 lanes copied,
its return to IDLE (R60) being held as due for COPY_DONE: that is the model's (log 6, DESIGN CHOICE). COMMIT_DONE is
said to be in the list where all other notices of the start find room beside it, so no order among them is said (log
7). -/
def Obligations.StartFiresTheCommitAndStepsTheCopy : Prop :=
  (∀ m : ConnectionMap,
    activeBank m = (match m.active with | .a => m.bankA | .b => m.bankB) ∧
      shadowBank m = (match m.active with | .a => m.bankB | .b => m.bankA)) ∧
  (∀ (origin : Option LaneId) (b t : State) (fire : Bool) (m : ConnectionMap), masterFrameStart origin b = t →
    fire = (match b.map.commit with
      | .none => false
      | .next => true
      | .frame f => decide (t.timing.number = f) ||
          (decide (b.starts ≠ 0) && decide (1 ≤ (t.timing.number - b.timing.number).toNat) &&
            decide ((t.timing.number - b.timing.number).toNat ≤ 32767) &&
            decide (1 ≤ (f - b.timing.number).toNat) &&
            decide ((f - b.timing.number).toNat ≤ (t.timing.number - b.timing.number).toNat))) →
    m = (if fire then
        { b.map with
          active := (match b.map.active with | .a => .b | .b => .a), epoch := b.map.epoch + 1, commit := .none }
      else b.map) →
    (fire = true →
      Raised (4 + slipsAt b + tracksLost b t) .commitDone .none
        [octetAt m.epoch 1, octetAt m.epoch 0, octetAt t.timing.number 1, octetAt t.timing.number 0] b t) ∧
    activeBank t.map = activeBank m ∧ t.map.active = m.active ∧ t.map.epoch = m.epoch ∧ t.map.commit = m.commit ∧
    (m.copy = none → t.map = m) ∧ (∀ k, m.copy = some k → 16 ≤ k → t.map = m) ∧
    (∀ k : LaneId, m.copy = some k.val →
      t.map.copy = some (k.val + 1) ∧ shadowBank t.map = (shadowBank m).set k ((activeBank m).get k))) ∧
  ∀ m : ConnectionMap, m.copy = some 0 →
    shadowBank (copyStep^[16] m) = activeBank m ∧ activeBank (copyStep^[16] m) = activeBank m ∧
      (copyStep^[16] m).copy = some 16 ∧ (copyStep^[16] m).active = m.active ∧ (copyStep^[16] m).epoch = m.epoch

/-- Every egress lane that is ON sends one frame for the start (R74 to R77, R82 to R84, R86) and one that is OFF sends
nothing: 42 words in order, the marker word with the pattern and the number of the start, the payload, the service
word; each payload word formed from the ACTIVE bank's entry, the delivered frames and the generators' words, and IDLE
as the service word of every lane but the management egress lane. That the frames in sending are held whole is the
model's (log 19, DESIGN CHOICE). -/
def Obligations.StartSendsOneFramePerEnabledLane : Prop :=
  ∀ (origin : Option LaneId) (b t : State), masterFrameStart origin b = t →
    ∃ fs, t.egress.sending = b.egress.sending ++ [fs] ∧
      ∀ k : LaneId, t.egress.enabled.get k = b.params.egressEnable.getLsbD k.val ∧
        (b.params.egressEnable.getLsbD k.val = false → fs.frames.get k = none ∧ lineWords fs k = []) ∧
        (b.params.egressEnable.getLsbD k.val = true →
          ∃ fr, fs.frames.get k = some fr ∧ fr.marker = 0x2D71#16 ++ t.timing.number ∧
            (lineWords fs k).length = 42 ∧ (lineWords fs k)[0]? = some fr.marker ∧
            (lineWords fs k)[41]? = some fr.service ∧
            (∀ slot : SlotId, (lineWords fs k)[slot.val + 1]? = some (fr.payload.get slot)) ∧
            (k ≠ t.channel.mgmtEgress → fr.service = 0#32) ∧
            ∀ slot : SlotId, fr.payload.get slot =
              match ((activeBank t.map).get k).get slot with
              | .fill w => w
              | .gen g => if (b.generators.get g).kind = none then 0 else (b.generators.get g).nextWord
              | .lane i st loss =>
                match deliveredBy (b.stores.get i) with
                | some r =>
                  if (r.payload.get st).flagged then
                    (match loss with
                    | .fill w => w
                    | .hold => (b.hold.get k).get slot
                    | .pass => (r.payload.get st).content)
                  else (r.payload.get st).content
                | none =>
                  match loss with
                  | .fill w => w
                  | .hold => (b.hold.get k).get slot
                  | .pass => 0)

/-- At a start each hold word takes the word formed at its position unless that is a substitution, and keeps its value
on a lane that is OFF (R79); every generator advances by one word of its sequence, and one that is OFF stands (R89).
-/
def Obligations.StartUpdatesHoldWordsAndGenerators : Prop :=
  ∀ (origin : Option LaneId) (b t : State), masterFrameStart origin b = t →
    (∀ (k : LaneId) (slot : SlotId),
      (t.hold.get k).get slot =
        if b.params.egressEnable.getLsbD k.val then
          match ((activeBank t.map).get k).get slot with
          | .fill w => w
          | .gen g => if (b.generators.get g).kind = none then 0 else (b.generators.get g).nextWord
          | .lane i st loss =>
            match deliveredBy (b.stores.get i) with
            | some r =>
              if (r.payload.get st).flagged ∧ loss ≠ .pass then (b.hold.get k).get slot
              else (r.payload.get st).content
            | none => (b.hold.get k).get slot
        else (b.hold.get k).get slot) ∧
    ∀ g : GenId, t.generators.get g =
      match (b.generators.get g).kind with
      | none => b.generators.get g
      | some kind => { kind := some kind, nextWord := nextInSequence kind (b.generators.get g).nextWord }

/-- At a start every running checker with frames remaining samples the word of its watched slot, flagged or not, and
nothing where no frame is delivered (R94); what the word does is `Obligations.SampledWordsAreDetectedAndTracked`; one
that loses track raises CHECK_LOST with its lost count (R98). A running survey with frames remaining records the read
of its store (R33). A run or survey whose frames remaining reach 0 at this start is still in DETECT, TRACK or RUNNING
after it and samples nothing more, its end (R35, R99) being held as due: that is the model's (log 6, DESIGN CHOICE).
CHECK_LOST is said to be in the list where all other notices of the start find room beside it, so no order among them
is said (log 7). -/
def Obligations.StartSamplesCheckersAndTheSurvey : Prop :=
  ∀ (origin : Option LaneId) (b t : State), masterFrameStart origin b = t →
    (∀ (c : CheckerId) (k : Checker), b.checkers.get c = k →
      t.checkers.get c =
        if (k.state = .detect ∨ k.state = .track) ∧ k.remaining ≠ 0 then
          match deliveredBy (b.stores.get k.lane) with
          | none => { k with remaining := k.remaining - 1 }
          | some r =>
            if k.state = .detect then detectWord (r.payload.get k.slot).content { k with remaining := k.remaining - 1 }
            else trackWord (r.payload.get k.slot).content { k with remaining := k.remaining - 1 }
        else k) ∧
    (∀ c : CheckerId, (b.checkers.get c).state = .track → (t.checkers.get c).state = .detect →
      Raised (4 + slipsAt b + tracksLost b t) .checkLost (.checker c)
        [octetAt (t.checkers.get c).lost 1, octetAt (t.checkers.get c).lost 0] b t) ∧
    ∀ (v : Survey) (st : Store) (fill : Nat), b.survey = v → b.stores.get v.lane = st →
      fill = (if st.state = .running then st.records.length - 1 else st.records.length) →
      t.survey =
        if v.state = .running ∧ v.remaining ≠ 0 then
          { v with
            remaining := v.remaining - 1
            observed := if (deliveredBy st).isSome then bump v.observed else v.observed
            slotErrors := Tab.ofFn fun slot =>
              match deliveredBy st with
              | some r => if (r.payload.get slot).flagged then bump (v.slotErrors.get slot) else v.slotErrors.get slot
              | none => v.slotErrors.get slot
            underSlips := if st.state = .running ∧ st.records = [] then bump v.underSlips else v.underSlips
            minFill := some (match v.minFill with | some m => min m fill | none => fill)
            maxFill := some (match v.maxFill with | some m => max m fill | none => fill)
            first := some (v.first.getD t.timing.number)
            last := some t.timing.number }
        else v

/-- At a start the service channel acts under the roles that R122 gives it: a lane change that is due takes effect, a
message open on a management ingress lane that changes being abandoned, or is discarded where the new ingress lane is
not enabled, and is cleared in both cases. The parser takes the service word of the frame that the management ingress
lane's store delivers, if it delivers one (R107); the arbiter's word is the service word of the management egress lane
(R86), and its mark says whether it is the TAIL of a message of the queue. The parser is taken before the arbiter;
with fewer than two places free in the FIFO the order is open (log 3). -/
def Obligations.StartGivesTheChannelItsWords : Prop :=
  ∀ (origin : Option LaneId) (b t v : State) (due : Bool) (ingress egress : LaneId) (take : State → State),
    masterFrameStart origin b = t →
    (∀ u, take u =
      match deliveredBy (b.stores.get u.channel.mgmtIngress) with
      | some r => parseWord r.service u
      | none => u) →
    due = (match b.dispatcher.change with
      | some c => (match c.holder with | .request _ => c.armed | .image => decide (b.channel.arbiter = .between))
      | none => false) →
    ingress = (b.dispatcher.change.bind fun c => c.ingress).getD b.channel.mgmtIngress →
    egress = (b.dispatcher.change.bind fun c => c.egress).getD b.channel.mgmtEgress →
    v = { b with
          starts := b.starts + 1
          dispatcher := { b.dispatcher with change := if due then none else b.dispatcher.change }
          channel :=
            if due = true ∧ b.params.ingressEnable.getLsbD ingress.val = true then
              { (if ingress = b.channel.mgmtIngress then b.channel else channelAbandoned (b.starts + 1) b.channel) with
                mgmtIngress := ingress, mgmtEgress := egress }
            else b.channel } →
    t.dispatcher = v.dispatcher ∧ t.channel.mgmtIngress = v.channel.mgmtIngress ∧
    t.channel.mgmtEgress = v.channel.mgmtEgress ∧
    ∃ (g : Given × State) (fs : FrameSet),
      (g = arbiterGives (take v) ∨
        (126 < v.channel.fifo.length ∧ g = ((arbiterGives v).1, take (arbiterGives v).2))) ∧
      t.channel = g.2.channel ∧ t.egress.sending = b.egress.sending ++ [fs] ∧ fs.localTail = g.1.localTail ∧
      ∀ fr, fs.frames.get t.channel.mgmtEgress = some fr → fr.service = g.1.word

/-- At a start the retransmission timer counts one frame down (R152), and a failed attempt's successor becomes due
(R164). The rest of the Notice Unit stands, its state, outstanding message, copy position, retry count and next
number, and the list but for the notices that the start raises: NUMBER_STEP, SLIP, COMMIT_DONE, CHECK_LOST,
FORWARD_OVERFLOW, REQUEST_DROPPED and TIMING_CHANGE, each where its cause is met. Lanes, parameters, the dispatcher's
marks of a restart, device address, reply cache, the qualification records and REFIN's watch are not touched. That the
start leaves the next attempt due, which R164 begins at it, and the timer standing at 0 until its expiry is taken, is
the model's (log 6, DESIGN CHOICE); the draws are the model's own (log 3). -/
def Obligations.StartCountsTimersAndKeepsTheRest : Prop :=
  ∀ (origin : Option LaneId) (b t : State), masterFrameStart origin b = t →
    t.notices =
      { b.notices with
        timer := b.notices.timer.map fun r => if r = 0 then 0 else r - 1
        list := t.notices.list, alert := t.notices.alert, lost := t.notices.lost } ∧
    OnlyRaised (startNotices b t) b t ∧
    t.loader = (if b.loader.next = .awaitsStart then { b.loader with next := .due } else b.loader) ∧
    t.lanes = b.lanes ∧ t.params = b.params ∧ t.address = b.address ∧ t.straps = b.straps ∧
    t.dispatcher.restart = b.dispatcher.restart ∧ t.dispatcher.nextSerial = b.dispatcher.nextSerial ∧
    t.channel.cache = b.channel.cache ∧ t.timing.laneQual = b.timing.laneQual ∧
    t.timing.refinQual = b.timing.refinQual ∧ t.timing.missRun = b.timing.missRun ∧
    t.timing.window = b.timing.window ∧ t.timing.pulseHeld = b.timing.pulseHeld ∧ t.pending = b.pending ∧
    (t.draws = b.draws ∨ t.draws = b.draws + 1)

/-- Between two starts and without a reset nothing moves the map's roles, the epoch, the ACTIVE bank's entries, a hold
word, the master frame number or the step count, whatever is commanded (R54, R55, R56, R74, R79). -/
def Obligations.OnlyAStartMovesTheActiveMap : Prop :=
  ∀ (c : Instr) (s t : State), exec c s = .next t → t.starts = s.starts → s.starts ≠ 0 →
    t.map.active = s.map.active ∧ t.map.epoch = s.map.epoch ∧ activeBank t.map = activeBank s.map ∧ t.hold = s.hold ∧
      t.timing.number = s.timing.number ∧ t.timing.steps = s.timing.steps

/-- The bit sequences of the PR kinds (R90): in a word and the word that follows it, read as 64 successive bits, each
of the last 32 is the exclusive-or the table gives; the first word after seeding begins with L ones and obeys the
same. COUNT begins with 0, and each word is the one before it plus 1. -/
def Obligations.GeneratorWordsFollowTheirPolynomial : Prop :=
  firstWord .count = 0 ∧ (∀ w, nextInSequence .count w = w + 1) ∧
  ∀ (kind : SequenceKind) (offsets : List Nat), kind ≠ .count →
    offsets = (match kind with
      | .count => []
      | .pr13 => [1, 3, 4, 13]
      | .pr19 => [1, 2, 5, 19]
      | .pr29 => [2, 29]) →
    (∀ (w : Word) (i : Nat), i < 32 →
      (w ++ nextInSequence kind w).getLsbD i =
        offsets.foldl (fun x o => x ^^ (w ++ nextInSequence kind w).getLsbD (i + o)) false) ∧
    (∀ i, i < 32 →
      (firstWord kind).getLsbD i =
        if 32 ≤ i + offsets.getLastD 0 then true
        else offsets.foldl (fun x o => x ^^ (firstWord kind).getLsbD (i + o)) false)

/-- What a sampled word does to a checker (R95 to R98). In DETECT with no round the word seeds one, and with the four
words that follow it the first of the seven candidates, in their order, that is formed from the seed and predicts all
four wins; where none does, the checker stays in DETECT, and a word that leaves no candidate standing seeds a new
round. The five words are not counted as compared. In TRACK a word is compared with the reference, which advances from
its own value; a word that differs counts its differing bits, and the eighth in a row loses track. A slot that carries
a counting sequence is found as COUNT, not inverted, whatever the seed. -/
def Obligations.SampledWordsAreDetectedAndTracked : Prop :=
  (∀ (w : Word) (k : Checker), k.state = .detect → k.round = none →
    ∃ t, detectWord (w + 4) (detectWord (w + 3) (detectWord (w + 2) (detectWord (w + 1) (detectWord w k)))) = t ∧
      t.state = .track ∧ t.detected = some (.count, false) ∧ t.reference = w + 5 ∧ t.tracked = true ∧ t.erroredRun = 0 ∧
      t.round = none ∧ t.compared = k.compared ∧ t.errored = k.errored ∧ t.remaining = k.remaining) ∧
  (∀ (seed w1 w2 w3 w4 : Word) (k t : Checker) (next : SequenceKind → Bool → Word → Word),
    k.state = .detect → k.round = none →
    (∀ kind inverted w, next kind inverted w =
      if inverted then ~~~ (nextInSequence kind (~~~ w)) else nextInSequence kind w) →
    detectWord w4 (detectWord w3 (detectWord w2 (detectWord w1 (detectWord seed k)))) = t →
    match
      ([(.count, false), (.pr13, false), (.pr19, false), (.pr29, false), (.pr13, true), (.pr19, true), (.pr29, true)] :
        List (SequenceKind × Bool)).find? fun c =>
        decide (c.1 = .count ∨ (if c.2 then ~~~ seed else seed).toNat %
            2 ^ (match c.1 with | .count => 32 | .pr13 => 13 | .pr19 => 19 | .pr29 => 29) ≠ 0) &&
          decide (next c.1 c.2 seed = w1 ∧ next c.1 c.2 w1 = w2 ∧ next c.1 c.2 w2 = w3 ∧ next c.1 c.2 w3 = w4)
    with
    | some (kind, inverted) =>
      t = { k with
            state := .track, detected := some (kind, inverted), tracked := true, reference := next kind inverted w4
            erroredRun := 0, round := none }
    | none => t.state = .detect ∧ { t with round := none } = k) ∧
  (∀ (w : Word) (k : Checker) (r : Round), k.round = some r → (∀ c ∈ r.standing, c.predicted ≠ w) →
    detectWord w k = detectWord w { k with round := none }) ∧
  ∀ (w next : Word) (k : Checker) (kind : SequenceKind) (inverted : Bool) (wrong : Nat),
    k.detected = some (kind, inverted) →
    wrong = ((List.range 32).filter fun i => decide (w.getLsbD i ≠ k.reference.getLsbD i)).length →
    next = (if inverted then ~~~ (nextInSequence kind (~~~ k.reference)) else nextInSequence kind k.reference) →
    trackWord w k =
      if w = k.reference then { k with compared := bump k.compared, erroredRun := 0, reference := next }
      else
        { k with
          compared := bump k.compared, errored := bump k.errored, reference := next
          bitErrors := if k.bitErrors.toNat + wrong < 2 ^ 32 then k.bitErrors + BitVec.ofNat 32 wrong
            else 0xFFFFFFFF#32
          erroredRun := if k.erroredRun + 1 < 8 then k.erroredRun + 1 else 0
          state := if k.erroredRun + 1 < 8 then k.state else .detect
          round := if k.erroredRun + 1 < 8 then k.round else none
          lost := if k.erroredRun + 1 < 8 then k.lost else bump k.lost }

/-- The steps the part takes itself, each when its rule says it is due. COPY_DONE (R60): once the start that copied
OUT15 has been taken, the engine returns to IDLE and COPY_DONE is raised with the epoch. CHECK_DONE (R99): the run
whose frames remaining have reached 0 ends in DONE with the result that follows from what it did, and CHECK_DONE is
raised. SURVEY_DONE (R35): the survey whose frames remaining have reached 0 is DONE, and SURVEY_DONE is raised with
the lane, COMPLETE and the frames observed. OWED_ABORT_STORED (R112): with room in the FIFO the owed ABORT is stored
and ABORT owed is cleared. RETRANSMISSION_TIMER_EXPIRY (R155): at an expiry a copy is owed while the retry count is
below NOTICE_RETRIES, else the unit stalls. IMAGE_ATTEMPT_BEGIN (R164): once a start has been taken after a failure
the next attempt begins from address 0, with 03H and the address 0 sent to the flash (R163), and is counted. While it
is not due, each command changes nothing. That the ABORT stored has zero content is read from R170 (log 10, DEDUCED).
That these steps wait, as due, for a command of their own that changes nothing when not due is the model's (log 6, log
2, DESIGN CHOICE); a checker's fields but its round stand through its end by the model's reading (log 13, DEDUCED). -/
def Obligations.StepsOfThePartActWhenDue : Prop :=
  ((∀ s : State,
    (∀ k, s.map.copy = some k → 16 ≤ k →
      exec .copyDone s =
        .next
          (raise .copyDone .none [octetAt s.map.epoch 1, octetAt s.map.epoch 0]
            { s with map := { s.map with copy := none } })) ∧
    ((∀ k, s.map.copy = some k → k < 16) → exec .copyDone s = .next s)) ∧
  (∀ (c : CheckerId) (s : State) (k : Checker) (res : CheckResult), s.checkers.get c = k →
    res = (if k.tracked = false then .notFound else if k.errored = 0 then .clean else .errors) →
    exec (.checkDone c) s =
      .next
        (if (k.state = .detect ∨ k.state = .track) ∧ k.remaining = 0 then
          raise .checkDone (.checker c)
            ([checkResultOctet (some res), detectedOctet k.detected] ++
              (if k.errored.toNat ≤ 65534 then [octetAt k.errored 1, octetAt k.errored 0] else [0xFF#8, 0xFF#8]))
            { s with
              checkers := s.checkers.set c { k with state := .done, result := some res, round := none } }
        else s)) ∧
  ∀ s : State,
    exec .surveyDone s =
      .next
        (if s.survey.state = .running ∧ s.survey.remaining = 0 then
          raise .surveyDone .none
            [BitVec.ofNat 8 s.survey.lane.val, 0x01#8, octetAt s.survey.observed 1, octetAt s.survey.observed 0]
            { s with survey := { s.survey with state := .done } }
        else s)) ∧
  ∀ s : State,
    exec .owedAbortStored s =
      .next
        (if s.channel.abortOwed = true ∧ s.channel.fifo.length < 128 then
          { s with
            channel := { s.channel with
              fifo := s.channel.fifo ++ [{ word := 0xDD000000#32, entered := s.starts }], abortOwed := false } }
        else s) ∧
    exec .retransmissionTimerExpiry s =
      .next
        (if s.notices.timer = some 0 then
          (if s.notices.retries < s.params.noticeRetries.toNat then
            { s with notices := { s.notices with timer := none, copy := .owed true } }
          else { s with notices := { s.notices with timer := none, state := .stalled, copy := .idle } })
        else s) ∧
    exec .imageAttemptBegin s =
      .next
        (if s.loader.next = .due then
          { s with
            loader := { s.loader with
              attempts := s.loader.attempts + 1, engine := some 0, sent := [0x03#8, 0#8, 0#8, 0#8], taken := []
              next := .none } }
        else s)

/-! ### The service channel (Section 7) -/

/-- The parser in BETWEEN (R103, R106, R107, R110 to R112): IDLE and ABORT are ignored; BODY, TAIL and malformed words
are strays; a HEAD opens a message with the disposition of its destination, CONSUME for the device address, BOTH for
31 and for 32 to 62 where a group parameter names it, FORWARD for any other, and under FORWARD and BOTH enters the
FIFO, or overflows it. -/
def Obligations.ParserBetweenMessagesOpensOrCountsStrays : Prop :=
  ∀ (h : Heard) (s : State) (top d : Octet), s.channel.parser = none → octetAt h.content 3 = top →
    octetAt h.content 2 = d →
    (h.flagged = false → (top = 0x00#8 ∨ top = 0xDD#8) → parseWord h s = s) ∧
    ((h.flagged = true ∨ (top ≠ 0x00#8 ∧ top ≠ 0xDD#8 ∧ top ≠ 0xA1#8)) →
      parseWord h s = { s with channel := { s.channel with stray := bump s.channel.stray } }) ∧
    (h.flagged = false → top = 0xA1#8 → d ≠ 0 → d = s.address →
      parseWord h s =
        { s with
          channel := { s.channel with
            parser := some
              { disposition := .consume, count := 1, dest := d, src := octetAt h.content 1, mtype := octetAt h.content 0
                octets := [], storing := false } } }) ∧
    (h.flagged = false → top = 0xA1#8 → (d = 0 ∨ d ≠ s.address) →
      ∀ disp,
      disp = (if d = 31 ∨ (32 ≤ d.toNat ∧ d.toNat ≤ 62 ∧ ∃ i, s.params.groups.get i = d.setWidth 16) then
          Disposition.both
        else .forward) →
      parseWord h s =
        if s.channel.fifo.length < 128 ∧ s.channel.abortOwed = false then
          { s with
            channel := { s.channel with
              fifo := s.channel.fifo ++ [{ word := h.content, entered := s.starts }]
              parser := some
                { disposition := disp, count := 1, dest := d, src := octetAt h.content 1, mtype := octetAt h.content 0
                  octets := [], storing := true } } }
        else
          raise .forwardOverflow .none
            [octetAt (bump s.channel.forwardOverflow) 1, octetAt (bump s.channel.forwardOverflow) 0]
            { s with
              channel := { s.channel with
                forwardOverflow := bump s.channel.forwardOverflow
                parser := some
                  { disposition := disp, count := 1, dest := d, src := octetAt h.content 1
                    mtype := octetAt h.content 0, octets := [], storing := false } } })

/-- The parser in IN_MESSAGE, its TAIL apart (R108 to R110, R112): IDLE is ignored; a BODY word is collected and,
while the forwarded copy is being stored, enters the FIFO or truncates the copy; as the 64th word it ends the message;
ABORT and malformed words abandon it; a HEAD abandons it and is then taken in BETWEEN. Whatever content a received
ABORT has, the ABORT placed has zero content: that is read from R110 and R170 together (log 10, DEDUCED). -/
def Obligations.ParserInMessageCollectsForwardsOrAbandons : Prop :=
  ∀ (h : Heard) (s u : State) (m : OpenMessage) (top : Octet), s.channel.parser = some m → octetAt h.content 3 = top →
    u = { s with
          channel := { s.channel with
            parser := none
            fifo := if m.storing ∧ s.channel.fifo.length < 128 then
                s.channel.fifo ++ [{ word := 0xDD000000#32, entered := s.starts }]
              else s.channel.fifo
            abortOwed := s.channel.abortOwed || (m.storing && decide (128 ≤ s.channel.fifo.length)) } } →
    (h.flagged = false → top = 0x00#8 → parseWord h s = s) ∧
    (h.flagged = false → top = 0xB2#8 → m.count < 63 →
      ∀ m' : OpenMessage,
      m' = { m with
             count := m.count + 1
             octets := m.octets ++ [octetAt h.content 2, octetAt h.content 1, octetAt h.content 0] } →
      parseWord h s =
        if m.storing = false then { s with channel := { s.channel with parser := some m' } }
        else if s.channel.fifo.length < 128 then
          { s with
            channel := { s.channel with
              parser := some m', fifo := s.channel.fifo ++ [{ word := h.content, entered := s.starts }] } }
        else
          raise .forwardOverflow .none
            [octetAt (bump s.channel.forwardOverflow) 1, octetAt (bump s.channel.forwardOverflow) 0]
            { s with
              channel := { s.channel with
                parser := some { m' with storing := false }, abortOwed := true
                forwardOverflow := bump s.channel.forwardOverflow } }) ∧
    (h.flagged = false → top = 0xB2#8 → 63 ≤ m.count → parseWord h s = u) ∧
    ((h.flagged = true ∨
        (top ≠ 0x00#8 ∧ top ≠ 0xA1#8 ∧ top ≠ 0xB2#8 ∧ top ≠ 0xC3#8)) → parseWord h s = u) ∧
    (h.flagged = false → top = 0xA1#8 → parseWord h s = parseWord h u)

/-- The TAIL of an open message (R104, R105, R108): the forwarded copy is ended, the check is judged over the HEAD
content and the message octets less the pad, a bad one is counted once, and a good consumed copy is handed on. The
arrival of a unicast request by the table of R113, and of a group copy (R117). -/
def Obligations.TailJudgesTheMessageAndArrivalsAreTested : Prop :=
  (∀ (h : Heard) (s u : State) (m : OpenMessage) (pad : Nat) (octets : List Octet) (check : Sys2Proof.Num),
    s.channel.parser = some m → h.flagged = false → octetAt h.content 3 = 0xC3#8 →
    pad = (octetAt h.content 0).toNat → octets = m.octets.take (m.octets.length - pad) →
    check = octetAt h.content 2 ++ octetAt h.content 1 →
    u = (if m.storing = false then { s with channel := { s.channel with parser := none } }
      else if s.channel.fifo.length < 128 then
        { s with
          channel := { s.channel with
            parser := none, fifo := s.channel.fifo ++ [{ word := h.content, entered := s.starts }] } }
      else
        raise .forwardOverflow .none
          [octetAt (bump s.channel.forwardOverflow) 1, octetAt (bump s.channel.forwardOverflow) 0]
          { s with
            channel := { s.channel with
              parser := none, abortOwed := true, forwardOverflow := bump s.channel.forwardOverflow } }) →
    parseWord h s =
      if pad ≤ 2 ∧ (m.octets ≠ [] ∨ pad = 0) ∧ checkCode (m.dest :: m.src :: m.mtype :: octets) = check then
        match m.disposition with
        | .consume => unicastArrives { group := false, dest := m.dest, mtype := m.mtype, octets := octets, check := check } u
        | .both => groupArrives { group := true, dest := m.dest, mtype := m.mtype, octets := octets, check := check } u
        | .forward => u
      else { u with channel := { u.channel with badCheck := bump u.channel.badCheck } }) ∧
  ∀ (m : IntakeMessage) (s dropped : State) (tag : Octet), tag = m.octets.headD 0 →
    dropped = raise .requestDropped .none
        [octetAt (bump s.channel.requestDropped) 1, octetAt (bump s.channel.requestDropped) 0]
        { s with channel := { s.channel with requestDropped := bump s.channel.requestDropped } } →
    (∀ answer : List Word → State,
      (∀ words, answer words =
        if s.channel.outgoing.length < 4 then
          { s with
            channel := { s.channel with
              outgoing := s.channel.outgoing ++ [{ kind := .answer, words := words, given := 0, placed := s.starts }] } }
        else dropped) →
      unicastArrives m s =
        if s.dispatcher.restart.isSome then s
        else if ∃ n ∈ s.channel.intake, n.group = false ∧ n.octets.headD 0 = tag ∧ n.check = m.check then s
        else
          match s.channel.cache.find? fun e => decide (e.tag = tag ∧ e.check = m.check) with
          | some e => answer e.words
          | none =>
            if 2 ≤ s.channel.intake.length then answer (messageWords 63 s.address 0x02#8 [tag, 0x02#8, 0])
            else { s with channel := { s.channel with intake := s.channel.intake ++ [m] } }) ∧
    groupArrives m s =
      if s.dispatcher.restart.isSome then s
      else if 2 ≤ s.channel.intake.length then
        { s with
          channel := { s.channel with
            group := { s.channel.group with dropped := bump s.channel.group.dropped } } }
      else { s with channel := { s.channel with intake := s.channel.intake ++ [m] } }

/-- The arbiter's choice in BETWEEN by the table of R120, and its continuation of a forwarded or a local message
(R119): the word it gives, and what changes. A local message gives its next word and ends at its TAIL. Which message
of the queue is meant is the model's reading of R115 and R119: one whose TAIL has been given and not yet reported is
passed by, in the readiness of R120 too (log 9, DEDUCED); that SENDING from LOCAL with no message left gives IDLE and
returns to BETWEEN is its choice (log 23, DESIGN CHOICE). -/
def Obligations.ArbiterChoosesByThePassOverRule : Prop :=
  ∀ (s : State) (fwd : Option Word) (loc : Bool),
    fwd = (match s.channel.fifo with
      | f :: _ => if f.entered < s.starts then some f.word else none
      | [] => none) →
    loc = (match s.channel.outgoing.find? fun m => decide (m.given = 0) with
      | some m => decide (m.placed < s.starts)
      | none => false) →
    (∀ w, fwd = some w → (s.channel.arbiter = .sendingForward ∨
        (s.channel.arbiter = .between ∧ (loc = false ∨ s.channel.passOver < 2))) →
      arbiterGives s =
        (⟨w, false⟩,
          { s with
            channel := { s.channel with
              fifo := s.channel.fifo.tail
              arbiter := if octetAt w 3 = 0xC3#8 ∨ octetAt w 3 = 0xDD#8 then .between else .sendingForward
              passOver := if s.channel.arbiter = .between ∧ loc = true then s.channel.passOver + 1
                else s.channel.passOver } })) ∧
    (fwd = none → (s.channel.arbiter = .sendingForward ∨ (s.channel.arbiter = .between ∧ loc = false)) →
      arbiterGives s = (⟨0#32, false⟩, s)) ∧
    (s.channel.arbiter = .sendingLocal →
      (∀ pre m post, s.channel.outgoing = pre ++ m :: post → (∀ x ∈ pre, x.words.length ≤ x.given) →
        m.given < m.words.length →
        arbiterGives s =
          (⟨m.words.getD m.given 0, decide (m.given + 1 = m.words.length)⟩,
            { s with
              channel := { s.channel with
                outgoing := pre ++ { m with given := m.given + 1 } :: post
                arbiter := if m.given + 1 = m.words.length then .between else .sendingLocal } })) ∧
      ((∀ x ∈ s.channel.outgoing, x.words.length ≤ x.given) →
        arbiterGives s = (⟨0#32, false⟩, { s with channel := { s.channel with arbiter := .between } }))) ∧
    (s.channel.arbiter = .between → loc = true → (fwd = none ∨ 2 ≤ s.channel.passOver) →
      arbiterGives s =
        arbiterGives { s with channel := { s.channel with arbiter := .sendingLocal, passOver := 0 } })

/-- The check code (R171): the register begins at FFFFH and takes each octet's bits from the most significant,
shifting with the polynomial 1021H; the nine octets 31H to 39H give 29B1H. A message as the part builds it (R104,
R105, R170): HEAD with destination, source and type, three octets of the body to a BODY word, the last padded with
00H, and TAIL with the check code over both and the pad count. It is read back whole by the parser of the part it is
addressed to: its words, taken one after another in BETWEEN, hand on exactly its body, with the check good. -/
def Obligations.MessageWordsAreReadBackWhole : Prop :=
  (checkCode [] = 0xFFFF#16 ∧
    (∀ (octets : List Octet) (o : Octet), checkCode (octets ++ [o]) =
      (List.range 8).foldl
        (fun (r : Sys2Proof.Num) i => if r.getLsbD 15 ≠ o.getLsbD (7 - i) then (r <<< 1) ^^^ 0x1021#16 else r <<< 1)
        (checkCode octets)) ∧
    checkCode [0x31#8, 0x32#8, 0x33#8, 0x34#8, 0x35#8, 0x36#8, 0x37#8, 0x38#8, 0x39#8] = 0x29B1#16) ∧
  (∀ (dest src mtype : Octet) (body : List Octet),
    messageWords dest src mtype body =
      [0xA1#8 ++ dest ++ src ++ mtype] ++
      ((List.range ((body.length + 2) / 3)).map fun i =>
        0xB2#8 ++ body.getD (3 * i) 0 ++ body.getD (3 * i + 1) 0 ++ body.getD (3 * i + 2) 0) ++
      [0xC3#8 ++ checkCode (dest :: src :: mtype :: body) ++ BitVec.ofNat 8 ((3 - body.length % 3) % 3)]) ∧
  ∀ (src mtype : Octet) (body : List Octet) (s : State), s.address ≠ 0 → s.channel.parser = none → body.length ≤ 186 →
    (messageWords s.address src mtype body).foldl (fun u w => parseWord ⟨w, false⟩ u) s =
      unicastArrives
        { group := false, dest := s.address, mtype := mtype, octets := body
          check := checkCode (s.address :: src :: mtype :: body) } s

/-- SERVICE_WORD_EMITTED (R82, R86, R115, R122, R126, R152): the oldest frames in sending are complete; where their
service word was the TAIL of a message of the queue, that message leaves the queue, and the report starts the
retransmission timer, arms the lane change its request holds, or resets the part with cause RESTART. The model's own
in it: the RESTART reads the straps as last read, and the queue of commands and the draws stand (log 17, DEDUCED); the
report arms the change for the next start (log 18); a report with no message in the queue changes the frames in
sending only (log 23, DESIGN CHOICE). -/
def Obligations.EmissionFreesTheSlotAndIsReported : Prop :=
  ∀ (s b : State), settle s = b →
    (b.egress.sending = [] → exec .serviceWordEmitted s = .next b) ∧
    (∀ f rest, b.egress.sending = f :: rest →
      (f.localTail = false ∨ b.channel.outgoing = []) →
      exec .serviceWordEmitted s = .next { b with egress := { b.egress with sending := rest } }) ∧
    ∀ f rest m ms u, b.egress.sending = f :: rest → f.localTail = true → b.channel.outgoing = m :: ms →
      u = { b with
            egress := { b.egress with sending := rest }
            channel := { b.channel with outgoing := ms } } →
      exec .serviceWordEmitted s =
        .next
          (match m.kind with
          | .answer => u
          | .notice =>
            if b.notices.copy = .queued ∧ b.notices.outstanding.isSome then
              { u with notices := { b.notices with copy := .timing, timer := some b.params.noticeWait } }
            else u
          | .reply serial =>
            if b.dispatcher.restart = some serial then
              { State.reset with
                loader := { State.reset.loader with cause := .restart }
                address := if 1 ≤ b.straps.toNat ∧ b.straps.toNat ≤ 30 then b.straps.setWidth 8 else 0
                straps := b.straps
                draws := b.draws
                pending := b.pending }
            else
              match b.dispatcher.change with
              | some c =>
                if c.holder = .request serial then
                  { u with dispatcher := { b.dispatcher with change := some { c with armed := true } } }
                else u
              | none => u)

/-! ### Requests (Section 8) -/

/-- REQUEST_EXECUTION (R114, R116, R130, R133): without a unicast request at the head of the intake, under
restart-pending or without a free slot, nothing is executed. Otherwise the head leaves the intake, the execution is
reported, and one reply is placed behind the queue: STARTING or MALFORMED with no item run, or the results of the
items (`Obligations.ItemsAreTakenInOrder`), which enter the reply cache. A request is well formed, and gives exactly
its items, when its type is REQUEST and its body is a tag, a count of 1 to 16 and that many items of kind, argument
length and arguments, with no octet left over (Table 11-1); any other is malformed (R114). What the latest start
brought about is taken first (`finishStart`, log 2), and the Notice Unit's moment is at the report and after each item
(log 11, DEDUCED). -/
def Obligations.RequestExecutionPlacesOneReply : Prop :=
  (∀ (mtype : Octet) (body : List Octet) (items : List RawItem),
    requestItems mtype body = some items ↔
      mtype = 0x01#8 ∧ 1 ≤ items.length ∧ items.length ≤ 16 ∧ (∀ i ∈ items, i.args.length ≤ 255) ∧
        ∃ tag, body = tag :: BitVec.ofNat 8 items.length ::
          items.flatMap fun i => i.kind :: BitVec.ofNat 8 i.args.length :: i.args) ∧
  (∀ st : ItemStatus, statusOctet st =
    match st with
    | .done => 0x00#8 | .started => 0x01#8 | .busy => 0x02#8 | .pending => 0x03#8 | .noCommit => 0x04#8
    | .badArgument => 0x05#8 | .outOfRange => 0x06#8 | .outOfWindow => 0x07#8 | .notAllowed => 0x08#8
    | .notInGroup => 0x09#8 | .unknownKind => 0x0A#8 | .tooLong => 0x0B#8 | .skipped => 0x0C#8
    | .nothingOutstanding => 0x0D#8 | .stale => 0x0E#8) ∧
  ∀ (s b : State), finishStart s = b →
    ((∀ m rest, b.channel.intake = m :: rest →
        m.group = true ∨ b.dispatcher.restart ≠ none ∨ 4 ≤ b.channel.outgoing.length) →
      exec .requestExecution s = .next b) ∧
    ∀ m rest u tag, b.channel.intake = m :: rest → m.group = false → b.dispatcher.restart = none →
      b.channel.outgoing.length < 4 → tag = m.octets.headD 0 →
      u = noticeMoment 1
        { b with
          channel := { b.channel with intake := rest }
          dispatcher := { b.dispatcher with nextSerial := b.dispatcher.nextSerial + 1 }
          notices := if b.notices.state = .stalled then
              { b.notices with state := .awaiting, retries := 0, copy := .owed false }
            else b.notices } →
      ∀ place : List Word → State → State,
        (∀ words v, place words v =
          { v with
            channel := { v.channel with
              outgoing := v.channel.outgoing ++
                [{ kind := .reply b.dispatcher.nextSerial, words := words, given := 0, placed := v.starts }] } }) →
        (b.loader.state = .loading →
          exec .requestExecution s = .next (place (messageWords 63 u.address 0x02#8 [tag, 0x03#8, 0]) u)) ∧
        (b.loader.state ≠ .loading → requestItems m.mtype m.octets = none →
          exec .requestExecution s = .next (place (messageWords 63 u.address 0x02#8 [tag, 0x04#8, 0]) u)) ∧
        ∀ items reports v words, b.loader.state ≠ .loading → requestItems m.mtype m.octets = some items →
          takeAll false b.dispatcher.nextSerial items 3 u = (reports, v) →
          words = messageWords 63 v.address 0x02#8
            (tag ::
              (if ∀ r ∈ reports, r.status = .done ∨ r.status = .started ∨ r.status = .skipped then 0x00#8 else 0x01#8) ::
              BitVec.ofNat 8 reports.length ::
              reports.flatMap fun r => r.kind :: statusOctet r.status :: BitVec.ofNat 8 r.data.length :: r.data) →
          exec .requestExecution s =
            .next
              { place words v with
                channel := { (place words v).channel with
                  cache := ({ tag := tag, check := m.check, words := words } :: v.channel.cache).take 4 } }

/-- GROUP_COPY_EXECUTION (R114, R117, R118, R132): without a group copy at the head of the intake, or under
restart-pending, nothing is executed. Otherwise the head leaves the intake: in STARTING, or malformed, it runs no item
and is counted; else its items run and the group result record is replaced, the dropped count apart: its first failure
is the index from 1 and the status of the first item that returned neither DONE nor STARTED. No reply is placed. What
the latest start brought about is taken first (`finishStart`, log 2). The Notice Unit has its moment after each item
(log 11, DEDUCED). Which bodies are malformed, and the items of the others, is in
`Obligations.RequestExecutionPlacesOneReply`. -/
def Obligations.GroupCopyExecutionReplacesTheRecord : Prop :=
  ∀ (s b : State), finishStart s = b →
    ((∀ m rest, b.channel.intake = m :: rest → m.group = false ∨ b.dispatcher.restart ≠ none) →
      exec .groupCopyExecution s = .next b) ∧
    ∀ m rest u, b.channel.intake = m :: rest → m.group = true → b.dispatcher.restart = none →
      u = { b with channel := { b.channel with intake := rest } } →
      ((b.loader.state = .loading ∨ requestItems m.mtype m.octets = none) →
        exec .groupCopyExecution s =
          .next
            { u with
              channel := { u.channel with
                group := { u.channel.group with dropped := bump u.channel.group.dropped } } }) ∧
      ∀ items reports v, b.loader.state ≠ .loading → requestItems m.mtype m.octets = some items →
        takeAll true b.dispatcher.nextSerial items 3 u = (reports, v) →
        ∃ group, exec .groupCopyExecution s = .next { v with channel := { v.channel with group := group } } ∧
          group.tag = m.octets.headD 0 ∧ group.group = m.dest ∧ group.frame = u.timing.number ∧
          group.dropped = v.channel.group.dropped ∧
          group.executed = (reports.filter fun r => decide (r.status ≠ .skipped)).length ∧
          group.firstFailure =
            ((reports.zipIdx 1).find? fun p => decide (p.1.status ≠ .done ∧ p.1.status ≠ .started)).map fun p =>
              (p.2, p.1.status)

/-- The tests that every item meets before its own rule (R125, R128, R132, Table 11-4): a kind octet other than 01H to
15H gives UNKNOWN_KIND; an argument length outside the set of its kind gives BAD_ARGUMENT; in a group copy, an item
that is not permitted gives NOT_IN_GROUP, and no other item gives it but PARAM_WRITE (R137). That the length is tested
before the permission is the model's reading of R128 and R132 (log 24, DEDUCED). A failing item changes nothing and
returns no data (R125, R128); an item that succeeds returns the number of data octets that R128 gives its kind,
MAP_READ apart. -/
def Obligations.EveryItemIsTestedFirstAndFailsWhole : Prop :=
  (∀ (group : Bool) (serial : Nat) (raw : RawItem) (s : State) (r : ItemResult) (n : Nat) (allowed permitted : Bool),
    judgeItem group serial raw s = r → n = raw.args.length →
    allowed = (match raw.kind.toNat with
      | 0x01 => decide (n ≤ 16)
      | 0x03 | 0x0A | 0x0B | 0x0E | 0x0F | 0x11 | 0x12 => decide (n = 1)
      | 0x04 | 0x0C | 0x10 => decide (n = 3)
      | 0x05 => decide (3 ≤ n)
      | 0x06 => decide (n = 4)
      | 0x08 => decide (n = 1 ∨ n = 3)
      | 0x0D => decide (n = 5)
      | _ => decide (n = 0)) →
    permitted = decide
      (raw.kind.toNat ∈ [0x01, 0x04, 0x05, 0x07, 0x08, 0x09, 0x0B, 0x0C, 0x0D, 0x0E, 0x10, 0x14]) →
    ((raw.kind = 0 ∨ 0x15 < raw.kind.toNat) → r = { status := .unknownKind, data := [], after := s }) ∧
    (1 ≤ raw.kind.toNat → raw.kind.toNat ≤ 0x15 → r.status ≠ .unknownKind ∧
      (allowed = false → r = { status := .badArgument, data := [], after := s }) ∧
      (allowed = true → group = true → permitted = false → r = { status := .notInGroup, data := [], after := s }) ∧
      ((group = false ∨ (permitted = true ∧ raw.kind ≠ 0x04#8)) → r.status ≠ .notInGroup))) ∧
  ∀ (group : Bool) (serial : Nat) (raw : RawItem) (s : State) (r : ItemResult), judgeItem group serial raw s = r →
    (r.status ≠ .done → r.status ≠ .started → r.after = s ∧ r.data = []) ∧
    ((r.status = .done ∨ r.status = .started) → raw.kind ≠ 0x06#8 →
      r.data.length =
        match raw.kind.toNat with
        | 0x01 => raw.args.length
        | 0x02 => 34
        | 0x03 => 2
        | 0x08 => 2
        | 0x0A => 17
        | 0x0E => 1
        | 0x0F => 24
        | 0x11 => if raw.args = [0x00#8] then 22 else 40
        | 0x13 => 9
        | _ => 0)

/-- The octets that the reading items return in a unicast request, each with DONE and the state as it was: STATUS
(R135), PARAM_READ (R136), LANE_READ (R141), CHECK_READ (R102, R144), SURVEY_READ (R37, R144) and GROUP_READ (R146),
in the encodings of Tables 11-5 and 11-7, the most significant octet of a field first; an identifier or a selector
that is not recognised gives BAD_ARGUMENT, a lane or a checker out of range OUT_OF_RANGE. A copy with 16 lanes copied,
whose end is due, no execution meets (log 6). -/
def Obligations.ReadItemsReturnTheirFields : Prop :=
  ∀ (serial : Nat) (s : State) (item : Octet → List Octet → ItemResult) (data : List Octet → ItemResult)
      (failed : ItemStatus → ItemResult) (two : Sys2Proof.Num → List Octet) (four : Word → List Octet),
    (∀ kind args, item kind args = judgeItem false serial { kind := kind, args := args } s) →
    (∀ octets, data octets = { status := .done, data := octets, after := s }) →
    (∀ st, failed st = { status := st, data := [], after := s }) →
    (∀ x, two x = [octetAt x 1, octetAt x 0]) →
    (∀ x, four x = [octetAt x 3, octetAt x 2, octetAt x 1, octetAt x 0]) →
    item 0x02#8 [] = data
      ([if s.loader.state = .loading then 0x00#8 else 0x01#8,
        (match s.loader.state with
          | .loading => 0x00#8 | .loaded => 0x01#8 | .defaults => 0x02#8 | .reloading => 0x03#8),
        (match s.loader.result with
          | .none => 0x00#8 | .loaded => 0x01#8 | .absent => 0x02#8 | .failed => 0x03#8),
        BitVec.ofNat 8 s.loader.attempts,
        (match s.timing.state with
          | .freerun => 0x00#8 | .primary => 0x01#8 | .secondary => 0x02#8 | .holdover => 0x03#8),
        (match s.timing.source with
          | some (.lane l) => BitVec.ofNat 8 l.val | some .refin => 16#8 | none => 0xFF#8)] ++
      two s.timing.number ++ two s.timing.steps ++ two s.map.epoch ++
      [match s.map.active with | .a => 0x00#8 | .b => 0x01#8] ++
      (match s.map.commit with
        | .none => [0x00#8, 0x00#8, 0x00#8] | .next => [0x01#8, 0x00#8, 0x00#8] | .frame f => 0x02#8 :: two f) ++
      [(match s.map.copy with | none => 0xFF#8 | some k => BitVec.ofNat 8 k),
        (match s.notices.state with | .ready => 0x00#8 | .awaiting => 0x01#8 | .stalled => 0x02#8),
        BitVec.ofNat 8 s.notices.list.length,
        (match s.notices.outstanding with | some m => m.seq | none => 0x00#8),
        BitVec.ofNat 8 s.notices.retries] ++
      two s.notices.lost ++
      [BitVec.ofNat 8 s.channel.intake.length, BitVec.ofNat 8 s.channel.outgoing.length] ++
      two s.channel.badCheck ++ two s.channel.stray ++ two s.channel.forwardOverflow ++ two s.channel.requestDropped ++
      [s.address]) ∧
    (∀ i : Octet,
      item 0x03#8 [i] =
        if i = 0 ∨ 23 < i.toNat then failed .badArgument
        else data (two (match i.toNat with
          | 1 => s.address.setWidth 16
          | 2 => s.params.timingPrimary
          | 3 => s.params.timingSecondary
          | 4 => s.params.timingRevert
          | 5 => s.params.qualifyFrames
          | 6 => s.params.refinMiss
          | 7 => BitVec.ofNat 16 s.channel.mgmtIngress.val
          | 8 => BitVec.ofNat 16 s.channel.mgmtEgress.val
          | 9 => s.params.ingressEnable
          | 10 => s.params.egressEnable
          | 11 => s.params.confirmCount
          | 12 => s.params.missLimit
          | 13 => s.params.noticeMask
          | 14 => s.params.noticeWait
          | 15 => s.params.noticeRetries
          | 16 => s.params.groups.get 0
          | 17 => s.params.groups.get 1
          | 18 => s.params.groups.get 2
          | 19 => s.params.groups.get 3
          | k =>
            match (s.generators.get (if k = 20 then 0 else if k = 21 then 1 else if k = 22 then 2 else 3)).kind with
            | none => 0
            | some .count => 1
            | some .pr13 => 2
            | some .pr19 => 3
            | some .pr29 => 4))) ∧
    (∀ o : Octet,
      (16 ≤ o.toNat → item 0x0A#8 [o] = failed .outOfRange) ∧
      ∀ l : LaneId, o.toNat = l.val → ∀ (r : Lane) (st : Store), s.lanes.get l = r → s.stores.get l = st →
        item 0x0A#8 [o] = data
          ([(match r.align with
              | .off => 0x00#8 | .seek => 0x01#8 | .confirm => 0x02#8 | .sync => 0x03#8 | .drift => 0x04#8),
            (match st.state with | .idle => 0x00#8 | .filling => 0x01#8 | .running => 0x02#8),
            BitVec.ofNat 8 st.records.length] ++
          two r.last ++ two r.markerMisses ++ two r.codeErrors ++ two r.numberJumps ++ two r.syncLosses ++
          two st.underSlips ++ two st.overSlips)) ∧
    (∀ o : Octet,
      (4 ≤ o.toNat → item 0x0F#8 [o] = failed .outOfRange) ∧
      ∀ c : CheckerId, o.toNat = c.val → ∀ k : Checker, s.checkers.get c = k →
        item 0x0F#8 [o] = data
          ([(match k.state with | .idle => 0x00#8 | .detect => 0x01#8 | .track => 0x02#8 | .done => 0x03#8),
            BitVec.ofNat 8 k.lane.val, BitVec.ofNat 8 k.slot.val] ++
          two k.frameCount ++ two k.remaining ++
          (match k.detected with
            | none => [0xFF#8, 0xFF#8]
            | some (kind, inverted) =>
              [(match kind with | .count => 0x01#8 | .pr13 => 0x02#8 | .pr19 => 0x03#8 | .pr29 => 0x04#8),
                if inverted then 0x01#8 else 0x00#8]) ++
          four k.compared ++ four k.errored ++ four k.bitErrors ++ two k.lost ++
          [match k.result with
            | none => 0xFF#8 | some .clean => 0x01#8 | some .errors => 0x02#8 | some .notFound => 0x03#8
            | some .stopped => 0x04#8 | some .laneLost => 0x05#8])) ∧
    (∀ v : Survey, s.survey = v →
      item 0x11#8 [0x00#8] = data
        ([(match v.state with | .idle => 0x00#8 | .running => 0x01#8 | .done => 0x02#8 | .aborted => 0x03#8),
          BitVec.ofNat 8 v.lane.val] ++
        two v.frameCount ++ two v.remaining ++ two v.observed ++
        [(match v.minFill with | some n => BitVec.ofNat 8 n | none => 0xFF#8),
          (match v.maxFill with | some n => BitVec.ofNat 8 n | none => 0xFF#8)] ++
        two v.underSlips ++ two v.overSlips ++ two v.syncLosses ++ two v.markerMisses ++
        two (v.first.getD 0xFFFF#16) ++ two (v.last.getD 0xFFFF#16)) ∧
      item 0x11#8 [0x01#8] = data (((List.finRange 40).take 20).flatMap fun slot => two (v.slotErrors.get slot)) ∧
      item 0x11#8 [0x02#8] = data (((List.finRange 40).drop 20).flatMap fun slot => two (v.slotErrors.get slot)) ∧
      ∀ sel : Octet, 3 ≤ sel.toNat → item 0x11#8 [sel] = failed .badArgument) ∧
    ∀ g : GroupRecord, s.channel.group = g →
      item 0x13#8 [] = data
        ([g.tag, g.group, BitVec.ofNat 8 g.executed] ++
        (match g.firstFailure with
          | none => [0x00#8, 0xFF#8]
          | some (i, st) =>
            [BitVec.ofNat 8 i,
              (match st with
                | .done => 0x00#8 | .started => 0x01#8 | .busy => 0x02#8 | .pending => 0x03#8 | .noCommit => 0x04#8
                | .badArgument => 0x05#8 | .outOfRange => 0x06#8 | .outOfWindow => 0x07#8 | .notAllowed => 0x08#8
                | .notInGroup => 0x09#8 | .unknownKind => 0x0A#8 | .tooLong => 0x0B#8 | .skipped => 0x0C#8
                | .nothingOutstanding => 0x0D#8 | .stale => 0x0E#8)]) ++
        two g.frame ++ two g.dropped)

/-- The items of a request in list order (R125, R126, R128, R129): an item is judged against the state the one before
it left; one of a unicast request whose reply would exceed 186 octets returns TOO_LONG and does not act; after one
that fails, and after a RESTART, every item is SKIPPED with no data. Each result carries its item's kind octet (R130).
The reply of at most 16 items never exceeds 186 octets. That the Notice Unit has its moment after each item, one slot
being held for a unicast reply, is the model's reading of R133 and R154 (log 11, DEDUCED). -/
def Obligations.ItemsAreTakenInOrder : Prop :=
  (∀ (group : Bool) (serial used : Nat) (raw : RawItem) (rest : List RawItem) (s after : State) (j r : ItemResult),
    judgeItem group serial raw s = j →
    r = (if group = false ∧ (j.status = .done ∨ j.status = .started) ∧
          186 < used + 3 + j.data.length + 3 * rest.length then
        { status := .tooLong, data := [], after := s }
      else j) →
    after = noticeMoment (if group then 0 else 1) r.after →
    takeAll group serial [] used s = ([], s) ∧
    takeAll group serial (raw :: rest) used s =
      if (r.status = .done ∨ r.status = .started) ∧ raw.kind ≠ 0x15#8 then
        ({ kind := raw.kind, status := r.status, data := r.data } ::
            (takeAll group serial rest (used + 3 + r.data.length) after).1,
          (takeAll group serial rest (used + 3 + r.data.length) after).2)
      else
        ({ kind := raw.kind, status := r.status, data := r.data } ::
            rest.map fun x => { kind := x.kind, status := .skipped, data := [] },
          after)) ∧
  (∀ (group : Bool) (serial used : Nat) (items : List RawItem) (s : State) (reports : List ItemReport),
    (takeAll group serial items used s).1 = reports →
    (reports.map fun x => x.kind) = (items.map fun x => x.kind) ∧
    ∀ (i j : Nat) (a c : ItemReport), i < j → reports[i]? = some a → reports[j]? = some c →
      ((a.status ≠ .done ∧ a.status ≠ .started) ∨ a.kind = 0x15#8) → c.status = .skipped ∧ c.data = []) ∧
  ∀ (serial : Nat) (items : List RawItem) (s : State) (tag : Octet), items.length ≤ 16 →
    (resultsBody tag (takeAll false serial items 3 s).1).length ≤ 186

/-- ECHO (R134): 0 to 16 argument octets come back unchanged with DONE, in a group copy as in a unicast request, and
nothing changes. -/
def Obligations.EchoReturnsItsOctets : Prop :=
  ∀ (group : Bool) (serial : Nat) (args : List Octet) (s : State), args.length ≤ 16 →
    judgeItem group serial { kind := 0x01#8, args := args } s = { status := .done, data := args, after := s }

/-- A MAP_WRITE of entries in range, of a unicast request or a group copy, taken while no operation claims the SHADOW
bank, returns DONE and writes exactly its run of the SHADOW bank, all other entries of both banks, the roles and the
epoch standing; a MAP_READ of the same run in a unicast request then returns the same octets (R57, R58, R125, Table
11-6). A run, of a MAP_WRITE or of an image, replaces the entries of its slots alone. -/
def Obligations.MapWriteIsReadBackByMapRead : Prop :=
  (∀ (r : Run) (bank : Bank) (k : LaneId) (slot : SlotId),
    ((writeRun r bank).get k).get slot =
      if k = r.lane ∧ r.first ≤ slot.val then (r.entries[slot.val - r.first]?).getD ((bank.get k).get slot)
      else (bank.get k).get slot) ∧
  (∀ e : Entry, encodeEntry e =
    match e with
    | .fill w => [0x01#8, octetAt w 3, octetAt w 2, octetAt w 1, octetAt w 0]
    | .lane l t (.fill w) =>
      [0x02#8, BitVec.ofNat 8 l.val, BitVec.ofNat 8 t.val, 0x00#8, octetAt w 3, octetAt w 2, octetAt w 1, octetAt w 0]
    | .lane l t .hold => [0x02#8, BitVec.ofNat 8 l.val, BitVec.ofNat 8 t.val, 0x01#8]
    | .lane l t .pass => [0x02#8, BitVec.ofNat 8 l.val, BitVec.ofNat 8 t.val, 0x02#8]
    | .gen g => [0x03#8, BitVec.ofNat 8 g.val]) ∧
  ∀ (group : Bool) (serial : Nat) (lane : LaneId) (first count : Octet) (entries : List Entry) (s : State)
      (octets : List Octet),
    entries.length = count.toNat → 1 ≤ count.toNat → first.toNat + count.toNat ≤ 40 → claims s = 0 →
    octets = entries.flatMap encodeEntry →
    ∃ t, (judgeItem group serial { kind := 0x05#8, args := octetOf lane.val :: first :: count :: octets } s =
        { status := .done, data := [], after := t }) ∧
      (∃ m, t = { s with map := m }) ∧ activeBank t.map = activeBank s.map ∧ t.map.active = s.map.active ∧
      t.map.epoch = s.map.epoch ∧ t.map.commit = s.map.commit ∧
      (∀ (k : LaneId) (slot : SlotId),
        ((shadowBank t.map).get k).get slot =
          if h : k = lane ∧ first.toNat ≤ slot.val ∧ slot.val - first.toNat < entries.length then
            entries[slot.val - first.toNat]'h.2.2
          else ((shadowBank s.map).get k).get slot) ∧
      judgeItem false serial { kind := 0x06#8, args := [0x01#8, octetOf lane.val, first, count] } t =
        { status := .done, data := octets, after := t }

/-- MAP_WRITE by the tests of R57 in their order, in a request or a group copy: octets that are not exactly `count`
entries of Table 11-6 give BAD_ARGUMENT; a lane, slot, count or entry out of range gives OUT_OF_RANGE; a pending
commit PENDING, a running copy or a reload BUSY (R62, R65), nothing being written; otherwise the item is DONE and
changes the map alone (`Obligations.MapWriteIsReadBackByMapRead` says how). MAP_READ (R58, R65): an unknown selector
gives BAD_ARGUMENT, a lane, slot or count out of range OUT_OF_RANGE, a read of SHADOW while a copy runs BUSY; a read
of ACTIVE is always taken, one of SHADOW through a pending commit and a reload too, and returns the entries in slot
order. The order of MAP_READ's tests is the model's choice (log 25, DESIGN CHOICE). -/
def Obligations.MapItemsAreTestedInTheirOrder : Prop :=
  ∀ (lane first count : Octet) (s : State) (laneSlots : Prop) (encoded : RawEntry → List Octet)
      (failed : ItemStatus → ItemResult),
    (laneSlots ↔ lane.toNat < 16 ∧ first.toNat < 40 ∧ 1 ≤ count.toNat ∧ count.toNat ≤ 40 ∧
      first.toNat + count.toNat ≤ 40) →
    (∀ e, encoded e =
      match e with
      | .fill w => [0x01#8, octetAt w 3, octetAt w 2, octetAt w 1, octetAt w 0]
      | .lane l t (.fill w) => [0x02#8, l, t, 0x00#8, octetAt w 3, octetAt w 2, octetAt w 1, octetAt w 0]
      | .lane l t .hold => [0x02#8, l, t, 0x01#8]
      | .lane l t .pass => [0x02#8, l, t, 0x02#8]
      | .gen g => [0x03#8, g]) →
    (∀ st, failed st = { status := st, data := [], after := s }) →
    (∀ (group : Bool) (serial : Nat) (octets : List Octet) (claimed : Option ItemStatus) (r : ItemResult),
      judgeItem group serial { kind := 0x05#8, args := lane :: first :: count :: octets } s = r →
      claimed = (if s.map.commit ≠ .none then some .pending
        else if s.map.copy.isSome ∨ s.loader.state = .reloading then some .busy else none) →
      ((∀ es : List RawEntry, es.length = count.toNat → es.flatMap encoded ≠ octets) → r = failed .badArgument) ∧
      ∀ (es : List RawEntry) (inRange : Prop), es.length = count.toNat → es.flatMap encoded = octets →
        (inRange ↔ laneSlots ∧ ∀ e ∈ es,
          match e with
          | .fill _ => True
          | .lane l t _ => l.toNat < 16 ∧ t.toNat < 40
          | .gen g => g.toNat < 4) →
        (¬ inRange → r = failed .outOfRange) ∧
        (inRange → ∀ st, claimed = some st → r = failed st) ∧
        (inRange → claimed = none → ∃ m, r = { status := .done, data := [], after := { s with map := m } })) ∧
    ∀ (serial : Nat) (bank : Octet) (r : ItemResult) (entryOctets : Entry → List Octet),
      judgeItem false serial { kind := 0x06#8, args := [bank, lane, first, count] } s = r →
      (∀ e, entryOctets e =
        match e with
        | .fill w => encoded (.fill w)
        | .lane l t loss => encoded (.lane (BitVec.ofNat 8 l.val) (BitVec.ofNat 8 t.val) loss)
        | .gen g => encoded (.gen (BitVec.ofNat 8 g.val))) →
      (2 ≤ bank.toNat → r = failed .badArgument) ∧
      (bank.toNat < 2 → ¬ laneSlots → r = failed .outOfRange) ∧
      (bank = 1 → laneSlots → s.map.copy.isSome → r = failed .busy) ∧
      ∀ l : LaneId, lane.toNat = l.val → laneSlots → (bank = 0 ∨ (bank = 1 ∧ s.map.copy = none)) →
        r =
          { status := .done
            data :=
              ((List.finRange 40).filter fun t =>
                decide (first.toNat ≤ t.val) && decide (t.val < first.toNat + count.toNat)).flatMap fun t =>
                  entryOctets (((if bank = 0 then activeBank s.map else shadowBank s.map).get l).get t)
            after := s }

/-- The table of R65 for MAP_COPY, COMMIT, COMMIT_CANCEL and IMAGE_RELOAD, and what these items do when they are taken
(R59, R63, R68, R147; the reload's first attempt sends 03H and the address 0 to the flash, R163, R167): a pending
commit gives PENDING, a running copy or a reload BUSY, and COMMIT_CANCEL is taken exactly while a commit is pending.
Its rows MAP_WRITE and MAP_READ are in `Obligations.MapItemsAreTestedInTheirOrder`. A COMMIT whose target kind octet
does not fit its length gives BAD_ARGUMENT before these (R63, R128); one to a frame must lie 1 to 32767 ahead. -/
def Obligations.ShadowClaimsRefuseEachOther : Prop :=
  ∀ (group : Bool) (serial : Nat) (s : State) (hi lo : Octet) (refused : Option ItemStatus),
    refused = (if s.map.commit ≠ .none then some .pending
      else if s.map.copy.isSome ∨ s.loader.state = .reloading then some .busy else none) →
    (∀ st, refused = some st →
      judgeItem group serial { kind := 0x07#8, args := [] } s = { status := st, data := [], after := s } ∧
      judgeItem group serial { kind := 0x14#8, args := [] } s = { status := st, data := [], after := s } ∧
      judgeItem group serial { kind := 0x08#8, args := [0x00#8] } s = { status := st, data := [], after := s } ∧
      judgeItem group serial { kind := 0x08#8, args := [0x01#8, hi, lo] } s = { status := st, data := [], after := s }) ∧
    (refused = none →
      judgeItem group serial { kind := 0x07#8, args := [] } s =
        { status := .started, data := [], after := { s with map := { s.map with copy := some 0 } } } ∧
      judgeItem group serial { kind := 0x14#8, args := [] } s =
        { status := .started, data := []
          after := { s with
            loader := { s.loader with
              state := .reloading, resume := s.loader.state, attempts := 1, engine := some 0
              sent := [0x03#8, 0#8, 0#8, 0#8], taken := [], next := .none } } } ∧
      judgeItem group serial { kind := 0x08#8, args := [0x00#8] } s =
        { status := .started, data := [octetAt s.timing.number 1, octetAt s.timing.number 0]
          after := { s with map := { s.map with commit := .next } } } ∧
      judgeItem group serial { kind := 0x08#8, args := [0x01#8, hi, lo] } s =
        if 1 ≤ ((hi ++ lo) - s.timing.number).toNat ∧ ((hi ++ lo) - s.timing.number).toNat ≤ 32767 then
          { status := .started, data := [octetAt s.timing.number 1, octetAt s.timing.number 0]
            after := { s with map := { s.map with commit := .frame (hi ++ lo) } } }
        else { status := .outOfWindow, data := [], after := s }) ∧
    (∀ kind : Octet,
      (kind ≠ 0x00#8 →
        judgeItem group serial { kind := 0x08#8, args := [kind] } s =
          { status := .badArgument, data := [], after := s }) ∧
      (kind ≠ 0x01#8 →
        judgeItem group serial { kind := 0x08#8, args := [kind, hi, lo] } s =
          { status := .badArgument, data := [], after := s })) ∧
    judgeItem group serial { kind := 0x09#8, args := [] } s =
      if s.map.commit = .none then { status := .noCommit, data := [], after := s }
      else { status := .done, data := [], after := { s with map := { s.map with commit := .none } } }

/-- Each identifier 1 to 23 names one parameter of Table 8-3, with its range, and PARAM_READ gives its value (R136).
PARAM_WRITE by the tests of R137 in their order: an unknown identifier gives BAD_ARGUMENT, identifier 1 NOT_ALLOWED, a
value out of the range of Table 8-3 OUT_OF_RANGE, a group parameter in a group copy NOT_IN_GROUP. QUALIFY_FRAMES (R44)
is applied to every source at once; one not yet qualified whose count reaches the new value becomes qualified, one
already qualified stays so, and no count changes. EGRESS_ENABLE (R84, R85) is refused where it would turn off the
management egress lane or a pending new one. NOTICE_MASK (R138) holds its fixed bits. GEN_KIND (R91) re-seeds the
generator. The plain parameters (R3, R40, R43, R106, R138) take the value, every other parameter standing. -/
def Obligations.ParameterWritesActAtOnce : Prop :=
  (∀ i : Octet,
    ((i = 0 ∨ 23 < i.toNat) ↔ paramOf i = none) ∧
    (∀ j p, paramOf i = some p → paramOf j = some p → j = i) ∧
    ∀ p, paramOf i = some p →
      (∀ s, judgeItem false 0 { kind := 0x03#8, args := [i] } s =
        { status := .done, data := [octetAt (paramValue s p) 1, octetAt (paramValue s p) 0], after := s }) ∧
      ∀ v : Sys2Proof.Num, paramInRange p v = true ↔
        match i.toNat with
        | 1 => v.toNat ≤ 30
        | 2 | 3 => v.toNat ≤ 17
        | 4 => v.toNat ≤ 1
        | 5 => 8 ≤ v.toNat ∧ v.toNat ≤ 1024
        | 6 => 2 ≤ v.toNat ∧ v.toNat ≤ 8
        | 7 | 8 => v.toNat ≤ 15
        | 9 | 10 | 13 => True
        | 11 => 1 ≤ v.toNat ∧ v.toNat ≤ 7
        | 12 | 15 => 1 ≤ v.toNat ∧ v.toNat ≤ 15
        | 14 => 64 ≤ v.toNat
        | 16 | 17 | 18 | 19 => v = 0 ∨ (32 ≤ v.toNat ∧ v.toNat ≤ 62)
        | _ => v.toNat ≤ 4) ∧
  (paramOf 1 = some .deviceAddress ∧ paramOf 5 = some .qualifyFrames ∧ paramOf 7 = some .mgmtIngress ∧
    paramOf 8 = some .mgmtEgress ∧ paramOf 9 = some .ingressEnable ∧ paramOf 10 = some .egressEnable ∧
    paramOf 13 = some .noticeMask ∧ (∀ g : GenId, paramOf (BitVec.ofNat 8 (20 + g.val)) = some (.genKind g)) ∧
    ∀ n : Fin 4, paramOf (BitVec.ofNat 8 (16 + n.val)) = some (.group n)) ∧
  (∀ (group : Bool) (serial : Nat) (i hi lo : Octet) (v : Sys2Proof.Num) (s : State), v = hi ++ lo →
    ((i = 0 ∨ 23 < i.toNat) →
      judgeItem group serial { kind := 0x04#8, args := [i, hi, lo] } s =
        { status := .badArgument, data := [], after := s }) ∧
    (i = 1 →
      judgeItem group serial { kind := 0x04#8, args := [i, hi, lo] } s =
        { status := .notAllowed, data := [], after := s }) ∧
    ∀ p, paramOf i = some p → p ≠ .deviceAddress →
      (paramInRange p v = false →
        judgeItem group serial { kind := 0x04#8, args := [i, hi, lo] } s =
          { status := .outOfRange, data := [], after := s }) ∧
      (paramInRange p v = true → group = true → (p = .mgmtIngress ∨ p = .mgmtEgress ∨ ∃ n, p = .group n) →
        judgeItem group serial { kind := 0x04#8, args := [i, hi, lo] } s =
          { status := .notInGroup, data := [], after := s }) ∧
      (paramInRange p v = true → (group = true → ¬ ∃ n, p = .group n) →
        p ∉ [Param.qualifyFrames, .mgmtIngress, .mgmtEgress, .ingressEnable, .egressEnable, .noticeMask] →
        (∀ g, p ≠ .genKind g) →
        ∃ q, judgeItem group serial { kind := 0x04#8, args := [i, hi, lo] } s =
            { status := .done, data := [], after := { s with params := q } } ∧
          paramValue { s with params := q } p = v ∧
          ∀ p', p' ≠ p → paramValue { s with params := q } p' = paramValue s p')) ∧
  (∀ (group : Bool) (serial : Nat) (hi lo : Octet) (v : Sys2Proof.Num) (s : State), v = hi ++ lo →
    judgeItem group serial { kind := 0x04#8, args := [5#8, hi, lo] } s =
      if 8 ≤ v.toNat ∧ v.toNat ≤ 1024 then
        { status := .done, data := []
          after := { s with
            params := { s.params with qualifyFrames := v }
            timing := { s.timing with
              laneQual := Tab.ofFn fun l =>
                { count := (s.timing.laneQual.get l).count
                  qualified := (s.timing.laneQual.get l).qualified ||
                    decide (v.toNat ≤ (s.timing.laneQual.get l).count) }
              refinQual :=
                { count := s.timing.refinQual.count
                  qualified := s.timing.refinQual.qualified || decide (v.toNat ≤ s.timing.refinQual.count) } } } }
      else { status := .outOfRange, data := [], after := s }) ∧
  ∀ (group : Bool) (serial : Nat) (hi lo : Octet) (v : Sys2Proof.Num) (s : State), v = hi ++ lo →
    (v.getLsbD s.channel.mgmtEgress.val = true →
      (∀ c l, s.dispatcher.change = some c → c.egress = some l → v.getLsbD l.val = true) →
      judgeItem group serial { kind := 0x04#8, args := [10#8, hi, lo] } s =
        { status := .done, data := [], after := { s with params := { s.params with egressEnable := v } } }) ∧
    ((v.getLsbD s.channel.mgmtEgress.val = false ∨
        ∃ c l, s.dispatcher.change = some c ∧ c.egress = some l ∧ v.getLsbD l.val = false) →
      judgeItem group serial { kind := 0x04#8, args := [10#8, hi, lo] } s =
        { status := .notAllowed, data := [], after := s }) ∧
    judgeItem group serial { kind := 0x04#8, args := [13#8, hi, lo] } s =
        { status := .done, data := []
          after := { s with params := { s.params with noticeMask := (v ||| 0x4001#16) &&& 0x7FFF#16 } } } ∧
    ∀ (g : GenId) (i : Octet), i.toNat = 20 + g.val → v.toNat ≤ 4 →
      judgeItem group serial { kind := 0x04#8, args := [i, hi, lo] } s =
        { status := .done, data := []
          after := { s with
            generators := s.generators.set g
              (match v.toNat with
              | 0 => { kind := none, nextWord := 0 }
              | 1 => { kind := some .count, nextWord := 0 }
              | 2 => { kind := some .pr13, nextWord := firstWord .pr13 }
              | 3 => { kind := some .pr19, nextWord := firstWord .pr19 }
              | _ => { kind := some .pr29, nextWord := firstWord .pr29 }) } }

/-- A write of INGRESS_ENABLE (R16, R17, R27, R36, R41, R46, R48, R49, R101, R137): NOT_ALLOWED, with no lane changed,
where the bit of the management ingress lane is 0; otherwise a lane whose bit goes to 0 enters OFF with its store in
IDLE, unqualified, its checkers ended LANE_LOST and a survey of it aborted; one whose bit goes to 1 leaves OFF for
SEEK; the others stand, and so do the counters of all. A timing source that is disabled is replaced, at last, by the
choice of R46 among the sources left, whatever order the lanes are taken in (log 26), and a lane so entered is
recentred. The service channel and all other blocks stand; of the Notice Unit nothing changes but the notices of these
effects, and nothing at all where no lane goes off that a run, a survey or the timing depends on. That a disabled
receiver's expected position and every other field no rule names stand, and the working fields of a checker that ends
but its round, is the model's reading (log 13, DEDUCED). -/
def Obligations.IngressEnableActsOnEveryChangedLane : Prop :=
  ∀ (group : Bool) (serial : Nat) (hi lo : Octet) (v : Sys2Proof.Num) (s : State) (r : ItemResult),
    v = hi ++ lo → judgeItem group serial { kind := 0x04#8, args := [9#8, hi, lo] } s = r →
    (v.getLsbD s.channel.mgmtIngress.val = false → r = { status := .notAllowed, data := [], after := s }) ∧
    (v.getLsbD s.channel.mgmtIngress.val = true →
      ∃ t, r = { status := .done, data := [], after := t } ∧
        t.params = { s.params with ingressEnable := v } ∧ LanesSwitched v s t ∧ t.channel = s.channel ∧
        OtherBlocksKept { s with params := t.params } t)

/-- PARAM_WRITE of MGMT_INGRESS or MGMT_EGRESS in a unicast request by the table of R121: BUSY while a change is held
elsewhere; DONE, with what this request holds for it cleared, for the current value; NOT_ALLOWED for a lane that is
not enabled; else DONE with the value held. A change with no value left is none (log 18, DEDUCED). RESTART (R126):
NOT_IN_GROUP in a group copy; in a unicast request DONE, restart-pending set for it, and a change held by the same
request discarded (R121). Nothing but these marks changes. CHECK_START (R93) and SURVEY_START (R32): OUT_OF_RANGE,
then BUSY while a run or survey is in progress, then NOT_ALLOWED for a lane in OFF; else STARTED with a fresh record.
CHECK_STOP (R100): a run in progress ends STOPPED with CHECK_DONE, every count standing, and returns 01H; none returns
00H. COUNTS_CLEAR (R143, R19, R29, R123): the counters of the masked lanes and stores and, by its flag, the channel
counts and the dropped count of the group record; a flags octet with another bit gives BAD_ARGUMENT. The order of
SURVEY_START's tests, and BUSY first in the table of R121, are the model's (log 27, DESIGN CHOICE and DEDUCED); a
fresh checker's reference 0 is log 21 (DESIGN CHOICE); the fields of a stopped checker but its round stand (log 13,
DEDUCED). -/
def Obligations.MarksAndMeasurementItemsActAtOnce : Prop :=
  ((∀ (serial : Nat) (hi lo : Octet) (l : LaneId) (s : State) (own : LaneChange), hi ++ lo = BitVec.ofNat 16 l.val →
    own = s.dispatcher.change.getD { ingress := none, egress := none, holder := .request serial, armed := false } →
    ∀ hold : LaneChange → ItemResult,
    (∀ c, hold c =
      { status := .done, data := []
        after := { s with
          dispatcher := { s.dispatcher with
            change := if c.ingress = none ∧ c.egress = none then none else some c } } }) →
    judgeItem false serial { kind := 0x04#8, args := [7#8, hi, lo] } s =
        (if own.holder ≠ .request serial then { status := .busy, data := [], after := s }
        else if l = s.channel.mgmtIngress then hold { own with ingress := none }
        else if s.params.ingressEnable.getLsbD l.val = false then { status := .notAllowed, data := [], after := s }
        else hold { own with ingress := some l }) ∧
    judgeItem false serial { kind := 0x04#8, args := [8#8, hi, lo] } s =
        (if own.holder ≠ .request serial then { status := .busy, data := [], after := s }
        else if l = s.channel.mgmtEgress then hold { own with egress := none }
        else if s.params.egressEnable.getLsbD l.val = false then { status := .notAllowed, data := [], after := s }
        else hold { own with egress := some l })) ∧
  ∀ (group : Bool) (serial : Nat) (s : State),
    judgeItem group serial { kind := 0x15#8, args := [] } s =
      if group then { status := .notInGroup, data := [], after := s }
      else
        { status := .done, data := []
          after := { s with
            dispatcher := { s.dispatcher with
              restart := some serial
              change := match s.dispatcher.change with
                | some c => if c.holder = .request serial then none else some c
                | none => none } } }) ∧
  ∀ (group : Bool) (serial : Nat) (s : State),
    (∀ (c l slot hi lo : Octet),
      judgeItem group serial { kind := 0x0D#8, args := [c, l, slot, hi, lo] } s =
        if h : c.toNat < 4 ∧ l.toNat < 16 ∧ slot.toNat < 40 ∧ hi ++ lo ≠ 0#16 then
          if inProgress (s.checkers.get ⟨c.toNat, h.1⟩) then { status := .busy, data := [], after := s }
          else if (s.lanes.get ⟨l.toNat, h.2.1⟩).align = .off then
            { status := .notAllowed, data := [], after := s }
          else
            { status := .started, data := []
              after := { s with
                checkers := s.checkers.set ⟨c.toNat, h.1⟩
                  { State.reset.checkers.get 0 with
                    state := .detect, lane := ⟨l.toNat, h.2.1⟩, slot := ⟨slot.toNat, h.2.2.1⟩, frameCount := hi ++ lo
                    remaining := hi ++ lo } } }
        else { status := .outOfRange, data := [], after := s }) ∧
    (∀ c : Octet,
      judgeItem group serial { kind := 0x0E#8, args := [c] } s =
        if h : c.toNat < 4 then
          if inProgress (s.checkers.get ⟨c.toNat, h⟩) then
            { status := .done, data := [0x01#8]
              after := raise .checkDone (.checker ⟨c.toNat, h⟩)
                (checkDoneOctets 0x04#8 (s.checkers.get ⟨c.toNat, h⟩))
                { s with
                  checkers := s.checkers.set ⟨c.toNat, h⟩
                    { s.checkers.get ⟨c.toNat, h⟩ with state := .done, result := some .stopped, round := none } } }
          else { status := .done, data := [0x00#8], after := s }
        else { status := .outOfRange, data := [], after := s }) ∧
    (∀ (l hi lo : Octet),
      judgeItem group serial { kind := 0x10#8, args := [l, hi, lo] } s =
        if h : l.toNat < 16 ∧ hi ++ lo ≠ 0#16 then
          if s.survey.state = .running then { status := .busy, data := [], after := s }
          else if (s.lanes.get ⟨l.toNat, h.1⟩).align = .off then { status := .notAllowed, data := [], after := s }
          else
            { status := .started, data := []
              after := { s with
                survey :=
                  { State.reset.survey with
                    state := .running, lane := ⟨l.toNat, h.1⟩, frameCount := hi ++ lo, remaining := hi ++ lo } } }
        else { status := .outOfRange, data := [], after := s }) ∧
    ∀ (hi lo flags : Octet),
      judgeItem group serial { kind := 0x0C#8, args := [hi, lo, flags] } s =
        if 2 ≤ flags.toNat then { status := .badArgument, data := [], after := s }
        else
          { status := .done, data := []
            after := { s with
              lanes := Tab.ofFn fun l =>
                if (hi ++ lo).getLsbD l.val then
                  { s.lanes.get l with markerMisses := 0, codeErrors := 0, numberJumps := 0, syncLosses := 0 }
                else s.lanes.get l
              stores := Tab.ofFn fun l =>
                if (hi ++ lo).getLsbD l.val then { s.stores.get l with underSlips := 0, overSlips := 0 }
                else s.stores.get l
              channel :=
                if flags = 1 then
                  { s.channel with
                    badCheck := 0, stray := 0, forwardOverflow := 0, requestDropped := 0
                    group := { s.channel.group with dropped := 0 } }
                else s.channel } }

/-! ### Notices (Section 9) -/

/-- A NOTICE_ACK that does not end the outstanding message changes nothing (R158): with nothing outstanding it returns
NOTHING_OUTSTANDING, with another sequence number outstanding it returns STALE, and no data in either case. -/
def Obligations.UnmatchedAcknowledgementChangesNothing : Prop :=
  ∀ (serial : Nat) (seq : Octet) (s : State),
    (s.notices.outstanding = none →
      judgeItem false serial { kind := 0x12#8, args := [seq] } s =
        { status := .nothingOutstanding, data := [], after := s }) ∧
    ∀ m, s.notices.outstanding = some m → m.seq ≠ seq →
      judgeItem false serial { kind := 0x12#8, args := [seq] } s = { status := .stale, data := [], after := s }

/-- NOTICE_ACK with the number of the outstanding message (R145, R150, R151, R156), the message it ends being gone:
its entries leave the list, an unstarted copy is withdrawn, the timer stops, the unit is READY. With notices lost and
room in the list the lost count returns to 0: it is added to an OVERFLOW entry that waits, the sum stopping at 65535,
or becomes a new OVERFLOW entry. -/
def Obligations.AcknowledgementEndsTheOutstandingMessage : Prop :=
  ∀ (serial : Nat) (seq : Octet) (s : State) (m : Outstanding) (left : List NoticeEntry) (sum : List Octet → List Octet),
    s.notices.outstanding = some m → m.seq = seq → left = s.notices.list.filter (fun e => !e.carried) →
    (∀ d, sum d =
      match d with
      | [hi, lo] =>
        if (hi ++ lo).toNat + s.notices.lost.toNat < 65536 then
          [octetAt ((hi ++ lo) + s.notices.lost) 1, octetAt ((hi ++ lo) + s.notices.lost) 0]
        else [0xFF#8, 0xFF#8]
      | _ => [octetAt s.notices.lost 1, octetAt s.notices.lost 0]) →
    ∃ list lost, judgeItem false serial { kind := 0x12#8, args := [seq] } s =
        { status := .done, data := []
          after := { s with
            notices := { s.notices with
              list := list, alert := decide (list ≠ []), lost := lost
              outstanding := none, state := .ready, copy := .idle, timer := none, retries := 0 }
            channel := { s.channel with
              outgoing := s.channel.outgoing.filter fun n => !decide (n.kind = .notice ∧ n.given = 0) } } } ∧
      ((s.notices.lost = 0 ∨ 16 ≤ left.length) → list = left ∧ lost = s.notices.lost) ∧
      (s.notices.lost ≠ 0 → left.length < 16 →
        lost = 0 ∧
        ((∃ e ∈ left, e.kind = .overflow ∧ e.subject = .none) →
          list = left.map fun e =>
            if e.kind = .overflow ∧ e.subject = .none then
              { e with
                repeats := if e.repeats = 255 then 255 else e.repeats + 1, frame := s.timing.number, data := sum e.data }
            else e) ∧
        ((∀ e ∈ left, ¬ (e.kind = .overflow ∧ e.subject = .none)) →
          list = left ++
            [{ kind := .overflow, subject := .none, repeats := 1, frame := s.timing.number
               data := [octetAt s.notices.lost 1, octetAt s.notices.lost 0], carried := false }]))

/-- NOTICE_MESSAGE_BUILD (R154) and NOTICE_COPY_PLACEMENT (R152): with a free slot and no notice message in the queue,
in READY and OPERATING the oldest entries not carried, up to 8, are built into the next numbered message and placed;
an owed copy of the outstanding message is placed word for word, counting as a retry after an expiry. Otherwise
nothing changes. The octets of kinds, subjects, states and results are those of Tables 11-7 and 11-8. Within an
execution the Notice Unit has its moment likewise, a copy first, so many slots being held (R133). -/
def Obligations.NoticeMessagesAreBuiltAndCopied : Prop :=
  (∀ kinds : List NoticeKind,
    kinds =
      [.startUp, .syncGained, .syncLost, .slip, .timingChange, .numberStep, .commitDone, .copyDone, .reloadDone, .checkDone,
        .checkLost, .surveyDone, .forwardOverflow, .requestDropped, .overflow] →
    kinds.map noticeOctet = (List.range 15).map (fun i => BitVec.ofNat 8 (i + 1)) ∧
    kinds.map noticeBit = List.range 15) ∧
  ((∀ l, subjectOctet (.lane l) = BitVec.ofNat 8 l.val) ∧ (∀ c, subjectOctet (.checker c) = BitVec.ofNat 8 c.val) ∧
    subjectOctet .none = 0xFF#8 ∧
    [TimingState.freerun, .primary, .secondary, .holdover].map timingOctet = [0x00#8, 0x01#8, 0x02#8, 0x03#8] ∧
    (∀ l, sourceOctet (some (.lane l)) = BitVec.ofNat 8 l.val) ∧ sourceOctet (some .refin) = 16#8 ∧
    sourceOctet none = 0xFF#8 ∧
    [LoadResult.loaded, .absent, .failed].map resultOctet = [0x01#8, 0x02#8, 0x03#8] ∧
    [Cause.powerOn, .restart].map causeOctet = [0x01#8, 0x02#8] ∧
    [CheckResult.clean, .errors, .notFound, .stopped, .laneLost].map (fun r => checkResultOctet (some r)) =
      [0x01#8, 0x02#8, 0x03#8, 0x04#8, 0x05#8] ∧
    detectedOctet none = 0xFF#8 ∧
    ([false, true].flatMap fun inverted =>
        [SequenceKind.count, .pr13, .pr19, .pr29].map fun kind => detectedOctet (some (kind, inverted))) =
      [0x01#8, 0x02#8, 0x03#8, 0x04#8, 0x81#8, 0x82#8, 0x83#8, 0x84#8]) ∧
  (∀ (reserved : Nat) (take : Instr → State → State) (s : State), (∀ c u, exec c u = .next (take c u)) →
    noticeMoment reserved s =
      if s.channel.outgoing.length + reserved < 4 then take .noticeMessageBuild (take .noticeCopyPlacement s) else s) ∧
  ∀ (s : State) (free : Bool) (es : List NoticeEntry) (words : List Word) (place : List Word → State → State),
    free = (decide (s.channel.outgoing.length < 4) && !(s.channel.outgoing.any fun m => decide (m.kind = .notice))) →
    es = (s.notices.list.filter fun e => !e.carried).take 8 →
    words = messageWords 63 s.address 0x03#8
      (s.notices.nextSeq :: BitVec.ofNat 8 es.length ::
        es.flatMap fun e =>
          [noticeOctet e.kind, subjectOctet e.subject, e.repeats, octetAt e.frame 1, octetAt e.frame 0,
            BitVec.ofNat 8 e.data.length] ++ e.data) →
    (∀ ws v, place ws v =
      { v with
        channel := { v.channel with
          outgoing := v.channel.outgoing ++ [{ kind := .notice, words := ws, given := 0, placed := v.starts }] } }) →
    exec .noticeMessageBuild s =
      .next
        (if s.notices.state = .ready ∧ s.loader.state ≠ .loading ∧ es ≠ [] ∧ free = true then
          place words
            { s with
              notices := { s.notices with
                list := s.notices.list.zipIdx.map fun p =>
                  if ((s.notices.list.take p.2).filter fun e => !e.carried).length < 8 then { p.1 with carried := true }
                  else p.1
                state := .awaiting, outstanding := some { seq := s.notices.nextSeq, entries := es, words := words }
                copy := .queued, timer := none, retries := 0, nextSeq := s.notices.nextSeq + 1 } }
        else s) ∧
    exec .noticeCopyPlacement s =
      .next
        (match s.notices.copy, s.notices.outstanding, free with
        | .owed counts, some m, true =>
          place m.words
            { s with
              notices := { s.notices with
                copy := .queued, retries := if counts then s.notices.retries + 1 else s.notices.retries } }
        | _, _, _ => s)

/-! ### The Image Loader (Section 10) -/

/-- The tests of R163 on the octets the flash returns. A marker other than 5C1EH, and nothing else, makes the load
ABSENT. A verified image passes all of them: version 1 and total length 8 to 8192; records that can be read; at most
one DEVICE and one LANE record; in a DEVICE record only identifiers 2 to 8 and 13 to 19 and an address of at most 30,
in a LANE record only identifiers 9 to 12, every value in the range of Table 8-3; every MAP_RANGE record's run in
range; the right check code. An image laid out as Tables 11-9 and 11-10 say, of at most one DEVICE record, at most one
LANE record and any MAP_RANGE records, in any order and all in range, is verified with exactly what its records carry,
whatever stands behind it. That octets the command does not carry read FFH is log 16 (DESIGN CHOICE). -/
def Obligations.ImageIsJudgedByItsTests : Prop :=
  (∀ (octets : List Octet) (at' : Nat → Octet) (total : Nat), (∀ a, at' a = octets.getD a 0xFF#8) →
    total = (at' 4 ++ at' 5).toNat →
    (judgeImage octets = .absent ↔ at' 0 ++ at' 1 ≠ 0x5C1E#16) ∧
    (∀ im, judgeImage octets = .verified im →
      at' 2 = 1 ∧ 8 ≤ total ∧ total ≤ 8192 ∧
      checkCode ((List.range (total - 2)).map at') = at' (total - 2) ++ at' (total - 1) ∧
      im.address.toNat ≤ 30 ∧
      (∀ p ∈ im.settings, 2 ≤ p.1.toNat ∧ p.1.toNat ≤ 19 ∧ ∃ q, paramOf p.1 = some q ∧ paramInRange q p.2 = true) ∧
      (∀ r ∈ im.runs, 1 ≤ r.entries.length ∧ r.first + r.entries.length ≤ 40) ∧
      ∃ rs, imageRecords octets = some rs ∧ im = imageOf rs ∧ (rs.filter isDevice).length ≤ 1 ∧
        (rs.filter isLaneRecord).length ≤ 1 ∧
        (∀ a settings, ImageRecord.device a settings ∈ rs → a.toNat ≤ 30 ∧ ∀ p ∈ settings,
          (2 ≤ p.1.toNat ∧ p.1.toNat ≤ 8) ∨ (13 ≤ p.1.toNat ∧ p.1.toNat ≤ 19)) ∧
        (∀ settings, ImageRecord.lane settings ∈ rs → ∀ p ∈ settings, 9 ≤ p.1.toNat ∧ p.1.toNat ≤ 12) ∧
        ∀ run, ImageRecord.mapRange run ∈ rs → ∃ r ∈ im.runs, checkRun run = some r)) ∧
  ∀ (records :
        List ((Octet × List (Octet × Sys2Proof.Num)) ⊕ List (Octet × Sys2Proof.Num) ⊕ (LaneId × Octet × List Entry)))
      (setting : Octet × Sys2Proof.Num → List Octet) (record : Octet → List Octet → List Octet)
      (covered more : List Octet),
    (records.filter fun r => match r with | .inl _ => true | _ => false).length ≤ 1 →
    (records.filter fun r => match r with | .inr (.inl _) => true | _ => false).length ≤ 1 →
    (∀ r ∈ records,
      match r with
      | .inl (address, settings) =>
        address.toNat ≤ 30 ∧ ∀ p ∈ settings, ((2 ≤ p.1.toNat ∧ p.1.toNat ≤ 8) ∨ (13 ≤ p.1.toNat ∧ p.1.toNat ≤ 19)) ∧
          ∃ q, paramOf p.1 = some q ∧ paramInRange q p.2 = true
      | .inr (.inl settings) =>
        ∀ p ∈ settings, 9 ≤ p.1.toNat ∧ p.1.toNat ≤ 12 ∧ ∃ q, paramOf p.1 = some q ∧ paramInRange q p.2 = true
      | .inr (.inr (_, first, entries)) => 1 ≤ entries.length ∧ first.toNat + entries.length ≤ 40) →
    (∀ p, setting p = [p.1, octetAt p.2 1, octetAt p.2 0]) →
    (∀ kind contents, record kind contents =
      [kind, BitVec.ofNat 8 (contents.length / 256), BitVec.ofNat 8 contents.length] ++ contents) →
    records.length ≤ 255 → covered.length ≤ 8190 →
    covered =
      [0x5C#8, 0x1E#8, 1#8, BitVec.ofNat 8 records.length, BitVec.ofNat 8 ((covered.length + 2) / 256),
        BitVec.ofNat 8 (covered.length + 2)] ++
      records.flatMap (fun r =>
        match r with
        | .inl (address, settings) => record 0x01#8 (address :: settings.flatMap setting)
        | .inr (.inl settings) => record 0x02#8 (settings.flatMap setting)
        | .inr (.inr (lane, first, entries)) =>
          record 0x03#8
            ([BitVec.ofNat 8 lane.val, first, BitVec.ofNat 8 entries.length] ++ entries.flatMap encodeEntry)) →
    judgeImage (covered ++ [octetAt (checkCode covered) 1, octetAt (checkCode covered) 0] ++ more) =
      .verified
        { address := (records.filterMap fun r => match r with | .inl d => some d.1 | _ => none).headD 0
          settings := records.flatMap fun r =>
            match r with
            | .inl d => d.2
            | .inr (.inl settings) => settings
            | .inr (.inr _) => []
          runs := records.filterMap fun r =>
            match r with
            | .inr (.inr (lane, first, entries)) => some { lane := lane, first := first.toNat, entries := entries }
            | _ => none }

/-- IMAGE_ATTEMPT_END (R163 to R168): the engine takes the flash octets in order from address 0 and stops at the first
failing test: behind a wrong marker, a wrong version or a total length out of range, in every case where no octet
behind could change the judgement, and of a verified image it has taken all. An image that is absent, or fails on the
eighth attempt, ends a start-up load in DEFAULTS with START_UP at the front of the list (R153), and a reload in its
former state with RELOAD_DONE; an earlier failure waits for the next start. A verified image of a reload writes its
runs into the SHADOW bank and ends the reload with RELOAD_DONE; nothing else of the part changes (R167). One of a
start-up load is applied (R165) with its address, its settings, the later of two values of one parameter prevailing,
the forced enables of the management lanes, its lane change, map and commit; QUALIFY_FRAMES qualifies the sources that
reach it (R44); the lanes that it disables and enables act as at a write of INGRESS_ENABLE, with stores, timing,
checkers and survey (`LanesSwitched`); START_UP is then placed at the front; generators, hold words, egress and the
service channel stand. The model's in it: the whole judgement is made in this command, from the octets it carries, and
a read that stops at a failing test stops with the octet that completes what the test tests (log 16, DESIGN CHOICE);
of a parameter named twice only the later value is applied (log 8, DESIGN CHOICE); the image's parameters are applied
in the order of their identifiers, START_UP after them (log 8, DESIGN CHOICE); the expected position and every other
field no rule names of a lane that the image disables stand (log 13, DEDUCED). -/
def Obligations.AttemptEndsByTheImagesVerdict : Prop :=
  ∀ (octets : List Octet) (s b : State) (started : List Octet → NoticeUnit → NoticeUnit), settle s = b →
    (∀ data n, started data n =
      { n with
        alert := true
        list :=
          { kind := .startUp, subject := .none, repeats := 1, frame := b.timing.number, data := data, carried := false } ::
            n.list.take 15
        lost := if n.list.length < 16 ∨ n.lost = 0xFFFF#16 then n.lost else n.lost + 1 }) →
    (b.loader.engine = none → exec (.imageAttemptEnd octets) s = .next b) ∧
    (b.loader.engine.isSome → ∃ read : List Octet,
      (read = (List.range read.length).map (fun a => octets.getD a 0xFF#8) ∧ read.length ≤ 8192 ∧
        (∀ more, judgeImage (read ++ more) = judgeImage octets) ∧
        (octets.getD 0 0xFF#8 ++ octets.getD 1 0xFF#8 ≠ 0x5C1E#16 → read.length = 2) ∧
        (octets.getD 0 0xFF#8 ++ octets.getD 1 0xFF#8 = 0x5C1E#16 → octets.getD 2 0xFF#8 ≠ 1#8 → read.length = 3) ∧
        (octets.getD 0 0xFF#8 ++ octets.getD 1 0xFF#8 = 0x5C1E#16 → octets.getD 2 0xFF#8 = 1#8 →
          ((octets.getD 4 0xFF#8 ++ octets.getD 5 0xFF#8).toNat < 8 ∨
            8192 < (octets.getD 4 0xFF#8 ++ octets.getD 5 0xFF#8).toNat) → read.length = 6) ∧
        ∀ im, judgeImage octets = .verified im →
          read.length = (octets.getD 4 0xFF#8 ++ octets.getD 5 0xFF#8).toNat) ∧
      ∀ u : State, u = { b with loader := { b.loader with taken := b.loader.taken ++ read } } →
      (judgeImage octets = .failed → b.loader.attempts < 8 →
        exec (.imageAttemptEnd octets) s =
          .next { u with loader := { u.loader with engine := none, next := .awaitsStart } }) ∧
      (∀ res, (judgeImage octets = .absent ∧ res = .absent) ∨
          (judgeImage octets = .failed ∧ 8 ≤ b.loader.attempts ∧ res = .failed) →
        exec (.imageAttemptEnd octets) s =
          .next
            (if b.loader.state = .reloading then
              raise .reloadDone .none [resultOctet res, octetOf b.loader.attempts]
                { u with
                  loader := { u.loader with
                    state := b.loader.resume, result := res, engine := none, next := .none } }
            else
              { u with
                loader := { u.loader with state := .defaults, result := res, engine := none, next := .none }
                notices := started [causeOctet b.loader.cause, resultOctet res, octetOf b.loader.attempts] b.notices })) ∧
      ∀ (im : Image) (carried : Param → Option Sys2Proof.Num) (lane : Param → Option LaneId),
        judgeImage octets = .verified im →
        (∀ p, carried p =
          (im.settings.filter fun q => decide (paramOf q.1 = some p)).getLast?.map fun q => q.2) →
        (∀ p l, lane p = some l ↔ ∃ v, carried p = some v ∧ v.toNat = l.val) →
        ∃ t, exec (.imageAttemptEnd octets) s = .next t ∧ t.loader.result = .loaded ∧ t.loader.engine = none ∧
          t.loader.attempts = b.loader.attempts ∧ t.map.active = b.map.active ∧ t.map.epoch = b.map.epoch ∧
          t.map.copy = b.map.copy ∧ activeBank t.map = activeBank b.map ∧
          shadowBank t.map = im.runs.foldl (fun bank r => writeRun r bank) (shadowBank b.map) ∧
          (b.loader.state = .reloading →
            t = raise .reloadDone .none [0x01#8, octetOf b.loader.attempts]
              { u with
                map := t.map
                loader := { u.loader with
                  state := b.loader.resume, result := .loaded, engine := none, next := .none } } ∧
              t.loader.state = b.loader.resume ∧ t.map.commit = b.map.commit ∧ t.params = b.params ∧
              t.address = b.address ∧ t.lanes = b.lanes ∧ t.stores = b.stores ∧ t.channel = b.channel ∧
              t.dispatcher = b.dispatcher ∧ t.timing = b.timing ∧
              Raised 0 .reloadDone .none [0x01#8, octetOf b.loader.attempts] b t) ∧
          (b.loader.state ≠ .reloading →
            t.loader = { u.loader with state := .loaded, result := .loaded, engine := none, next := .none } ∧
              t.map.commit = .next ∧
              t.address = (if (b.straps = 0 ∨ b.straps = 31) ∧ im.address ≠ 0 then im.address else b.address) ∧
              (∀ (i : Octet) (p : Param), paramOf i = some p → 2 ≤ i.toNat → i.toNat ≤ 19 → i ∉ [7#8, 8#8, 9#8, 10#8] →
                paramValue t p =
                  match carried p with
                  | some v => if p = .noticeMask then (v ||| 0x4001#16) &&& 0x7FFF#16 else v
                  | none => paramValue b p) ∧
              (∀ l : LaneId,
                t.params.ingressEnable.getLsbD l.val =
                  (match carried .ingressEnable with
                  | some v =>
                    v.getLsbD l.val || decide (l = b.channel.mgmtIngress) || decide (lane .mgmtIngress = some l)
                  | none => b.params.ingressEnable.getLsbD l.val) ∧
                t.params.egressEnable.getLsbD l.val =
                  (match carried .egressEnable with
                  | some v =>
                    v.getLsbD l.val || decide (l = b.channel.mgmtEgress) || decide (lane .mgmtEgress = some l)
                  | none => b.params.egressEnable.getLsbD l.val) ∧
                t.lanes.get l =
                  match b.params.ingressEnable.getLsbD l.val, t.params.ingressEnable.getLsbD l.val with
                  | true, false => { b.lanes.get l with align := .off, confirmed := 0, missed := 0, assembly := none }
                  | false, true =>
                    if (b.lanes.get l).align = .off then { b.lanes.get l with align := .seek } else b.lanes.get l
                  | _, _ => b.lanes.get l) ∧
              t.channel = b.channel ∧
              t.dispatcher =
                { b.dispatcher with
                  change :=
                    if (lane .mgmtIngress = none ∨ lane .mgmtIngress = some b.channel.mgmtIngress) ∧
                        (lane .mgmtEgress = none ∨ lane .mgmtEgress = some b.channel.mgmtEgress) then none
                    else
                      some
                        { ingress := if lane .mgmtIngress = some b.channel.mgmtIngress then none else lane .mgmtIngress
                          egress := if lane .mgmtEgress = some b.channel.mgmtEgress then none else lane .mgmtEgress
                          holder := .image, armed := false } } ∧
              t.generators = b.generators ∧ t.hold = b.hold ∧ t.egress = b.egress ∧ t.straps = b.straps ∧
              t.starts = b.starts ∧ t.draws = b.draws ∧ t.pending = b.pending ∧
              ∃ (w : NoticeUnit) (reaches : Qualification → Qualification),
                (∀ q, reaches q =
                  match carried .qualifyFrames with
                  | some v => { q with qualified := q.qualified || decide (v.toNat ≤ q.count) }
                  | none => q) ∧
                t.notices = started [causeOctet b.loader.cause, 0x01#8, octetOf b.loader.attempts] w ∧
                LanesSwitched t.params.ingressEnable
                  { b with
                    params := { t.params with
                      ingressEnable := b.params.ingressEnable, noticeMask := b.params.noticeMask }
                    timing := { b.timing with
                      laneQual := Tab.ofFn fun l => reaches (b.timing.laneQual.get l)
                      refinQual := reaches b.timing.refinQual } }
                  { t with notices := w }))

/-! ### What every step keeps -/

/-- Every step keeps every lane and its store legal (R14, R21 to R24): the frame under assembly holds one word for
each position taken, and the store is in IDLE exactly while its lane is in OFF, SEEK or CONFIRM. -/
def Obligations.EveryStepKeepsLanesAndStoresLegal : Prop :=
  ∀ s t : State, LanesLegal s → step s = .next t → LanesLegal t

/-- Every step keeps the current source to PRIMARY and SECONDARY, qualified, and a lane out of alignment unqualified
with count 0 (R41, R45, R46). -/
def Obligations.EveryStepKeepsTheSourceQualified : Prop :=
  ∀ s t : State, TimingLegal s → step s = .next t → TimingLegal t

/-- Every step keeps bank B ACTIVE exactly while the epoch is odd, the claims on the SHADOW bank exclusive (R56, R65,
R71), and the read engine to a load or reload (R169), at address 0 with no octet taken where a read has begun (log 16,
DESIGN CHOICE), with never more than 8192 taken (R163). -/
def Obligations.EveryStepKeepsTheMapLegal : Prop :=
  ∀ s t : State, MapLegal s → step s = .next t → MapLegal t

/-- Every step keeps the words of each forwarded message together in the FIFO, from its HEAD to its TAIL or an ABORT
(R111, R119). -/
def Obligations.EveryStepKeepsForwardedMessagesWhole : Prop :=
  ∀ s t : State, ForwardInForm s → step s = .next t → ForwardInForm t

/-- Every step keeps the bounds of the Service Channel Unit, and no key twice among intake and cache (R111, R114 to
R116). -/
def Obligations.EveryStepKeepsTheChannelBounds : Prop :=
  ∀ s t : State, ChannelBounded s → step s = .next t → ChannelBounded t

/-- Every step keeps the management lanes, and a pending new management egress lane, enabled (R17, R85, R122). -/
def Obligations.EveryStepKeepsTheManagementLanesEnabled : Prop :=
  ∀ s t : State, MapLegal s → ManagementEnabled s → step s = .next t → ManagementEnabled t

/-- Every step keeps every parameter in the range of Table 8-3, DEVICE_ADDRESS among them, and the fixed bits of
NOTICE_MASK (R137, R138); and each checker's record legal: a result exactly in DONE, a detected kind exactly once it
has tracked, fewer than 8 consecutive errored words in TRACK (R93, R96, R98, R99). -/
def Obligations.EveryStepKeepsParametersInRangeAndCheckersLegal : Prop :=
  (∀ s t : State, ParamsInRange s → step s = .next t → ParamsInRange t) ∧
  ∀ s t : State, CheckersLegal s → step s = .next t → CheckersLegal t

/-- Every step keeps the notice list and the Notice Unit legal (R149, R151 to R153). -/
def Obligations.EveryStepKeepsTheNoticeListLegal : Prop :=
  ∀ s t : State, MapLegal s → NoticesLegal s → step s = .next t → NoticesLegal t

/-- The state after reset meets every predicate that the statements above say each step keeps. -/
def Obligations.ResetStateIsLegal : Prop :=
  LanesLegal State.reset ∧ TimingLegal State.reset ∧ MapLegal State.reset ∧ ForwardInForm State.reset ∧
    ChannelBounded State.reset ∧ ManagementEnabled State.reset ∧ ParamsInRange State.reset ∧
    CheckersLegal State.reset ∧ NoticesLegal State.reset
end

