-- ==== Sys2Proof/Laws/State.lean ====
section
/-! SUPPORT. Each field of State after each plain update: the update's own field, and the fields it leaves. -/

namespace Sys2Proof.Machine

variable (s : State)


/-! `setLane` -/

@[simp] theorem setLane_lanes (l : LaneId) (r : Lane) : (setLane l r s).lanes = s.lanes.set l r := rfl
@[simp] theorem setLane_stores (l : LaneId) (r : Lane) : (setLane l r s).stores = s.stores := rfl
@[simp] theorem setLane_survey (l : LaneId) (r : Lane) : (setLane l r s).survey = s.survey := rfl
@[simp] theorem setLane_timing (l : LaneId) (r : Lane) : (setLane l r s).timing = s.timing := rfl
@[simp] theorem setLane_map (l : LaneId) (r : Lane) : (setLane l r s).map = s.map := rfl
@[simp] theorem setLane_hold (l : LaneId) (r : Lane) : (setLane l r s).hold = s.hold := rfl
@[simp] theorem setLane_egress (l : LaneId) (r : Lane) : (setLane l r s).egress = s.egress := rfl
@[simp] theorem setLane_generators (l : LaneId) (r : Lane) : (setLane l r s).generators = s.generators := rfl
@[simp] theorem setLane_checkers (l : LaneId) (r : Lane) : (setLane l r s).checkers = s.checkers := rfl
@[simp] theorem setLane_channel (l : LaneId) (r : Lane) : (setLane l r s).channel = s.channel := rfl
@[simp] theorem setLane_dispatcher (l : LaneId) (r : Lane) : (setLane l r s).dispatcher = s.dispatcher := rfl
@[simp] theorem setLane_notices (l : LaneId) (r : Lane) : (setLane l r s).notices = s.notices := rfl
@[simp] theorem setLane_loader (l : LaneId) (r : Lane) : (setLane l r s).loader = s.loader := rfl
@[simp] theorem setLane_params (l : LaneId) (r : Lane) : (setLane l r s).params = s.params := rfl
@[simp] theorem setLane_address (l : LaneId) (r : Lane) : (setLane l r s).address = s.address := rfl
@[simp] theorem setLane_straps (l : LaneId) (r : Lane) : (setLane l r s).straps = s.straps := rfl
@[simp] theorem setLane_starts (l : LaneId) (r : Lane) : (setLane l r s).starts = s.starts := rfl
@[simp] theorem setLane_draws (l : LaneId) (r : Lane) : (setLane l r s).draws = s.draws := rfl
@[simp] theorem setLane_pending (l : LaneId) (r : Lane) : (setLane l r s).pending = s.pending := rfl

/-! `setStore` -/

@[simp] theorem setStore_lanes (l : LaneId) (r : Store) : (setStore l r s).lanes = s.lanes := rfl
@[simp] theorem setStore_stores (l : LaneId) (r : Store) : (setStore l r s).stores = s.stores.set l r := rfl
@[simp] theorem setStore_survey (l : LaneId) (r : Store) : (setStore l r s).survey = s.survey := rfl
@[simp] theorem setStore_timing (l : LaneId) (r : Store) : (setStore l r s).timing = s.timing := rfl
@[simp] theorem setStore_map (l : LaneId) (r : Store) : (setStore l r s).map = s.map := rfl
@[simp] theorem setStore_hold (l : LaneId) (r : Store) : (setStore l r s).hold = s.hold := rfl
@[simp] theorem setStore_egress (l : LaneId) (r : Store) : (setStore l r s).egress = s.egress := rfl
@[simp] theorem setStore_generators (l : LaneId) (r : Store) : (setStore l r s).generators = s.generators := rfl
@[simp] theorem setStore_checkers (l : LaneId) (r : Store) : (setStore l r s).checkers = s.checkers := rfl
@[simp] theorem setStore_channel (l : LaneId) (r : Store) : (setStore l r s).channel = s.channel := rfl
@[simp] theorem setStore_dispatcher (l : LaneId) (r : Store) : (setStore l r s).dispatcher = s.dispatcher := rfl
@[simp] theorem setStore_notices (l : LaneId) (r : Store) : (setStore l r s).notices = s.notices := rfl
@[simp] theorem setStore_loader (l : LaneId) (r : Store) : (setStore l r s).loader = s.loader := rfl
@[simp] theorem setStore_params (l : LaneId) (r : Store) : (setStore l r s).params = s.params := rfl
@[simp] theorem setStore_address (l : LaneId) (r : Store) : (setStore l r s).address = s.address := rfl
@[simp] theorem setStore_straps (l : LaneId) (r : Store) : (setStore l r s).straps = s.straps := rfl
@[simp] theorem setStore_starts (l : LaneId) (r : Store) : (setStore l r s).starts = s.starts := rfl
@[simp] theorem setStore_draws (l : LaneId) (r : Store) : (setStore l r s).draws = s.draws := rfl
@[simp] theorem setStore_pending (l : LaneId) (r : Store) : (setStore l r s).pending = s.pending := rfl

/-! `setChecker` -/

@[simp] theorem setChecker_lanes (c : CheckerId) (k : Checker) : (setChecker c k s).lanes = s.lanes := rfl
@[simp] theorem setChecker_stores (c : CheckerId) (k : Checker) : (setChecker c k s).stores = s.stores := rfl
@[simp] theorem setChecker_survey (c : CheckerId) (k : Checker) : (setChecker c k s).survey = s.survey := rfl
@[simp] theorem setChecker_timing (c : CheckerId) (k : Checker) : (setChecker c k s).timing = s.timing := rfl
@[simp] theorem setChecker_map (c : CheckerId) (k : Checker) : (setChecker c k s).map = s.map := rfl
@[simp] theorem setChecker_hold (c : CheckerId) (k : Checker) : (setChecker c k s).hold = s.hold := rfl
@[simp] theorem setChecker_egress (c : CheckerId) (k : Checker) : (setChecker c k s).egress = s.egress := rfl
@[simp] theorem setChecker_generators (c : CheckerId) (k : Checker) :
    (setChecker c k s).generators = s.generators := rfl
@[simp] theorem setChecker_checkers (c : CheckerId) (k : Checker) :
    (setChecker c k s).checkers = s.checkers.set c k := rfl
@[simp] theorem setChecker_channel (c : CheckerId) (k : Checker) : (setChecker c k s).channel = s.channel := rfl
@[simp] theorem setChecker_dispatcher (c : CheckerId) (k : Checker) :
    (setChecker c k s).dispatcher = s.dispatcher := rfl
@[simp] theorem setChecker_notices (c : CheckerId) (k : Checker) : (setChecker c k s).notices = s.notices := rfl
@[simp] theorem setChecker_loader (c : CheckerId) (k : Checker) : (setChecker c k s).loader = s.loader := rfl
@[simp] theorem setChecker_params (c : CheckerId) (k : Checker) : (setChecker c k s).params = s.params := rfl
@[simp] theorem setChecker_address (c : CheckerId) (k : Checker) : (setChecker c k s).address = s.address := rfl
@[simp] theorem setChecker_straps (c : CheckerId) (k : Checker) : (setChecker c k s).straps = s.straps := rfl
@[simp] theorem setChecker_starts (c : CheckerId) (k : Checker) : (setChecker c k s).starts = s.starts := rfl
@[simp] theorem setChecker_draws (c : CheckerId) (k : Checker) : (setChecker c k s).draws = s.draws := rfl
@[simp] theorem setChecker_pending (c : CheckerId) (k : Checker) : (setChecker c k s).pending = s.pending := rfl

/-! `setParser` -/

@[simp] theorem setParser_lanes (p : Option OpenMessage) : (setParser p s).lanes = s.lanes := rfl
@[simp] theorem setParser_stores (p : Option OpenMessage) : (setParser p s).stores = s.stores := rfl
@[simp] theorem setParser_survey (p : Option OpenMessage) : (setParser p s).survey = s.survey := rfl
@[simp] theorem setParser_timing (p : Option OpenMessage) : (setParser p s).timing = s.timing := rfl
@[simp] theorem setParser_map (p : Option OpenMessage) : (setParser p s).map = s.map := rfl
@[simp] theorem setParser_hold (p : Option OpenMessage) : (setParser p s).hold = s.hold := rfl
@[simp] theorem setParser_egress (p : Option OpenMessage) : (setParser p s).egress = s.egress := rfl
@[simp] theorem setParser_generators (p : Option OpenMessage) : (setParser p s).generators = s.generators := rfl
@[simp] theorem setParser_checkers (p : Option OpenMessage) : (setParser p s).checkers = s.checkers := rfl
@[simp] theorem setParser_channel (p : Option OpenMessage) :
    (setParser p s).channel = { s.channel with parser := p } := rfl
@[simp] theorem setParser_dispatcher (p : Option OpenMessage) : (setParser p s).dispatcher = s.dispatcher := rfl
@[simp] theorem setParser_notices (p : Option OpenMessage) : (setParser p s).notices = s.notices := rfl
@[simp] theorem setParser_loader (p : Option OpenMessage) : (setParser p s).loader = s.loader := rfl
@[simp] theorem setParser_params (p : Option OpenMessage) : (setParser p s).params = s.params := rfl
@[simp] theorem setParser_address (p : Option OpenMessage) : (setParser p s).address = s.address := rfl
@[simp] theorem setParser_straps (p : Option OpenMessage) : (setParser p s).straps = s.straps := rfl
@[simp] theorem setParser_starts (p : Option OpenMessage) : (setParser p s).starts = s.starts := rfl
@[simp] theorem setParser_draws (p : Option OpenMessage) : (setParser p s).draws = s.draws := rfl
@[simp] theorem setParser_pending (p : Option OpenMessage) : (setParser p s).pending = s.pending := rfl

/-! `setChange` -/

@[simp] theorem setChange_lanes (c : Option LaneChange) : (setChange c s).lanes = s.lanes := rfl
@[simp] theorem setChange_stores (c : Option LaneChange) : (setChange c s).stores = s.stores := rfl
@[simp] theorem setChange_survey (c : Option LaneChange) : (setChange c s).survey = s.survey := rfl
@[simp] theorem setChange_timing (c : Option LaneChange) : (setChange c s).timing = s.timing := rfl
@[simp] theorem setChange_map (c : Option LaneChange) : (setChange c s).map = s.map := rfl
@[simp] theorem setChange_hold (c : Option LaneChange) : (setChange c s).hold = s.hold := rfl
@[simp] theorem setChange_egress (c : Option LaneChange) : (setChange c s).egress = s.egress := rfl
@[simp] theorem setChange_generators (c : Option LaneChange) : (setChange c s).generators = s.generators := rfl
@[simp] theorem setChange_checkers (c : Option LaneChange) : (setChange c s).checkers = s.checkers := rfl
@[simp] theorem setChange_channel (c : Option LaneChange) : (setChange c s).channel = s.channel := rfl
@[simp] theorem setChange_dispatcher (c : Option LaneChange) :
    (setChange c s).dispatcher = { s.dispatcher with change := c } := rfl
@[simp] theorem setChange_notices (c : Option LaneChange) : (setChange c s).notices = s.notices := rfl
@[simp] theorem setChange_loader (c : Option LaneChange) : (setChange c s).loader = s.loader := rfl
@[simp] theorem setChange_params (c : Option LaneChange) : (setChange c s).params = s.params := rfl
@[simp] theorem setChange_address (c : Option LaneChange) : (setChange c s).address = s.address := rfl
@[simp] theorem setChange_straps (c : Option LaneChange) : (setChange c s).straps = s.straps := rfl
@[simp] theorem setChange_starts (c : Option LaneChange) : (setChange c s).starts = s.starts := rfl
@[simp] theorem setChange_draws (c : Option LaneChange) : (setChange c s).draws = s.draws := rfl
@[simp] theorem setChange_pending (c : Option LaneChange) : (setChange c s).pending = s.pending := rfl

/-! `setPassOver` -/

@[simp] theorem setPassOver_lanes (n : Nat) : (setPassOver n s).lanes = s.lanes := rfl
@[simp] theorem setPassOver_stores (n : Nat) : (setPassOver n s).stores = s.stores := rfl
@[simp] theorem setPassOver_survey (n : Nat) : (setPassOver n s).survey = s.survey := rfl
@[simp] theorem setPassOver_timing (n : Nat) : (setPassOver n s).timing = s.timing := rfl
@[simp] theorem setPassOver_map (n : Nat) : (setPassOver n s).map = s.map := rfl
@[simp] theorem setPassOver_hold (n : Nat) : (setPassOver n s).hold = s.hold := rfl
@[simp] theorem setPassOver_egress (n : Nat) : (setPassOver n s).egress = s.egress := rfl
@[simp] theorem setPassOver_generators (n : Nat) : (setPassOver n s).generators = s.generators := rfl
@[simp] theorem setPassOver_checkers (n : Nat) : (setPassOver n s).checkers = s.checkers := rfl
@[simp] theorem setPassOver_channel (n : Nat) : (setPassOver n s).channel = { s.channel with passOver := n } := rfl
@[simp] theorem setPassOver_dispatcher (n : Nat) : (setPassOver n s).dispatcher = s.dispatcher := rfl
@[simp] theorem setPassOver_notices (n : Nat) : (setPassOver n s).notices = s.notices := rfl
@[simp] theorem setPassOver_loader (n : Nat) : (setPassOver n s).loader = s.loader := rfl
@[simp] theorem setPassOver_params (n : Nat) : (setPassOver n s).params = s.params := rfl
@[simp] theorem setPassOver_address (n : Nat) : (setPassOver n s).address = s.address := rfl
@[simp] theorem setPassOver_straps (n : Nat) : (setPassOver n s).straps = s.straps := rfl
@[simp] theorem setPassOver_starts (n : Nat) : (setPassOver n s).starts = s.starts := rfl
@[simp] theorem setPassOver_draws (n : Nat) : (setPassOver n s).draws = s.draws := rfl
@[simp] theorem setPassOver_pending (n : Nat) : (setPassOver n s).pending = s.pending := rfl

/-! `setMgmtLanes` -/

@[simp] theorem setMgmtLanes_lanes (i e : LaneId) : (setMgmtLanes i e s).lanes = s.lanes := rfl
@[simp] theorem setMgmtLanes_stores (i e : LaneId) : (setMgmtLanes i e s).stores = s.stores := rfl
@[simp] theorem setMgmtLanes_survey (i e : LaneId) : (setMgmtLanes i e s).survey = s.survey := rfl
@[simp] theorem setMgmtLanes_timing (i e : LaneId) : (setMgmtLanes i e s).timing = s.timing := rfl
@[simp] theorem setMgmtLanes_map (i e : LaneId) : (setMgmtLanes i e s).map = s.map := rfl
@[simp] theorem setMgmtLanes_hold (i e : LaneId) : (setMgmtLanes i e s).hold = s.hold := rfl
@[simp] theorem setMgmtLanes_egress (i e : LaneId) : (setMgmtLanes i e s).egress = s.egress := rfl
@[simp] theorem setMgmtLanes_generators (i e : LaneId) : (setMgmtLanes i e s).generators = s.generators := rfl
@[simp] theorem setMgmtLanes_checkers (i e : LaneId) : (setMgmtLanes i e s).checkers = s.checkers := rfl
@[simp] theorem setMgmtLanes_channel (i e : LaneId) :
    (setMgmtLanes i e s).channel = { s.channel with mgmtIngress := i, mgmtEgress := e } := rfl
@[simp] theorem setMgmtLanes_dispatcher (i e : LaneId) : (setMgmtLanes i e s).dispatcher = s.dispatcher := rfl
@[simp] theorem setMgmtLanes_notices (i e : LaneId) : (setMgmtLanes i e s).notices = s.notices := rfl
@[simp] theorem setMgmtLanes_loader (i e : LaneId) : (setMgmtLanes i e s).loader = s.loader := rfl
@[simp] theorem setMgmtLanes_params (i e : LaneId) : (setMgmtLanes i e s).params = s.params := rfl
@[simp] theorem setMgmtLanes_address (i e : LaneId) : (setMgmtLanes i e s).address = s.address := rfl
@[simp] theorem setMgmtLanes_straps (i e : LaneId) : (setMgmtLanes i e s).straps = s.straps := rfl
@[simp] theorem setMgmtLanes_starts (i e : LaneId) : (setMgmtLanes i e s).starts = s.starts := rfl
@[simp] theorem setMgmtLanes_draws (i e : LaneId) : (setMgmtLanes i e s).draws = s.draws := rfl
@[simp] theorem setMgmtLanes_pending (i e : LaneId) : (setMgmtLanes i e s).pending = s.pending := rfl

/-! `pushWord` -/

@[simp] theorem pushWord_lanes (w : Word) : (pushWord w s).lanes = s.lanes := rfl
@[simp] theorem pushWord_stores (w : Word) : (pushWord w s).stores = s.stores := rfl
@[simp] theorem pushWord_survey (w : Word) : (pushWord w s).survey = s.survey := rfl
@[simp] theorem pushWord_timing (w : Word) : (pushWord w s).timing = s.timing := rfl
@[simp] theorem pushWord_map (w : Word) : (pushWord w s).map = s.map := rfl
@[simp] theorem pushWord_hold (w : Word) : (pushWord w s).hold = s.hold := rfl
@[simp] theorem pushWord_egress (w : Word) : (pushWord w s).egress = s.egress := rfl
@[simp] theorem pushWord_generators (w : Word) : (pushWord w s).generators = s.generators := rfl
@[simp] theorem pushWord_checkers (w : Word) : (pushWord w s).checkers = s.checkers := rfl
@[simp] theorem pushWord_channel (w : Word) :
    (pushWord w s).channel = { s.channel with fifo := s.channel.fifo ++ [{ word := w, entered := s.starts }] } := rfl
@[simp] theorem pushWord_dispatcher (w : Word) : (pushWord w s).dispatcher = s.dispatcher := rfl
@[simp] theorem pushWord_notices (w : Word) : (pushWord w s).notices = s.notices := rfl
@[simp] theorem pushWord_loader (w : Word) : (pushWord w s).loader = s.loader := rfl
@[simp] theorem pushWord_params (w : Word) : (pushWord w s).params = s.params := rfl
@[simp] theorem pushWord_address (w : Word) : (pushWord w s).address = s.address := rfl
@[simp] theorem pushWord_straps (w : Word) : (pushWord w s).straps = s.straps := rfl
@[simp] theorem pushWord_starts (w : Word) : (pushWord w s).starts = s.starts := rfl
@[simp] theorem pushWord_draws (w : Word) : (pushWord w s).draws = s.draws := rfl
@[simp] theorem pushWord_pending (w : Word) : (pushWord w s).pending = s.pending := rfl

/-! `oweAbort` -/

@[simp] theorem oweAbort_lanes : (oweAbort s).lanes = s.lanes := rfl
@[simp] theorem oweAbort_stores : (oweAbort s).stores = s.stores := rfl
@[simp] theorem oweAbort_survey : (oweAbort s).survey = s.survey := rfl
@[simp] theorem oweAbort_timing : (oweAbort s).timing = s.timing := rfl
@[simp] theorem oweAbort_map : (oweAbort s).map = s.map := rfl
@[simp] theorem oweAbort_hold : (oweAbort s).hold = s.hold := rfl
@[simp] theorem oweAbort_egress : (oweAbort s).egress = s.egress := rfl
@[simp] theorem oweAbort_generators : (oweAbort s).generators = s.generators := rfl
@[simp] theorem oweAbort_checkers : (oweAbort s).checkers = s.checkers := rfl
@[simp] theorem oweAbort_channel : (oweAbort s).channel = { s.channel with abortOwed := true } := rfl
@[simp] theorem oweAbort_dispatcher : (oweAbort s).dispatcher = s.dispatcher := rfl
@[simp] theorem oweAbort_notices : (oweAbort s).notices = s.notices := rfl
@[simp] theorem oweAbort_loader : (oweAbort s).loader = s.loader := rfl
@[simp] theorem oweAbort_params : (oweAbort s).params = s.params := rfl
@[simp] theorem oweAbort_address : (oweAbort s).address = s.address := rfl
@[simp] theorem oweAbort_straps : (oweAbort s).straps = s.straps := rfl
@[simp] theorem oweAbort_starts : (oweAbort s).starts = s.starts := rfl
@[simp] theorem oweAbort_draws : (oweAbort s).draws = s.draws := rfl
@[simp] theorem oweAbort_pending : (oweAbort s).pending = s.pending := rfl

/-! `strayWord` -/

@[simp] theorem strayWord_lanes : (strayWord s).lanes = s.lanes := rfl
@[simp] theorem strayWord_stores : (strayWord s).stores = s.stores := rfl
@[simp] theorem strayWord_survey : (strayWord s).survey = s.survey := rfl
@[simp] theorem strayWord_timing : (strayWord s).timing = s.timing := rfl
@[simp] theorem strayWord_map : (strayWord s).map = s.map := rfl
@[simp] theorem strayWord_hold : (strayWord s).hold = s.hold := rfl
@[simp] theorem strayWord_egress : (strayWord s).egress = s.egress := rfl
@[simp] theorem strayWord_generators : (strayWord s).generators = s.generators := rfl
@[simp] theorem strayWord_checkers : (strayWord s).checkers = s.checkers := rfl
@[simp] theorem strayWord_channel : (strayWord s).channel = { s.channel with stray := bump s.channel.stray } := rfl
@[simp] theorem strayWord_dispatcher : (strayWord s).dispatcher = s.dispatcher := rfl
@[simp] theorem strayWord_notices : (strayWord s).notices = s.notices := rfl
@[simp] theorem strayWord_loader : (strayWord s).loader = s.loader := rfl
@[simp] theorem strayWord_params : (strayWord s).params = s.params := rfl
@[simp] theorem strayWord_address : (strayWord s).address = s.address := rfl
@[simp] theorem strayWord_straps : (strayWord s).straps = s.straps := rfl
@[simp] theorem strayWord_starts : (strayWord s).starts = s.starts := rfl
@[simp] theorem strayWord_draws : (strayWord s).draws = s.draws := rfl
@[simp] theorem strayWord_pending : (strayWord s).pending = s.pending := rfl

/-! `countBadCheck` -/

@[simp] theorem countBadCheck_lanes : (countBadCheck s).lanes = s.lanes := rfl
@[simp] theorem countBadCheck_stores : (countBadCheck s).stores = s.stores := rfl
@[simp] theorem countBadCheck_survey : (countBadCheck s).survey = s.survey := rfl
@[simp] theorem countBadCheck_timing : (countBadCheck s).timing = s.timing := rfl
@[simp] theorem countBadCheck_map : (countBadCheck s).map = s.map := rfl
@[simp] theorem countBadCheck_hold : (countBadCheck s).hold = s.hold := rfl
@[simp] theorem countBadCheck_egress : (countBadCheck s).egress = s.egress := rfl
@[simp] theorem countBadCheck_generators : (countBadCheck s).generators = s.generators := rfl
@[simp] theorem countBadCheck_checkers : (countBadCheck s).checkers = s.checkers := rfl
@[simp] theorem countBadCheck_channel :
    (countBadCheck s).channel = { s.channel with badCheck := bump s.channel.badCheck } := rfl
@[simp] theorem countBadCheck_dispatcher : (countBadCheck s).dispatcher = s.dispatcher := rfl
@[simp] theorem countBadCheck_notices : (countBadCheck s).notices = s.notices := rfl
@[simp] theorem countBadCheck_loader : (countBadCheck s).loader = s.loader := rfl
@[simp] theorem countBadCheck_params : (countBadCheck s).params = s.params := rfl
@[simp] theorem countBadCheck_address : (countBadCheck s).address = s.address := rfl
@[simp] theorem countBadCheck_straps : (countBadCheck s).straps = s.straps := rfl
@[simp] theorem countBadCheck_starts : (countBadCheck s).starts = s.starts := rfl
@[simp] theorem countBadCheck_draws : (countBadCheck s).draws = s.draws := rfl
@[simp] theorem countBadCheck_pending : (countBadCheck s).pending = s.pending := rfl

/-! `placeMessage` -/

@[simp] theorem placeMessage_lanes (k : OutgoingKind) (ws : List Word) : (placeMessage k ws s).lanes = s.lanes := rfl
@[simp] theorem placeMessage_stores (k : OutgoingKind) (ws : List Word) :
    (placeMessage k ws s).stores = s.stores := rfl
@[simp] theorem placeMessage_survey (k : OutgoingKind) (ws : List Word) :
    (placeMessage k ws s).survey = s.survey := rfl
@[simp] theorem placeMessage_timing (k : OutgoingKind) (ws : List Word) :
    (placeMessage k ws s).timing = s.timing := rfl
@[simp] theorem placeMessage_map (k : OutgoingKind) (ws : List Word) : (placeMessage k ws s).map = s.map := rfl
@[simp] theorem placeMessage_hold (k : OutgoingKind) (ws : List Word) : (placeMessage k ws s).hold = s.hold := rfl
@[simp] theorem placeMessage_egress (k : OutgoingKind) (ws : List Word) :
    (placeMessage k ws s).egress = s.egress := rfl
@[simp] theorem placeMessage_generators (k : OutgoingKind) (ws : List Word) :
    (placeMessage k ws s).generators = s.generators := rfl
@[simp] theorem placeMessage_checkers (k : OutgoingKind) (ws : List Word) :
    (placeMessage k ws s).checkers = s.checkers := rfl
@[simp] theorem placeMessage_channel (k : OutgoingKind) (ws : List Word) :
    (placeMessage k ws s).channel = { s.channel with outgoing := s.channel.outgoing ++ [{ kind := k, words := ws, given := 0, placed := s.starts }] } := rfl
@[simp] theorem placeMessage_dispatcher (k : OutgoingKind) (ws : List Word) :
    (placeMessage k ws s).dispatcher = s.dispatcher := rfl
@[simp] theorem placeMessage_notices (k : OutgoingKind) (ws : List Word) :
    (placeMessage k ws s).notices = s.notices := rfl
@[simp] theorem placeMessage_loader (k : OutgoingKind) (ws : List Word) :
    (placeMessage k ws s).loader = s.loader := rfl
@[simp] theorem placeMessage_params (k : OutgoingKind) (ws : List Word) :
    (placeMessage k ws s).params = s.params := rfl
@[simp] theorem placeMessage_address (k : OutgoingKind) (ws : List Word) :
    (placeMessage k ws s).address = s.address := rfl
@[simp] theorem placeMessage_straps (k : OutgoingKind) (ws : List Word) :
    (placeMessage k ws s).straps = s.straps := rfl
@[simp] theorem placeMessage_starts (k : OutgoingKind) (ws : List Word) :
    (placeMessage k ws s).starts = s.starts := rfl
@[simp] theorem placeMessage_draws (k : OutgoingKind) (ws : List Word) : (placeMessage k ws s).draws = s.draws := rfl
@[simp] theorem placeMessage_pending (k : OutgoingKind) (ws : List Word) :
    (placeMessage k ws s).pending = s.pending := rfl

/-! `appendIntake` -/

@[simp] theorem appendIntake_lanes (m : IntakeMessage) : (appendIntake m s).lanes = s.lanes := rfl
@[simp] theorem appendIntake_stores (m : IntakeMessage) : (appendIntake m s).stores = s.stores := rfl
@[simp] theorem appendIntake_survey (m : IntakeMessage) : (appendIntake m s).survey = s.survey := rfl
@[simp] theorem appendIntake_timing (m : IntakeMessage) : (appendIntake m s).timing = s.timing := rfl
@[simp] theorem appendIntake_map (m : IntakeMessage) : (appendIntake m s).map = s.map := rfl
@[simp] theorem appendIntake_hold (m : IntakeMessage) : (appendIntake m s).hold = s.hold := rfl
@[simp] theorem appendIntake_egress (m : IntakeMessage) : (appendIntake m s).egress = s.egress := rfl
@[simp] theorem appendIntake_generators (m : IntakeMessage) : (appendIntake m s).generators = s.generators := rfl
@[simp] theorem appendIntake_checkers (m : IntakeMessage) : (appendIntake m s).checkers = s.checkers := rfl
@[simp] theorem appendIntake_channel (m : IntakeMessage) :
    (appendIntake m s).channel = { s.channel with intake := s.channel.intake ++ [m] } := rfl
@[simp] theorem appendIntake_dispatcher (m : IntakeMessage) : (appendIntake m s).dispatcher = s.dispatcher := rfl
@[simp] theorem appendIntake_notices (m : IntakeMessage) : (appendIntake m s).notices = s.notices := rfl
@[simp] theorem appendIntake_loader (m : IntakeMessage) : (appendIntake m s).loader = s.loader := rfl
@[simp] theorem appendIntake_params (m : IntakeMessage) : (appendIntake m s).params = s.params := rfl
@[simp] theorem appendIntake_address (m : IntakeMessage) : (appendIntake m s).address = s.address := rfl
@[simp] theorem appendIntake_straps (m : IntakeMessage) : (appendIntake m s).straps = s.straps := rfl
@[simp] theorem appendIntake_starts (m : IntakeMessage) : (appendIntake m s).starts = s.starts := rfl
@[simp] theorem appendIntake_draws (m : IntakeMessage) : (appendIntake m s).draws = s.draws := rfl
@[simp] theorem appendIntake_pending (m : IntakeMessage) : (appendIntake m s).pending = s.pending := rfl

/-! `popIntake` -/

@[simp] theorem popIntake_lanes : (popIntake s).lanes = s.lanes := rfl
@[simp] theorem popIntake_stores : (popIntake s).stores = s.stores := rfl
@[simp] theorem popIntake_survey : (popIntake s).survey = s.survey := rfl
@[simp] theorem popIntake_timing : (popIntake s).timing = s.timing := rfl
@[simp] theorem popIntake_map : (popIntake s).map = s.map := rfl
@[simp] theorem popIntake_hold : (popIntake s).hold = s.hold := rfl
@[simp] theorem popIntake_egress : (popIntake s).egress = s.egress := rfl
@[simp] theorem popIntake_generators : (popIntake s).generators = s.generators := rfl
@[simp] theorem popIntake_checkers : (popIntake s).checkers = s.checkers := rfl
@[simp] theorem popIntake_channel : (popIntake s).channel = { s.channel with intake := s.channel.intake.tail } := rfl
@[simp] theorem popIntake_dispatcher : (popIntake s).dispatcher = s.dispatcher := rfl
@[simp] theorem popIntake_notices : (popIntake s).notices = s.notices := rfl
@[simp] theorem popIntake_loader : (popIntake s).loader = s.loader := rfl
@[simp] theorem popIntake_params : (popIntake s).params = s.params := rfl
@[simp] theorem popIntake_address : (popIntake s).address = s.address := rfl
@[simp] theorem popIntake_straps : (popIntake s).straps = s.straps := rfl
@[simp] theorem popIntake_starts : (popIntake s).starts = s.starts := rfl
@[simp] theorem popIntake_draws : (popIntake s).draws = s.draws := rfl
@[simp] theorem popIntake_pending : (popIntake s).pending = s.pending := rfl

/-! `popOutgoing` -/

@[simp] theorem popOutgoing_lanes : (popOutgoing s).lanes = s.lanes := rfl
@[simp] theorem popOutgoing_stores : (popOutgoing s).stores = s.stores := rfl
@[simp] theorem popOutgoing_survey : (popOutgoing s).survey = s.survey := rfl
@[simp] theorem popOutgoing_timing : (popOutgoing s).timing = s.timing := rfl
@[simp] theorem popOutgoing_map : (popOutgoing s).map = s.map := rfl
@[simp] theorem popOutgoing_hold : (popOutgoing s).hold = s.hold := rfl
@[simp] theorem popOutgoing_egress : (popOutgoing s).egress = s.egress := rfl
@[simp] theorem popOutgoing_generators : (popOutgoing s).generators = s.generators := rfl
@[simp] theorem popOutgoing_checkers : (popOutgoing s).checkers = s.checkers := rfl
@[simp] theorem popOutgoing_channel :
    (popOutgoing s).channel = { s.channel with outgoing := s.channel.outgoing.tail } := rfl
@[simp] theorem popOutgoing_dispatcher : (popOutgoing s).dispatcher = s.dispatcher := rfl
@[simp] theorem popOutgoing_notices : (popOutgoing s).notices = s.notices := rfl
@[simp] theorem popOutgoing_loader : (popOutgoing s).loader = s.loader := rfl
@[simp] theorem popOutgoing_params : (popOutgoing s).params = s.params := rfl
@[simp] theorem popOutgoing_address : (popOutgoing s).address = s.address := rfl
@[simp] theorem popOutgoing_straps : (popOutgoing s).straps = s.straps := rfl
@[simp] theorem popOutgoing_starts : (popOutgoing s).starts = s.starts := rfl
@[simp] theorem popOutgoing_draws : (popOutgoing s).draws = s.draws := rfl
@[simp] theorem popOutgoing_pending : (popOutgoing s).pending = s.pending := rfl

/-! `cacheReply` -/

@[simp] theorem cacheReply_lanes (e : CacheEntry) : (cacheReply e s).lanes = s.lanes := rfl
@[simp] theorem cacheReply_stores (e : CacheEntry) : (cacheReply e s).stores = s.stores := rfl
@[simp] theorem cacheReply_survey (e : CacheEntry) : (cacheReply e s).survey = s.survey := rfl
@[simp] theorem cacheReply_timing (e : CacheEntry) : (cacheReply e s).timing = s.timing := rfl
@[simp] theorem cacheReply_map (e : CacheEntry) : (cacheReply e s).map = s.map := rfl
@[simp] theorem cacheReply_hold (e : CacheEntry) : (cacheReply e s).hold = s.hold := rfl
@[simp] theorem cacheReply_egress (e : CacheEntry) : (cacheReply e s).egress = s.egress := rfl
@[simp] theorem cacheReply_generators (e : CacheEntry) : (cacheReply e s).generators = s.generators := rfl
@[simp] theorem cacheReply_checkers (e : CacheEntry) : (cacheReply e s).checkers = s.checkers := rfl
@[simp] theorem cacheReply_channel (e : CacheEntry) :
    (cacheReply e s).channel = { s.channel with cache := (e :: s.channel.cache).take Config.cacheDepth } := rfl
@[simp] theorem cacheReply_dispatcher (e : CacheEntry) : (cacheReply e s).dispatcher = s.dispatcher := rfl
@[simp] theorem cacheReply_notices (e : CacheEntry) : (cacheReply e s).notices = s.notices := rfl
@[simp] theorem cacheReply_loader (e : CacheEntry) : (cacheReply e s).loader = s.loader := rfl
@[simp] theorem cacheReply_params (e : CacheEntry) : (cacheReply e s).params = s.params := rfl
@[simp] theorem cacheReply_address (e : CacheEntry) : (cacheReply e s).address = s.address := rfl
@[simp] theorem cacheReply_straps (e : CacheEntry) : (cacheReply e s).straps = s.straps := rfl
@[simp] theorem cacheReply_starts (e : CacheEntry) : (cacheReply e s).starts = s.starts := rfl
@[simp] theorem cacheReply_draws (e : CacheEntry) : (cacheReply e s).draws = s.draws := rfl
@[simp] theorem cacheReply_pending (e : CacheEntry) : (cacheReply e s).pending = s.pending := rfl

/-! `dropGroup` -/

@[simp] theorem dropGroup_lanes : (dropGroup s).lanes = s.lanes := rfl
@[simp] theorem dropGroup_stores : (dropGroup s).stores = s.stores := rfl
@[simp] theorem dropGroup_survey : (dropGroup s).survey = s.survey := rfl
@[simp] theorem dropGroup_timing : (dropGroup s).timing = s.timing := rfl
@[simp] theorem dropGroup_map : (dropGroup s).map = s.map := rfl
@[simp] theorem dropGroup_hold : (dropGroup s).hold = s.hold := rfl
@[simp] theorem dropGroup_egress : (dropGroup s).egress = s.egress := rfl
@[simp] theorem dropGroup_generators : (dropGroup s).generators = s.generators := rfl
@[simp] theorem dropGroup_checkers : (dropGroup s).checkers = s.checkers := rfl
@[simp] theorem dropGroup_channel :
    (dropGroup s).channel = { s.channel with group := { s.channel.group with dropped := bump s.channel.group.dropped } } := rfl
@[simp] theorem dropGroup_dispatcher : (dropGroup s).dispatcher = s.dispatcher := rfl
@[simp] theorem dropGroup_notices : (dropGroup s).notices = s.notices := rfl
@[simp] theorem dropGroup_loader : (dropGroup s).loader = s.loader := rfl
@[simp] theorem dropGroup_params : (dropGroup s).params = s.params := rfl
@[simp] theorem dropGroup_address : (dropGroup s).address = s.address := rfl
@[simp] theorem dropGroup_straps : (dropGroup s).straps = s.straps := rfl
@[simp] theorem dropGroup_starts : (dropGroup s).starts = s.starts := rfl
@[simp] theorem dropGroup_draws : (dropGroup s).draws = s.draws := rfl
@[simp] theorem dropGroup_pending : (dropGroup s).pending = s.pending := rfl

/-! `takeSerial` -/

@[simp] theorem takeSerial_lanes : (takeSerial s).lanes = s.lanes := rfl
@[simp] theorem takeSerial_stores : (takeSerial s).stores = s.stores := rfl
@[simp] theorem takeSerial_survey : (takeSerial s).survey = s.survey := rfl
@[simp] theorem takeSerial_timing : (takeSerial s).timing = s.timing := rfl
@[simp] theorem takeSerial_map : (takeSerial s).map = s.map := rfl
@[simp] theorem takeSerial_hold : (takeSerial s).hold = s.hold := rfl
@[simp] theorem takeSerial_egress : (takeSerial s).egress = s.egress := rfl
@[simp] theorem takeSerial_generators : (takeSerial s).generators = s.generators := rfl
@[simp] theorem takeSerial_checkers : (takeSerial s).checkers = s.checkers := rfl
@[simp] theorem takeSerial_channel : (takeSerial s).channel = s.channel := rfl
@[simp] theorem takeSerial_dispatcher :
    (takeSerial s).dispatcher = { s.dispatcher with nextSerial := s.dispatcher.nextSerial + 1 } := rfl
@[simp] theorem takeSerial_notices : (takeSerial s).notices = s.notices := rfl
@[simp] theorem takeSerial_loader : (takeSerial s).loader = s.loader := rfl
@[simp] theorem takeSerial_params : (takeSerial s).params = s.params := rfl
@[simp] theorem takeSerial_address : (takeSerial s).address = s.address := rfl
@[simp] theorem takeSerial_straps : (takeSerial s).straps = s.straps := rfl
@[simp] theorem takeSerial_starts : (takeSerial s).starts = s.starts := rfl
@[simp] theorem takeSerial_draws : (takeSerial s).draws = s.draws := rfl
@[simp] theorem takeSerial_pending : (takeSerial s).pending = s.pending := rfl

/-! `drawn` -/

@[simp] theorem drawn_lanes : (drawn s).lanes = s.lanes := rfl
@[simp] theorem drawn_stores : (drawn s).stores = s.stores := rfl
@[simp] theorem drawn_survey : (drawn s).survey = s.survey := rfl
@[simp] theorem drawn_timing : (drawn s).timing = s.timing := rfl
@[simp] theorem drawn_map : (drawn s).map = s.map := rfl
@[simp] theorem drawn_hold : (drawn s).hold = s.hold := rfl
@[simp] theorem drawn_egress : (drawn s).egress = s.egress := rfl
@[simp] theorem drawn_generators : (drawn s).generators = s.generators := rfl
@[simp] theorem drawn_checkers : (drawn s).checkers = s.checkers := rfl
@[simp] theorem drawn_channel : (drawn s).channel = s.channel := rfl
@[simp] theorem drawn_dispatcher : (drawn s).dispatcher = s.dispatcher := rfl
@[simp] theorem drawn_notices : (drawn s).notices = s.notices := rfl
@[simp] theorem drawn_loader : (drawn s).loader = s.loader := rfl
@[simp] theorem drawn_params : (drawn s).params = s.params := rfl
@[simp] theorem drawn_address : (drawn s).address = s.address := rfl
@[simp] theorem drawn_straps : (drawn s).straps = s.straps := rfl
@[simp] theorem drawn_starts : (drawn s).starts = s.starts := rfl
@[simp] theorem drawn_draws : (drawn s).draws = s.draws + 1 := rfl
@[simp] theorem drawn_pending : (drawn s).pending = s.pending := rfl

/-! `requestCommit` -/

@[simp] theorem requestCommit_lanes : (requestCommit s).lanes = s.lanes := rfl
@[simp] theorem requestCommit_stores : (requestCommit s).stores = s.stores := rfl
@[simp] theorem requestCommit_survey : (requestCommit s).survey = s.survey := rfl
@[simp] theorem requestCommit_timing : (requestCommit s).timing = s.timing := rfl
@[simp] theorem requestCommit_map : (requestCommit s).map = { s.map with commit := .next } := rfl
@[simp] theorem requestCommit_hold : (requestCommit s).hold = s.hold := rfl
@[simp] theorem requestCommit_egress : (requestCommit s).egress = s.egress := rfl
@[simp] theorem requestCommit_generators : (requestCommit s).generators = s.generators := rfl
@[simp] theorem requestCommit_checkers : (requestCommit s).checkers = s.checkers := rfl
@[simp] theorem requestCommit_channel : (requestCommit s).channel = s.channel := rfl
@[simp] theorem requestCommit_dispatcher : (requestCommit s).dispatcher = s.dispatcher := rfl
@[simp] theorem requestCommit_notices : (requestCommit s).notices = s.notices := rfl
@[simp] theorem requestCommit_loader : (requestCommit s).loader = s.loader := rfl
@[simp] theorem requestCommit_params : (requestCommit s).params = s.params := rfl
@[simp] theorem requestCommit_address : (requestCommit s).address = s.address := rfl
@[simp] theorem requestCommit_straps : (requestCommit s).straps = s.straps := rfl
@[simp] theorem requestCommit_starts : (requestCommit s).starts = s.starts := rfl
@[simp] theorem requestCommit_draws : (requestCommit s).draws = s.draws := rfl
@[simp] theorem requestCommit_pending : (requestCommit s).pending = s.pending := rfl

/-! `stepCopy` -/

@[simp] theorem stepCopy_lanes : (stepCopy s).lanes = s.lanes := rfl
@[simp] theorem stepCopy_stores : (stepCopy s).stores = s.stores := rfl
@[simp] theorem stepCopy_survey : (stepCopy s).survey = s.survey := rfl
@[simp] theorem stepCopy_timing : (stepCopy s).timing = s.timing := rfl
@[simp] theorem stepCopy_map : (stepCopy s).map = copyStep s.map := rfl
@[simp] theorem stepCopy_hold : (stepCopy s).hold = s.hold := rfl
@[simp] theorem stepCopy_egress : (stepCopy s).egress = s.egress := rfl
@[simp] theorem stepCopy_generators : (stepCopy s).generators = s.generators := rfl
@[simp] theorem stepCopy_checkers : (stepCopy s).checkers = s.checkers := rfl
@[simp] theorem stepCopy_channel : (stepCopy s).channel = s.channel := rfl
@[simp] theorem stepCopy_dispatcher : (stepCopy s).dispatcher = s.dispatcher := rfl
@[simp] theorem stepCopy_notices : (stepCopy s).notices = s.notices := rfl
@[simp] theorem stepCopy_loader : (stepCopy s).loader = s.loader := rfl
@[simp] theorem stepCopy_params : (stepCopy s).params = s.params := rfl
@[simp] theorem stepCopy_address : (stepCopy s).address = s.address := rfl
@[simp] theorem stepCopy_straps : (stepCopy s).straps = s.straps := rfl
@[simp] theorem stepCopy_starts : (stepCopy s).starts = s.starts := rfl
@[simp] theorem stepCopy_draws : (stepCopy s).draws = s.draws := rfl
@[simp] theorem stepCopy_pending : (stepCopy s).pending = s.pending := rfl

/-! `creditLane` -/

@[simp] theorem creditLane_lanes (l : LaneId) : (creditLane l s).lanes = s.lanes := rfl
@[simp] theorem creditLane_stores (l : LaneId) : (creditLane l s).stores = s.stores := rfl
@[simp] theorem creditLane_survey (l : LaneId) : (creditLane l s).survey = s.survey := rfl
@[simp] theorem creditLane_timing (l : LaneId) :
    (creditLane l s).timing = { s.timing with laneQual := s.timing.laneQual.set l (credited s.params.qualifyFrames (s.timing.laneQual.get l)) } := rfl
@[simp] theorem creditLane_map (l : LaneId) : (creditLane l s).map = s.map := rfl
@[simp] theorem creditLane_hold (l : LaneId) : (creditLane l s).hold = s.hold := rfl
@[simp] theorem creditLane_egress (l : LaneId) : (creditLane l s).egress = s.egress := rfl
@[simp] theorem creditLane_generators (l : LaneId) : (creditLane l s).generators = s.generators := rfl
@[simp] theorem creditLane_checkers (l : LaneId) : (creditLane l s).checkers = s.checkers := rfl
@[simp] theorem creditLane_channel (l : LaneId) : (creditLane l s).channel = s.channel := rfl
@[simp] theorem creditLane_dispatcher (l : LaneId) : (creditLane l s).dispatcher = s.dispatcher := rfl
@[simp] theorem creditLane_notices (l : LaneId) : (creditLane l s).notices = s.notices := rfl
@[simp] theorem creditLane_loader (l : LaneId) : (creditLane l s).loader = s.loader := rfl
@[simp] theorem creditLane_params (l : LaneId) : (creditLane l s).params = s.params := rfl
@[simp] theorem creditLane_address (l : LaneId) : (creditLane l s).address = s.address := rfl
@[simp] theorem creditLane_straps (l : LaneId) : (creditLane l s).straps = s.straps := rfl
@[simp] theorem creditLane_starts (l : LaneId) : (creditLane l s).starts = s.starts := rfl
@[simp] theorem creditLane_draws (l : LaneId) : (creditLane l s).draws = s.draws := rfl
@[simp] theorem creditLane_pending (l : LaneId) : (creditLane l s).pending = s.pending := rfl

/-! `readStores` -/

@[simp] theorem readStores_lanes : (readStores s).lanes = s.lanes := rfl
@[simp] theorem readStores_stores : (readStores s).stores = Tab.ofFn fun l => afterRead (s.stores.get l) := rfl
@[simp] theorem readStores_survey : (readStores s).survey = s.survey := rfl
@[simp] theorem readStores_timing : (readStores s).timing = s.timing := rfl
@[simp] theorem readStores_map : (readStores s).map = s.map := rfl
@[simp] theorem readStores_hold : (readStores s).hold = s.hold := rfl
@[simp] theorem readStores_egress : (readStores s).egress = s.egress := rfl
@[simp] theorem readStores_generators : (readStores s).generators = s.generators := rfl
@[simp] theorem readStores_checkers : (readStores s).checkers = s.checkers := rfl
@[simp] theorem readStores_channel : (readStores s).channel = s.channel := rfl
@[simp] theorem readStores_dispatcher : (readStores s).dispatcher = s.dispatcher := rfl
@[simp] theorem readStores_notices : (readStores s).notices = s.notices := rfl
@[simp] theorem readStores_loader : (readStores s).loader = s.loader := rfl
@[simp] theorem readStores_params : (readStores s).params = s.params := rfl
@[simp] theorem readStores_address : (readStores s).address = s.address := rfl
@[simp] theorem readStores_straps : (readStores s).straps = s.straps := rfl
@[simp] theorem readStores_starts : (readStores s).starts = s.starts := rfl
@[simp] theorem readStores_draws : (readStores s).draws = s.draws := rfl
@[simp] theorem readStores_pending : (readStores s).pending = s.pending := rfl

/-! `advanceGenerators` -/

@[simp] theorem advanceGenerators_lanes : (advanceGenerators s).lanes = s.lanes := rfl
@[simp] theorem advanceGenerators_stores : (advanceGenerators s).stores = s.stores := rfl
@[simp] theorem advanceGenerators_survey : (advanceGenerators s).survey = s.survey := rfl
@[simp] theorem advanceGenerators_timing : (advanceGenerators s).timing = s.timing := rfl
@[simp] theorem advanceGenerators_map : (advanceGenerators s).map = s.map := rfl
@[simp] theorem advanceGenerators_hold : (advanceGenerators s).hold = s.hold := rfl
@[simp] theorem advanceGenerators_egress : (advanceGenerators s).egress = s.egress := rfl
@[simp] theorem advanceGenerators_generators :
    (advanceGenerators s).generators = Tab.ofFn fun g => advanced (s.generators.get g) := rfl
@[simp] theorem advanceGenerators_checkers : (advanceGenerators s).checkers = s.checkers := rfl
@[simp] theorem advanceGenerators_channel : (advanceGenerators s).channel = s.channel := rfl
@[simp] theorem advanceGenerators_dispatcher : (advanceGenerators s).dispatcher = s.dispatcher := rfl
@[simp] theorem advanceGenerators_notices : (advanceGenerators s).notices = s.notices := rfl
@[simp] theorem advanceGenerators_loader : (advanceGenerators s).loader = s.loader := rfl
@[simp] theorem advanceGenerators_params : (advanceGenerators s).params = s.params := rfl
@[simp] theorem advanceGenerators_address : (advanceGenerators s).address = s.address := rfl
@[simp] theorem advanceGenerators_straps : (advanceGenerators s).straps = s.straps := rfl
@[simp] theorem advanceGenerators_starts : (advanceGenerators s).starts = s.starts := rfl
@[simp] theorem advanceGenerators_draws : (advanceGenerators s).draws = s.draws := rfl
@[simp] theorem advanceGenerators_pending : (advanceGenerators s).pending = s.pending := rfl

/-! `countStart` -/

@[simp] theorem countStart_lanes : (countStart s).lanes = s.lanes := rfl
@[simp] theorem countStart_stores : (countStart s).stores = s.stores := rfl
@[simp] theorem countStart_survey : (countStart s).survey = s.survey := rfl
@[simp] theorem countStart_timing : (countStart s).timing = s.timing := rfl
@[simp] theorem countStart_map : (countStart s).map = s.map := rfl
@[simp] theorem countStart_hold : (countStart s).hold = s.hold := rfl
@[simp] theorem countStart_egress : (countStart s).egress = s.egress := rfl
@[simp] theorem countStart_generators : (countStart s).generators = s.generators := rfl
@[simp] theorem countStart_checkers : (countStart s).checkers = s.checkers := rfl
@[simp] theorem countStart_channel : (countStart s).channel = s.channel := rfl
@[simp] theorem countStart_dispatcher : (countStart s).dispatcher = s.dispatcher := rfl
@[simp] theorem countStart_notices : (countStart s).notices = tickTimer s.notices := rfl
@[simp] theorem countStart_loader : (countStart s).loader = tickLoader s.loader := rfl
@[simp] theorem countStart_params : (countStart s).params = s.params := rfl
@[simp] theorem countStart_address : (countStart s).address = s.address := rfl
@[simp] theorem countStart_straps : (countStart s).straps = s.straps := rfl
@[simp] theorem countStart_starts : (countStart s).starts = s.starts := rfl
@[simp] theorem countStart_draws : (countStart s).draws = s.draws := rfl
@[simp] theorem countStart_pending : (countStart s).pending = s.pending := rfl

end Sys2Proof.Machine
end

