-- ==== Sys2Proof/Laws/Frames.lean ====
section
/-! SUPPORT. The frame of each shared operation: the fields of State that it leaves as they were. -/

namespace Sys2Proof.Machine

variable (s : State)

/-- What every step of a fold leaves, the fold leaves. -/
theorem foldl_leaves {α β : Type} (g : State → β) (f : State → α → State) (h : ∀ s a, g (f s a) = g s) (l : List α)
    (s : State) : g (l.foldl f s) = g s := by
  induction l generalizing s with
  | nil => rfl
  | cons a l ih => simp [ih, h]


/-! ### Notices -/

@[simp] theorem raise_frame (k : NoticeKind) (x : Subject) (d : List Octet) :
    (raise k x d s).lanes = s.lanes ∧ (raise k x d s).stores = s.stores ∧ (raise k x d s).survey = s.survey ∧
    (raise k x d s).timing = s.timing ∧ (raise k x d s).map = s.map ∧ (raise k x d s).hold = s.hold ∧
    (raise k x d s).egress = s.egress ∧ (raise k x d s).generators = s.generators ∧
    (raise k x d s).checkers = s.checkers ∧ (raise k x d s).channel = s.channel ∧
    (raise k x d s).dispatcher = s.dispatcher ∧ (raise k x d s).loader = s.loader ∧
    (raise k x d s).params = s.params ∧ (raise k x d s).address = s.address ∧
    (raise k x d s).straps = s.straps ∧ (raise k x d s).starts = s.starts ∧ (raise k x d s).draws = s.draws ∧
    (raise k x d s).pending = s.pending := by
  unfold raise
  split <;> simp

@[simp] theorem acknowledge_frame :
    (acknowledge s).lanes = s.lanes ∧ (acknowledge s).stores = s.stores ∧ (acknowledge s).survey = s.survey ∧
    (acknowledge s).timing = s.timing ∧ (acknowledge s).map = s.map ∧ (acknowledge s).hold = s.hold ∧
    (acknowledge s).egress = s.egress ∧ (acknowledge s).generators = s.generators ∧
    (acknowledge s).checkers = s.checkers ∧ (acknowledge s).dispatcher = s.dispatcher ∧
    (acknowledge s).loader = s.loader ∧ (acknowledge s).params = s.params ∧
    (acknowledge s).address = s.address ∧ (acknowledge s).straps = s.straps ∧
    (acknowledge s).starts = s.starts ∧ (acknowledge s).draws = s.draws ∧ (acknowledge s).pending = s.pending := by
  simp [acknowledge]

@[simp] theorem placeCopy_frame (r : Nat) :
    (placeCopy r s).lanes = s.lanes ∧ (placeCopy r s).stores = s.stores ∧ (placeCopy r s).survey = s.survey ∧
    (placeCopy r s).timing = s.timing ∧ (placeCopy r s).map = s.map ∧ (placeCopy r s).hold = s.hold ∧
    (placeCopy r s).egress = s.egress ∧ (placeCopy r s).generators = s.generators ∧
    (placeCopy r s).checkers = s.checkers ∧ (placeCopy r s).dispatcher = s.dispatcher ∧
    (placeCopy r s).loader = s.loader ∧ (placeCopy r s).params = s.params ∧
    (placeCopy r s).address = s.address ∧ (placeCopy r s).straps = s.straps ∧
    (placeCopy r s).starts = s.starts ∧ (placeCopy r s).draws = s.draws ∧ (placeCopy r s).pending = s.pending := by
  unfold placeCopy
  split
  · split <;> simp
  · simp

@[simp] theorem buildNotice_frame (r : Nat) :
    (buildNotice r s).lanes = s.lanes ∧ (buildNotice r s).stores = s.stores ∧
    (buildNotice r s).survey = s.survey ∧ (buildNotice r s).timing = s.timing ∧ (buildNotice r s).map = s.map ∧
    (buildNotice r s).hold = s.hold ∧ (buildNotice r s).egress = s.egress ∧
    (buildNotice r s).generators = s.generators ∧ (buildNotice r s).checkers = s.checkers ∧
    (buildNotice r s).dispatcher = s.dispatcher ∧ (buildNotice r s).loader = s.loader ∧
    (buildNotice r s).params = s.params ∧ (buildNotice r s).address = s.address ∧
    (buildNotice r s).straps = s.straps ∧ (buildNotice r s).starts = s.starts ∧
    (buildNotice r s).draws = s.draws ∧ (buildNotice r s).pending = s.pending := by
  unfold buildNotice
  split <;> simp

@[simp] theorem noticeMoment_frame (r : Nat) :
    (noticeMoment r s).lanes = s.lanes ∧ (noticeMoment r s).stores = s.stores ∧
    (noticeMoment r s).survey = s.survey ∧ (noticeMoment r s).timing = s.timing ∧
    (noticeMoment r s).map = s.map ∧ (noticeMoment r s).hold = s.hold ∧ (noticeMoment r s).egress = s.egress ∧
    (noticeMoment r s).generators = s.generators ∧ (noticeMoment r s).checkers = s.checkers ∧
    (noticeMoment r s).dispatcher = s.dispatcher ∧ (noticeMoment r s).loader = s.loader ∧
    (noticeMoment r s).params = s.params ∧ (noticeMoment r s).address = s.address ∧
    (noticeMoment r s).straps = s.straps ∧ (noticeMoment r s).starts = s.starts ∧
    (noticeMoment r s).draws = s.draws ∧ (noticeMoment r s).pending = s.pending := by
  simp [noticeMoment]

@[simp] theorem takeExpiry_frame :
    (takeExpiry s).lanes = s.lanes ∧ (takeExpiry s).stores = s.stores ∧ (takeExpiry s).survey = s.survey ∧
    (takeExpiry s).timing = s.timing ∧ (takeExpiry s).map = s.map ∧ (takeExpiry s).hold = s.hold ∧
    (takeExpiry s).egress = s.egress ∧ (takeExpiry s).generators = s.generators ∧
    (takeExpiry s).checkers = s.checkers ∧ (takeExpiry s).channel = s.channel ∧
    (takeExpiry s).dispatcher = s.dispatcher ∧ (takeExpiry s).loader = s.loader ∧
    (takeExpiry s).params = s.params ∧ (takeExpiry s).address = s.address ∧ (takeExpiry s).straps = s.straps ∧
    (takeExpiry s).starts = s.starts ∧ (takeExpiry s).draws = s.draws ∧ (takeExpiry s).pending = s.pending := by
  unfold takeExpiry
  split <;> simp

@[simp] theorem raiseStartUp_frame :
    (raiseStartUp s).lanes = s.lanes ∧ (raiseStartUp s).stores = s.stores ∧
    (raiseStartUp s).survey = s.survey ∧ (raiseStartUp s).timing = s.timing ∧ (raiseStartUp s).map = s.map ∧
    (raiseStartUp s).hold = s.hold ∧ (raiseStartUp s).egress = s.egress ∧
    (raiseStartUp s).generators = s.generators ∧ (raiseStartUp s).checkers = s.checkers ∧
    (raiseStartUp s).channel = s.channel ∧ (raiseStartUp s).dispatcher = s.dispatcher ∧
    (raiseStartUp s).loader = s.loader ∧ (raiseStartUp s).params = s.params ∧
    (raiseStartUp s).address = s.address ∧ (raiseStartUp s).straps = s.straps ∧
    (raiseStartUp s).starts = s.starts ∧ (raiseStartUp s).draws = s.draws ∧ (raiseStartUp s).pending = s.pending := by
  simp [raiseStartUp]


/-! ### Survey and stores -/

@[simp] theorem surveyOverSlip_frame (l : LaneId) :
    (surveyOverSlip l s).lanes = s.lanes ∧ (surveyOverSlip l s).stores = s.stores ∧
    (surveyOverSlip l s).timing = s.timing ∧ (surveyOverSlip l s).map = s.map ∧
    (surveyOverSlip l s).hold = s.hold ∧ (surveyOverSlip l s).egress = s.egress ∧
    (surveyOverSlip l s).generators = s.generators ∧ (surveyOverSlip l s).checkers = s.checkers ∧
    (surveyOverSlip l s).channel = s.channel ∧ (surveyOverSlip l s).dispatcher = s.dispatcher ∧
    (surveyOverSlip l s).notices = s.notices ∧ (surveyOverSlip l s).loader = s.loader ∧
    (surveyOverSlip l s).params = s.params ∧ (surveyOverSlip l s).address = s.address ∧
    (surveyOverSlip l s).straps = s.straps ∧ (surveyOverSlip l s).starts = s.starts ∧
    (surveyOverSlip l s).draws = s.draws ∧ (surveyOverSlip l s).pending = s.pending := by
  unfold surveyOverSlip
  split <;> simp

@[simp] theorem surveySyncLoss_frame (l : LaneId) :
    (surveySyncLoss l s).lanes = s.lanes ∧ (surveySyncLoss l s).stores = s.stores ∧
    (surveySyncLoss l s).timing = s.timing ∧ (surveySyncLoss l s).map = s.map ∧
    (surveySyncLoss l s).hold = s.hold ∧ (surveySyncLoss l s).egress = s.egress ∧
    (surveySyncLoss l s).generators = s.generators ∧ (surveySyncLoss l s).checkers = s.checkers ∧
    (surveySyncLoss l s).channel = s.channel ∧ (surveySyncLoss l s).dispatcher = s.dispatcher ∧
    (surveySyncLoss l s).notices = s.notices ∧ (surveySyncLoss l s).loader = s.loader ∧
    (surveySyncLoss l s).params = s.params ∧ (surveySyncLoss l s).address = s.address ∧
    (surveySyncLoss l s).straps = s.straps ∧ (surveySyncLoss l s).starts = s.starts ∧
    (surveySyncLoss l s).draws = s.draws ∧ (surveySyncLoss l s).pending = s.pending := by
  unfold surveySyncLoss
  split <;> simp

@[simp] theorem surveyMarkerMiss_frame (l : LaneId) :
    (surveyMarkerMiss l s).lanes = s.lanes ∧ (surveyMarkerMiss l s).stores = s.stores ∧
    (surveyMarkerMiss l s).timing = s.timing ∧ (surveyMarkerMiss l s).map = s.map ∧
    (surveyMarkerMiss l s).hold = s.hold ∧ (surveyMarkerMiss l s).egress = s.egress ∧
    (surveyMarkerMiss l s).generators = s.generators ∧ (surveyMarkerMiss l s).checkers = s.checkers ∧
    (surveyMarkerMiss l s).channel = s.channel ∧ (surveyMarkerMiss l s).dispatcher = s.dispatcher ∧
    (surveyMarkerMiss l s).notices = s.notices ∧ (surveyMarkerMiss l s).loader = s.loader ∧
    (surveyMarkerMiss l s).params = s.params ∧ (surveyMarkerMiss l s).address = s.address ∧
    (surveyMarkerMiss l s).straps = s.straps ∧ (surveyMarkerMiss l s).starts = s.starts ∧
    (surveyMarkerMiss l s).draws = s.draws ∧ (surveyMarkerMiss l s).pending = s.pending := by
  unfold surveyMarkerMiss
  split <;> simp

@[simp] theorem abortSurvey_frame (l : LaneId) :
    (abortSurvey l s).lanes = s.lanes ∧ (abortSurvey l s).stores = s.stores ∧
    (abortSurvey l s).timing = s.timing ∧ (abortSurvey l s).map = s.map ∧ (abortSurvey l s).hold = s.hold ∧
    (abortSurvey l s).egress = s.egress ∧ (abortSurvey l s).generators = s.generators ∧
    (abortSurvey l s).checkers = s.checkers ∧ (abortSurvey l s).channel = s.channel ∧
    (abortSurvey l s).dispatcher = s.dispatcher ∧ (abortSurvey l s).loader = s.loader ∧
    (abortSurvey l s).params = s.params ∧ (abortSurvey l s).address = s.address ∧
    (abortSurvey l s).straps = s.straps ∧ (abortSurvey l s).starts = s.starts ∧
    (abortSurvey l s).draws = s.draws ∧ (abortSurvey l s).pending = s.pending := by
  unfold abortSurvey
  split <;> simp

@[simp] theorem takeSurveyEnd_frame :
    (takeSurveyEnd s).lanes = s.lanes ∧ (takeSurveyEnd s).stores = s.stores ∧
    (takeSurveyEnd s).timing = s.timing ∧ (takeSurveyEnd s).map = s.map ∧ (takeSurveyEnd s).hold = s.hold ∧
    (takeSurveyEnd s).egress = s.egress ∧ (takeSurveyEnd s).generators = s.generators ∧
    (takeSurveyEnd s).checkers = s.checkers ∧ (takeSurveyEnd s).channel = s.channel ∧
    (takeSurveyEnd s).dispatcher = s.dispatcher ∧ (takeSurveyEnd s).loader = s.loader ∧
    (takeSurveyEnd s).params = s.params ∧ (takeSurveyEnd s).address = s.address ∧
    (takeSurveyEnd s).straps = s.straps ∧ (takeSurveyEnd s).starts = s.starts ∧
    (takeSurveyEnd s).draws = s.draws ∧ (takeSurveyEnd s).pending = s.pending := by
  unfold takeSurveyEnd
  split <;> simp

@[simp] theorem recentre_frame (l : LaneId) :
    (recentre l s).lanes = s.lanes ∧ (recentre l s).survey = s.survey ∧ (recentre l s).timing = s.timing ∧
    (recentre l s).map = s.map ∧ (recentre l s).hold = s.hold ∧ (recentre l s).egress = s.egress ∧
    (recentre l s).generators = s.generators ∧ (recentre l s).checkers = s.checkers ∧
    (recentre l s).channel = s.channel ∧ (recentre l s).dispatcher = s.dispatcher ∧
    (recentre l s).notices = s.notices ∧ (recentre l s).loader = s.loader ∧ (recentre l s).params = s.params ∧
    (recentre l s).address = s.address ∧ (recentre l s).straps = s.straps ∧ (recentre l s).starts = s.starts ∧
    (recentre l s).draws = s.draws ∧ (recentre l s).pending = s.pending := by
  simp [recentre]

@[simp] theorem idleStore_frame (l : LaneId) :
    (idleStore l s).lanes = s.lanes ∧ (idleStore l s).survey = s.survey ∧ (idleStore l s).timing = s.timing ∧
    (idleStore l s).map = s.map ∧ (idleStore l s).hold = s.hold ∧ (idleStore l s).egress = s.egress ∧
    (idleStore l s).generators = s.generators ∧ (idleStore l s).checkers = s.checkers ∧
    (idleStore l s).channel = s.channel ∧ (idleStore l s).dispatcher = s.dispatcher ∧
    (idleStore l s).notices = s.notices ∧ (idleStore l s).loader = s.loader ∧
    (idleStore l s).params = s.params ∧ (idleStore l s).address = s.address ∧
    (idleStore l s).straps = s.straps ∧ (idleStore l s).starts = s.starts ∧ (idleStore l s).draws = s.draws ∧
    (idleStore l s).pending = s.pending := by
  simp [idleStore]

@[simp] theorem writeStore_frame (l : LaneId) (r : FrameRecord) :
    (writeStore l r s).lanes = s.lanes ∧ (writeStore l r s).timing = s.timing ∧
    (writeStore l r s).map = s.map ∧ (writeStore l r s).hold = s.hold ∧ (writeStore l r s).egress = s.egress ∧
    (writeStore l r s).generators = s.generators ∧ (writeStore l r s).checkers = s.checkers ∧
    (writeStore l r s).channel = s.channel ∧ (writeStore l r s).dispatcher = s.dispatcher ∧
    (writeStore l r s).loader = s.loader ∧ (writeStore l r s).params = s.params ∧
    (writeStore l r s).address = s.address ∧ (writeStore l r s).straps = s.straps ∧
    (writeStore l r s).starts = s.starts ∧ (writeStore l r s).draws = s.draws ∧
    (writeStore l r s).pending = s.pending := by
  unfold writeStore
  split <;> simp

@[simp] theorem raiseUnderSlips_frame (b : Tab 16 Store) :
    (raiseUnderSlips b s).lanes = s.lanes ∧ (raiseUnderSlips b s).stores = s.stores ∧
    (raiseUnderSlips b s).survey = s.survey ∧ (raiseUnderSlips b s).timing = s.timing ∧
    (raiseUnderSlips b s).map = s.map ∧ (raiseUnderSlips b s).hold = s.hold ∧
    (raiseUnderSlips b s).egress = s.egress ∧ (raiseUnderSlips b s).generators = s.generators ∧
    (raiseUnderSlips b s).checkers = s.checkers ∧ (raiseUnderSlips b s).channel = s.channel ∧
    (raiseUnderSlips b s).dispatcher = s.dispatcher ∧ (raiseUnderSlips b s).loader = s.loader ∧
    (raiseUnderSlips b s).params = s.params ∧ (raiseUnderSlips b s).address = s.address ∧
    (raiseUnderSlips b s).straps = s.straps ∧ (raiseUnderSlips b s).starts = s.starts ∧
    (raiseUnderSlips b s).draws = s.draws ∧ (raiseUnderSlips b s).pending = s.pending := by
  refine ⟨
    foldl_leaves State.lanes _ (fun s c => by split <;> simp) _ _,
    foldl_leaves State.stores _ (fun s c => by split <;> simp) _ _,
    foldl_leaves State.survey _ (fun s c => by split <;> simp) _ _,
    foldl_leaves State.timing _ (fun s c => by split <;> simp) _ _,
    foldl_leaves State.map _ (fun s c => by split <;> simp) _ _,
    foldl_leaves State.hold _ (fun s c => by split <;> simp) _ _,
    foldl_leaves State.egress _ (fun s c => by split <;> simp) _ _,
    foldl_leaves State.generators _ (fun s c => by split <;> simp) _ _,
    foldl_leaves State.checkers _ (fun s c => by split <;> simp) _ _,
    foldl_leaves State.channel _ (fun s c => by split <;> simp) _ _,
    foldl_leaves State.dispatcher _ (fun s c => by split <;> simp) _ _,
    foldl_leaves State.loader _ (fun s c => by split <;> simp) _ _,
    foldl_leaves State.params _ (fun s c => by split <;> simp) _ _,
    foldl_leaves State.address _ (fun s c => by split <;> simp) _ _,
    foldl_leaves State.straps _ (fun s c => by split <;> simp) _ _,
    foldl_leaves State.starts _ (fun s c => by split <;> simp) _ _,
    foldl_leaves State.draws _ (fun s c => by split <;> simp) _ _,
    foldl_leaves State.pending _ (fun s c => by split <;> simp) _ _⟩


/-! ### Timing -/

@[simp] theorem recentreEntered_frame (b a : Option Source) :
    (recentreEntered b a s).lanes = s.lanes ∧ (recentreEntered b a s).survey = s.survey ∧
    (recentreEntered b a s).timing = s.timing ∧ (recentreEntered b a s).map = s.map ∧
    (recentreEntered b a s).hold = s.hold ∧ (recentreEntered b a s).egress = s.egress ∧
    (recentreEntered b a s).generators = s.generators ∧ (recentreEntered b a s).checkers = s.checkers ∧
    (recentreEntered b a s).channel = s.channel ∧ (recentreEntered b a s).dispatcher = s.dispatcher ∧
    (recentreEntered b a s).notices = s.notices ∧ (recentreEntered b a s).loader = s.loader ∧
    (recentreEntered b a s).params = s.params ∧ (recentreEntered b a s).address = s.address ∧
    (recentreEntered b a s).straps = s.straps ∧ (recentreEntered b a s).starts = s.starts ∧
    (recentreEntered b a s).draws = s.draws ∧ (recentreEntered b a s).pending = s.pending := by
  unfold recentreEntered
  split
  · split <;> simp
  · simp

@[simp] theorem moveTiming_frame (c : TimingState × Option Source) :
    (moveTiming c s).lanes = s.lanes ∧ (moveTiming c s).survey = s.survey ∧ (moveTiming c s).map = s.map ∧
    (moveTiming c s).hold = s.hold ∧ (moveTiming c s).egress = s.egress ∧
    (moveTiming c s).generators = s.generators ∧ (moveTiming c s).checkers = s.checkers ∧
    (moveTiming c s).channel = s.channel ∧ (moveTiming c s).dispatcher = s.dispatcher ∧
    (moveTiming c s).loader = s.loader ∧ (moveTiming c s).params = s.params ∧
    (moveTiming c s).address = s.address ∧ (moveTiming c s).straps = s.straps ∧
    (moveTiming c s).starts = s.starts ∧ (moveTiming c s).draws = s.draws ∧ (moveTiming c s).pending = s.pending := by
  unfold moveTiming
  split <;> simp

@[simp] theorem evaluateTiming_frame :
    (evaluateTiming s).lanes = s.lanes ∧ (evaluateTiming s).survey = s.survey ∧
    (evaluateTiming s).map = s.map ∧ (evaluateTiming s).hold = s.hold ∧ (evaluateTiming s).egress = s.egress ∧
    (evaluateTiming s).generators = s.generators ∧ (evaluateTiming s).checkers = s.checkers ∧
    (evaluateTiming s).channel = s.channel ∧ (evaluateTiming s).dispatcher = s.dispatcher ∧
    (evaluateTiming s).loader = s.loader ∧ (evaluateTiming s).params = s.params ∧
    (evaluateTiming s).address = s.address ∧ (evaluateTiming s).straps = s.straps ∧
    (evaluateTiming s).starts = s.starts ∧ (evaluateTiming s).draws = s.draws ∧
    (evaluateTiming s).pending = s.pending := by
  simp [evaluateTiming]

@[simp] theorem loseSource_frame :
    (loseSource s).lanes = s.lanes ∧ (loseSource s).survey = s.survey ∧ (loseSource s).map = s.map ∧
    (loseSource s).hold = s.hold ∧ (loseSource s).egress = s.egress ∧
    (loseSource s).generators = s.generators ∧ (loseSource s).checkers = s.checkers ∧
    (loseSource s).channel = s.channel ∧ (loseSource s).dispatcher = s.dispatcher ∧
    (loseSource s).loader = s.loader ∧ (loseSource s).params = s.params ∧ (loseSource s).address = s.address ∧
    (loseSource s).straps = s.straps ∧ (loseSource s).starts = s.starts ∧ (loseSource s).draws = s.draws ∧
    (loseSource s).pending = s.pending := by
  simp [loseSource]

@[simp] theorem disqualifyLane_frame (l : LaneId) :
    (disqualifyLane l s).lanes = s.lanes ∧ (disqualifyLane l s).survey = s.survey ∧
    (disqualifyLane l s).map = s.map ∧ (disqualifyLane l s).hold = s.hold ∧
    (disqualifyLane l s).egress = s.egress ∧ (disqualifyLane l s).generators = s.generators ∧
    (disqualifyLane l s).checkers = s.checkers ∧ (disqualifyLane l s).channel = s.channel ∧
    (disqualifyLane l s).dispatcher = s.dispatcher ∧ (disqualifyLane l s).loader = s.loader ∧
    (disqualifyLane l s).params = s.params ∧ (disqualifyLane l s).address = s.address ∧
    (disqualifyLane l s).straps = s.straps ∧ (disqualifyLane l s).starts = s.starts ∧
    (disqualifyLane l s).draws = s.draws ∧ (disqualifyLane l s).pending = s.pending := by
  unfold disqualifyLane
  split <;> simp

@[simp] theorem takeNumber_frame (n : Num) :
    (takeNumber n s).lanes = s.lanes ∧ (takeNumber n s).stores = s.stores ∧
    (takeNumber n s).survey = s.survey ∧ (takeNumber n s).map = s.map ∧ (takeNumber n s).hold = s.hold ∧
    (takeNumber n s).egress = s.egress ∧ (takeNumber n s).generators = s.generators ∧
    (takeNumber n s).checkers = s.checkers ∧ (takeNumber n s).channel = s.channel ∧
    (takeNumber n s).dispatcher = s.dispatcher ∧ (takeNumber n s).loader = s.loader ∧
    (takeNumber n s).params = s.params ∧ (takeNumber n s).address = s.address ∧
    (takeNumber n s).straps = s.straps ∧ (takeNumber n s).starts = s.starts ∧
    (takeNumber n s).draws = s.draws ∧ (takeNumber n s).pending = s.pending := by
  unfold takeNumber
  split <;> simp

@[simp] theorem checkMissRun_frame :
    (checkMissRun s).lanes = s.lanes ∧ (checkMissRun s).survey = s.survey ∧ (checkMissRun s).map = s.map ∧
    (checkMissRun s).hold = s.hold ∧ (checkMissRun s).egress = s.egress ∧
    (checkMissRun s).generators = s.generators ∧ (checkMissRun s).checkers = s.checkers ∧
    (checkMissRun s).channel = s.channel ∧ (checkMissRun s).dispatcher = s.dispatcher ∧
    (checkMissRun s).loader = s.loader ∧ (checkMissRun s).params = s.params ∧
    (checkMissRun s).address = s.address ∧ (checkMissRun s).straps = s.straps ∧
    (checkMissRun s).starts = s.starts ∧ (checkMissRun s).draws = s.draws ∧ (checkMissRun s).pending = s.pending := by
  unfold checkMissRun
  split
  · split <;> simp
  · simp

@[simp] theorem requalifyAll_frame :
    (requalifyAll s).lanes = s.lanes ∧ (requalifyAll s).stores = s.stores ∧
    (requalifyAll s).survey = s.survey ∧ (requalifyAll s).map = s.map ∧ (requalifyAll s).hold = s.hold ∧
    (requalifyAll s).egress = s.egress ∧ (requalifyAll s).generators = s.generators ∧
    (requalifyAll s).checkers = s.checkers ∧ (requalifyAll s).channel = s.channel ∧
    (requalifyAll s).dispatcher = s.dispatcher ∧ (requalifyAll s).notices = s.notices ∧
    (requalifyAll s).loader = s.loader ∧ (requalifyAll s).params = s.params ∧
    (requalifyAll s).address = s.address ∧ (requalifyAll s).straps = s.straps ∧
    (requalifyAll s).starts = s.starts ∧ (requalifyAll s).draws = s.draws ∧ (requalifyAll s).pending = s.pending := by
  simp [requalifyAll]


/-! ### Map and sequences -/

@[simp] theorem fireCommit_frame (i : Bool) (p q : Num) :
    (fireCommit i p q s).lanes = s.lanes ∧ (fireCommit i p q s).stores = s.stores ∧
    (fireCommit i p q s).survey = s.survey ∧ (fireCommit i p q s).timing = s.timing ∧
    (fireCommit i p q s).hold = s.hold ∧ (fireCommit i p q s).egress = s.egress ∧
    (fireCommit i p q s).generators = s.generators ∧ (fireCommit i p q s).checkers = s.checkers ∧
    (fireCommit i p q s).channel = s.channel ∧ (fireCommit i p q s).dispatcher = s.dispatcher ∧
    (fireCommit i p q s).loader = s.loader ∧ (fireCommit i p q s).params = s.params ∧
    (fireCommit i p q s).address = s.address ∧ (fireCommit i p q s).straps = s.straps ∧
    (fireCommit i p q s).starts = s.starts ∧ (fireCommit i p q s).draws = s.draws ∧
    (fireCommit i p q s).pending = s.pending := by
  unfold fireCommit
  split <;> simp

@[simp] theorem takeCopyEnd_frame :
    (takeCopyEnd s).lanes = s.lanes ∧ (takeCopyEnd s).stores = s.stores ∧ (takeCopyEnd s).survey = s.survey ∧
    (takeCopyEnd s).timing = s.timing ∧ (takeCopyEnd s).hold = s.hold ∧ (takeCopyEnd s).egress = s.egress ∧
    (takeCopyEnd s).generators = s.generators ∧ (takeCopyEnd s).checkers = s.checkers ∧
    (takeCopyEnd s).channel = s.channel ∧ (takeCopyEnd s).dispatcher = s.dispatcher ∧
    (takeCopyEnd s).loader = s.loader ∧ (takeCopyEnd s).params = s.params ∧
    (takeCopyEnd s).address = s.address ∧ (takeCopyEnd s).straps = s.straps ∧
    (takeCopyEnd s).starts = s.starts ∧ (takeCopyEnd s).draws = s.draws ∧ (takeCopyEnd s).pending = s.pending := by
  unfold takeCopyEnd
  split <;> simp

@[simp] theorem endChecker_frame (c : CheckerId) (r : CheckResult) :
    (endChecker c r s).lanes = s.lanes ∧ (endChecker c r s).stores = s.stores ∧
    (endChecker c r s).survey = s.survey ∧ (endChecker c r s).timing = s.timing ∧
    (endChecker c r s).map = s.map ∧ (endChecker c r s).hold = s.hold ∧ (endChecker c r s).egress = s.egress ∧
    (endChecker c r s).generators = s.generators ∧ (endChecker c r s).channel = s.channel ∧
    (endChecker c r s).dispatcher = s.dispatcher ∧ (endChecker c r s).loader = s.loader ∧
    (endChecker c r s).params = s.params ∧ (endChecker c r s).address = s.address ∧
    (endChecker c r s).straps = s.straps ∧ (endChecker c r s).starts = s.starts ∧
    (endChecker c r s).draws = s.draws ∧ (endChecker c r s).pending = s.pending := by
  simp [endChecker]

@[simp] theorem takeCheckEnd_frame (c : CheckerId) :
    (takeCheckEnd c s).lanes = s.lanes ∧ (takeCheckEnd c s).stores = s.stores ∧
    (takeCheckEnd c s).survey = s.survey ∧ (takeCheckEnd c s).timing = s.timing ∧
    (takeCheckEnd c s).map = s.map ∧ (takeCheckEnd c s).hold = s.hold ∧ (takeCheckEnd c s).egress = s.egress ∧
    (takeCheckEnd c s).generators = s.generators ∧ (takeCheckEnd c s).channel = s.channel ∧
    (takeCheckEnd c s).dispatcher = s.dispatcher ∧ (takeCheckEnd c s).loader = s.loader ∧
    (takeCheckEnd c s).params = s.params ∧ (takeCheckEnd c s).address = s.address ∧
    (takeCheckEnd c s).straps = s.straps ∧ (takeCheckEnd c s).starts = s.starts ∧
    (takeCheckEnd c s).draws = s.draws ∧ (takeCheckEnd c s).pending = s.pending := by
  unfold takeCheckEnd
  split <;> simp

@[simp] theorem loseChecker_frame (l : LaneId) (c : CheckerId) :
    (loseChecker l c s).lanes = s.lanes ∧ (loseChecker l c s).stores = s.stores ∧
    (loseChecker l c s).survey = s.survey ∧ (loseChecker l c s).timing = s.timing ∧
    (loseChecker l c s).map = s.map ∧ (loseChecker l c s).hold = s.hold ∧
    (loseChecker l c s).egress = s.egress ∧ (loseChecker l c s).generators = s.generators ∧
    (loseChecker l c s).channel = s.channel ∧ (loseChecker l c s).dispatcher = s.dispatcher ∧
    (loseChecker l c s).loader = s.loader ∧ (loseChecker l c s).params = s.params ∧
    (loseChecker l c s).address = s.address ∧ (loseChecker l c s).straps = s.straps ∧
    (loseChecker l c s).starts = s.starts ∧ (loseChecker l c s).draws = s.draws ∧
    (loseChecker l c s).pending = s.pending := by
  unfold loseChecker
  split <;> simp

@[simp] theorem loseCheckers_frame (l : LaneId) :
    (loseCheckers l s).lanes = s.lanes ∧ (loseCheckers l s).stores = s.stores ∧
    (loseCheckers l s).survey = s.survey ∧ (loseCheckers l s).timing = s.timing ∧
    (loseCheckers l s).map = s.map ∧ (loseCheckers l s).hold = s.hold ∧ (loseCheckers l s).egress = s.egress ∧
    (loseCheckers l s).generators = s.generators ∧ (loseCheckers l s).channel = s.channel ∧
    (loseCheckers l s).dispatcher = s.dispatcher ∧ (loseCheckers l s).loader = s.loader ∧
    (loseCheckers l s).params = s.params ∧ (loseCheckers l s).address = s.address ∧
    (loseCheckers l s).straps = s.straps ∧ (loseCheckers l s).starts = s.starts ∧
    (loseCheckers l s).draws = s.draws ∧ (loseCheckers l s).pending = s.pending := by
  refine ⟨
    foldl_leaves State.lanes _ (fun s c => by simp) _ _,
    foldl_leaves State.stores _ (fun s c => by simp) _ _,
    foldl_leaves State.survey _ (fun s c => by simp) _ _,
    foldl_leaves State.timing _ (fun s c => by simp) _ _,
    foldl_leaves State.map _ (fun s c => by simp) _ _,
    foldl_leaves State.hold _ (fun s c => by simp) _ _,
    foldl_leaves State.egress _ (fun s c => by simp) _ _,
    foldl_leaves State.generators _ (fun s c => by simp) _ _,
    foldl_leaves State.channel _ (fun s c => by simp) _ _,
    foldl_leaves State.dispatcher _ (fun s c => by simp) _ _,
    foldl_leaves State.loader _ (fun s c => by simp) _ _,
    foldl_leaves State.params _ (fun s c => by simp) _ _,
    foldl_leaves State.address _ (fun s c => by simp) _ _,
    foldl_leaves State.straps _ (fun s c => by simp) _ _,
    foldl_leaves State.starts _ (fun s c => by simp) _ _,
    foldl_leaves State.draws _ (fun s c => by simp) _ _,
    foldl_leaves State.pending _ (fun s c => by simp) _ _⟩

@[simp] theorem raiseCheckLost_frame (b : Tab 4 Checker) :
    (raiseCheckLost b s).lanes = s.lanes ∧ (raiseCheckLost b s).stores = s.stores ∧
    (raiseCheckLost b s).survey = s.survey ∧ (raiseCheckLost b s).timing = s.timing ∧
    (raiseCheckLost b s).map = s.map ∧ (raiseCheckLost b s).hold = s.hold ∧
    (raiseCheckLost b s).egress = s.egress ∧ (raiseCheckLost b s).generators = s.generators ∧
    (raiseCheckLost b s).checkers = s.checkers ∧ (raiseCheckLost b s).channel = s.channel ∧
    (raiseCheckLost b s).dispatcher = s.dispatcher ∧ (raiseCheckLost b s).loader = s.loader ∧
    (raiseCheckLost b s).params = s.params ∧ (raiseCheckLost b s).address = s.address ∧
    (raiseCheckLost b s).straps = s.straps ∧ (raiseCheckLost b s).starts = s.starts ∧
    (raiseCheckLost b s).draws = s.draws ∧ (raiseCheckLost b s).pending = s.pending := by
  refine ⟨
    foldl_leaves State.lanes _ (fun s c => by split <;> simp) _ _,
    foldl_leaves State.stores _ (fun s c => by split <;> simp) _ _,
    foldl_leaves State.survey _ (fun s c => by split <;> simp) _ _,
    foldl_leaves State.timing _ (fun s c => by split <;> simp) _ _,
    foldl_leaves State.map _ (fun s c => by split <;> simp) _ _,
    foldl_leaves State.hold _ (fun s c => by split <;> simp) _ _,
    foldl_leaves State.egress _ (fun s c => by split <;> simp) _ _,
    foldl_leaves State.generators _ (fun s c => by split <;> simp) _ _,
    foldl_leaves State.checkers _ (fun s c => by split <;> simp) _ _,
    foldl_leaves State.channel _ (fun s c => by split <;> simp) _ _,
    foldl_leaves State.dispatcher _ (fun s c => by split <;> simp) _ _,
    foldl_leaves State.loader _ (fun s c => by split <;> simp) _ _,
    foldl_leaves State.params _ (fun s c => by split <;> simp) _ _,
    foldl_leaves State.address _ (fun s c => by split <;> simp) _ _,
    foldl_leaves State.straps _ (fun s c => by split <;> simp) _ _,
    foldl_leaves State.starts _ (fun s c => by split <;> simp) _ _,
    foldl_leaves State.draws _ (fun s c => by split <;> simp) _ _,
    foldl_leaves State.pending _ (fun s c => by split <;> simp) _ _⟩

@[simp] theorem sampleCheckers_frame (d : Tab 16 (Option FrameRecord)) :
    (sampleCheckers d s).lanes = s.lanes ∧ (sampleCheckers d s).stores = s.stores ∧
    (sampleCheckers d s).survey = s.survey ∧ (sampleCheckers d s).timing = s.timing ∧
    (sampleCheckers d s).map = s.map ∧ (sampleCheckers d s).hold = s.hold ∧
    (sampleCheckers d s).egress = s.egress ∧ (sampleCheckers d s).generators = s.generators ∧
    (sampleCheckers d s).channel = s.channel ∧ (sampleCheckers d s).dispatcher = s.dispatcher ∧
    (sampleCheckers d s).loader = s.loader ∧ (sampleCheckers d s).params = s.params ∧
    (sampleCheckers d s).address = s.address ∧ (sampleCheckers d s).straps = s.straps ∧
    (sampleCheckers d s).starts = s.starts ∧ (sampleCheckers d s).draws = s.draws ∧
    (sampleCheckers d s).pending = s.pending := by
  simp [sampleCheckers]


/-! ### Service channel -/

@[simp] theorem dropRequest_frame :
    (dropRequest s).lanes = s.lanes ∧ (dropRequest s).stores = s.stores ∧ (dropRequest s).survey = s.survey ∧
    (dropRequest s).timing = s.timing ∧ (dropRequest s).map = s.map ∧ (dropRequest s).hold = s.hold ∧
    (dropRequest s).egress = s.egress ∧ (dropRequest s).generators = s.generators ∧
    (dropRequest s).checkers = s.checkers ∧ (dropRequest s).dispatcher = s.dispatcher ∧
    (dropRequest s).loader = s.loader ∧ (dropRequest s).params = s.params ∧
    (dropRequest s).address = s.address ∧ (dropRequest s).straps = s.straps ∧
    (dropRequest s).starts = s.starts ∧ (dropRequest s).draws = s.draws ∧ (dropRequest s).pending = s.pending := by
  simp [dropRequest]

@[simp] theorem answerOrDrop_frame (ws : List Word) :
    (answerOrDrop ws s).lanes = s.lanes ∧ (answerOrDrop ws s).stores = s.stores ∧
    (answerOrDrop ws s).survey = s.survey ∧ (answerOrDrop ws s).timing = s.timing ∧
    (answerOrDrop ws s).map = s.map ∧ (answerOrDrop ws s).hold = s.hold ∧
    (answerOrDrop ws s).egress = s.egress ∧ (answerOrDrop ws s).generators = s.generators ∧
    (answerOrDrop ws s).checkers = s.checkers ∧ (answerOrDrop ws s).dispatcher = s.dispatcher ∧
    (answerOrDrop ws s).loader = s.loader ∧ (answerOrDrop ws s).params = s.params ∧
    (answerOrDrop ws s).address = s.address ∧ (answerOrDrop ws s).straps = s.straps ∧
    (answerOrDrop ws s).starts = s.starts ∧ (answerOrDrop ws s).draws = s.draws ∧
    (answerOrDrop ws s).pending = s.pending := by
  unfold answerOrDrop
  split <;> simp

@[simp] theorem unicastArrives_frame (m : IntakeMessage) :
    (unicastArrives m s).lanes = s.lanes ∧ (unicastArrives m s).stores = s.stores ∧
    (unicastArrives m s).survey = s.survey ∧ (unicastArrives m s).timing = s.timing ∧
    (unicastArrives m s).map = s.map ∧ (unicastArrives m s).hold = s.hold ∧
    (unicastArrives m s).egress = s.egress ∧ (unicastArrives m s).generators = s.generators ∧
    (unicastArrives m s).checkers = s.checkers ∧ (unicastArrives m s).dispatcher = s.dispatcher ∧
    (unicastArrives m s).loader = s.loader ∧ (unicastArrives m s).params = s.params ∧
    (unicastArrives m s).address = s.address ∧ (unicastArrives m s).straps = s.straps ∧
    (unicastArrives m s).starts = s.starts ∧ (unicastArrives m s).draws = s.draws ∧
    (unicastArrives m s).pending = s.pending := by
  unfold unicastArrives
  (repeat' split) <;> simp

@[simp] theorem groupArrives_frame (m : IntakeMessage) :
    (groupArrives m s).lanes = s.lanes ∧ (groupArrives m s).stores = s.stores ∧
    (groupArrives m s).survey = s.survey ∧ (groupArrives m s).timing = s.timing ∧
    (groupArrives m s).map = s.map ∧ (groupArrives m s).hold = s.hold ∧ (groupArrives m s).egress = s.egress ∧
    (groupArrives m s).generators = s.generators ∧ (groupArrives m s).checkers = s.checkers ∧
    (groupArrives m s).dispatcher = s.dispatcher ∧ (groupArrives m s).notices = s.notices ∧
    (groupArrives m s).loader = s.loader ∧ (groupArrives m s).params = s.params ∧
    (groupArrives m s).address = s.address ∧ (groupArrives m s).straps = s.straps ∧
    (groupArrives m s).starts = s.starts ∧ (groupArrives m s).draws = s.draws ∧
    (groupArrives m s).pending = s.pending := by
  unfold groupArrives
  (repeat' split) <;> simp

@[simp] theorem overflowWord_frame :
    (overflowWord s).lanes = s.lanes ∧ (overflowWord s).stores = s.stores ∧
    (overflowWord s).survey = s.survey ∧ (overflowWord s).timing = s.timing ∧ (overflowWord s).map = s.map ∧
    (overflowWord s).hold = s.hold ∧ (overflowWord s).egress = s.egress ∧
    (overflowWord s).generators = s.generators ∧ (overflowWord s).checkers = s.checkers ∧
    (overflowWord s).dispatcher = s.dispatcher ∧ (overflowWord s).loader = s.loader ∧
    (overflowWord s).params = s.params ∧ (overflowWord s).address = s.address ∧
    (overflowWord s).straps = s.straps ∧ (overflowWord s).starts = s.starts ∧
    (overflowWord s).draws = s.draws ∧ (overflowWord s).pending = s.pending := by
  simp [overflowWord]

@[simp] theorem placeAbort_frame :
    (placeAbort s).lanes = s.lanes ∧ (placeAbort s).stores = s.stores ∧ (placeAbort s).survey = s.survey ∧
    (placeAbort s).timing = s.timing ∧ (placeAbort s).map = s.map ∧ (placeAbort s).hold = s.hold ∧
    (placeAbort s).egress = s.egress ∧ (placeAbort s).generators = s.generators ∧
    (placeAbort s).checkers = s.checkers ∧ (placeAbort s).dispatcher = s.dispatcher ∧
    (placeAbort s).notices = s.notices ∧ (placeAbort s).loader = s.loader ∧ (placeAbort s).params = s.params ∧
    (placeAbort s).address = s.address ∧ (placeAbort s).straps = s.straps ∧ (placeAbort s).starts = s.starts ∧
    (placeAbort s).draws = s.draws ∧ (placeAbort s).pending = s.pending := by
  unfold placeAbort
  split <;> simp

@[simp] theorem forwardHead_frame (w : Word) :
    (forwardHead w s).lanes = s.lanes ∧ (forwardHead w s).stores = s.stores ∧
    (forwardHead w s).survey = s.survey ∧ (forwardHead w s).timing = s.timing ∧ (forwardHead w s).map = s.map ∧
    (forwardHead w s).hold = s.hold ∧ (forwardHead w s).egress = s.egress ∧
    (forwardHead w s).generators = s.generators ∧ (forwardHead w s).checkers = s.checkers ∧
    (forwardHead w s).dispatcher = s.dispatcher ∧ (forwardHead w s).loader = s.loader ∧
    (forwardHead w s).params = s.params ∧ (forwardHead w s).address = s.address ∧
    (forwardHead w s).straps = s.straps ∧ (forwardHead w s).starts = s.starts ∧
    (forwardHead w s).draws = s.draws ∧ (forwardHead w s).pending = s.pending := by
  unfold forwardHead
  split <;> simp

@[simp] theorem forwardLater_frame (b : Bool) (w : Word) :
    (forwardLater b w s).lanes = s.lanes ∧ (forwardLater b w s).stores = s.stores ∧
    (forwardLater b w s).survey = s.survey ∧ (forwardLater b w s).timing = s.timing ∧
    (forwardLater b w s).map = s.map ∧ (forwardLater b w s).hold = s.hold ∧
    (forwardLater b w s).egress = s.egress ∧ (forwardLater b w s).generators = s.generators ∧
    (forwardLater b w s).checkers = s.checkers ∧ (forwardLater b w s).dispatcher = s.dispatcher ∧
    (forwardLater b w s).loader = s.loader ∧ (forwardLater b w s).params = s.params ∧
    (forwardLater b w s).address = s.address ∧ (forwardLater b w s).straps = s.straps ∧
    (forwardLater b w s).starts = s.starts ∧ (forwardLater b w s).draws = s.draws ∧
    (forwardLater b w s).pending = s.pending := by
  unfold forwardLater
  (repeat' split) <;> simp

@[simp] theorem storeOwedAbort_frame :
    (storeOwedAbort s).lanes = s.lanes ∧ (storeOwedAbort s).stores = s.stores ∧
    (storeOwedAbort s).survey = s.survey ∧ (storeOwedAbort s).timing = s.timing ∧
    (storeOwedAbort s).map = s.map ∧ (storeOwedAbort s).hold = s.hold ∧ (storeOwedAbort s).egress = s.egress ∧
    (storeOwedAbort s).generators = s.generators ∧ (storeOwedAbort s).checkers = s.checkers ∧
    (storeOwedAbort s).dispatcher = s.dispatcher ∧ (storeOwedAbort s).notices = s.notices ∧
    (storeOwedAbort s).loader = s.loader ∧ (storeOwedAbort s).params = s.params ∧
    (storeOwedAbort s).address = s.address ∧ (storeOwedAbort s).straps = s.straps ∧
    (storeOwedAbort s).starts = s.starts ∧ (storeOwedAbort s).draws = s.draws ∧
    (storeOwedAbort s).pending = s.pending := by
  unfold storeOwedAbort
  split <;> simp

@[simp] theorem openMessage_frame (w : Word) :
    (openMessage w s).lanes = s.lanes ∧ (openMessage w s).stores = s.stores ∧
    (openMessage w s).survey = s.survey ∧ (openMessage w s).timing = s.timing ∧ (openMessage w s).map = s.map ∧
    (openMessage w s).hold = s.hold ∧ (openMessage w s).egress = s.egress ∧
    (openMessage w s).generators = s.generators ∧ (openMessage w s).checkers = s.checkers ∧
    (openMessage w s).dispatcher = s.dispatcher ∧ (openMessage w s).loader = s.loader ∧
    (openMessage w s).params = s.params ∧ (openMessage w s).address = s.address ∧
    (openMessage w s).straps = s.straps ∧ (openMessage w s).starts = s.starts ∧
    (openMessage w s).draws = s.draws ∧ (openMessage w s).pending = s.pending := by
  unfold openMessage
  split <;> simp

@[simp] theorem abandonMessage_frame :
    (abandonMessage s).lanes = s.lanes ∧ (abandonMessage s).stores = s.stores ∧
    (abandonMessage s).survey = s.survey ∧ (abandonMessage s).timing = s.timing ∧
    (abandonMessage s).map = s.map ∧ (abandonMessage s).hold = s.hold ∧ (abandonMessage s).egress = s.egress ∧
    (abandonMessage s).generators = s.generators ∧ (abandonMessage s).checkers = s.checkers ∧
    (abandonMessage s).dispatcher = s.dispatcher ∧ (abandonMessage s).notices = s.notices ∧
    (abandonMessage s).loader = s.loader ∧ (abandonMessage s).params = s.params ∧
    (abandonMessage s).address = s.address ∧ (abandonMessage s).straps = s.straps ∧
    (abandonMessage s).starts = s.starts ∧ (abandonMessage s).draws = s.draws ∧
    (abandonMessage s).pending = s.pending := by
  unfold abandonMessage
  split
  · simp
  · split <;> simp

@[simp] theorem judgeMessage_frame (m : OpenMessage) (w : Word) :
    (judgeMessage m w s).lanes = s.lanes ∧ (judgeMessage m w s).stores = s.stores ∧
    (judgeMessage m w s).survey = s.survey ∧ (judgeMessage m w s).timing = s.timing ∧
    (judgeMessage m w s).map = s.map ∧ (judgeMessage m w s).hold = s.hold ∧
    (judgeMessage m w s).egress = s.egress ∧ (judgeMessage m w s).generators = s.generators ∧
    (judgeMessage m w s).checkers = s.checkers ∧ (judgeMessage m w s).dispatcher = s.dispatcher ∧
    (judgeMessage m w s).loader = s.loader ∧ (judgeMessage m w s).params = s.params ∧
    (judgeMessage m w s).address = s.address ∧ (judgeMessage m w s).straps = s.straps ∧
    (judgeMessage m w s).starts = s.starts ∧ (judgeMessage m w s).draws = s.draws ∧
    (judgeMessage m w s).pending = s.pending := by
  unfold judgeMessage
  (repeat' split) <;> simp

@[simp] theorem takeBody_frame (w : Word) (m : OpenMessage) :
    (takeBody w m s).lanes = s.lanes ∧ (takeBody w m s).stores = s.stores ∧
    (takeBody w m s).survey = s.survey ∧ (takeBody w m s).timing = s.timing ∧ (takeBody w m s).map = s.map ∧
    (takeBody w m s).hold = s.hold ∧ (takeBody w m s).egress = s.egress ∧
    (takeBody w m s).generators = s.generators ∧ (takeBody w m s).checkers = s.checkers ∧
    (takeBody w m s).dispatcher = s.dispatcher ∧ (takeBody w m s).loader = s.loader ∧
    (takeBody w m s).params = s.params ∧ (takeBody w m s).address = s.address ∧
    (takeBody w m s).straps = s.straps ∧ (takeBody w m s).starts = s.starts ∧
    (takeBody w m s).draws = s.draws ∧ (takeBody w m s).pending = s.pending := by
  unfold takeBody
  (repeat' split) <;> simp

@[simp] theorem takeTail_frame (w : Word) (m : OpenMessage) :
    (takeTail w m s).lanes = s.lanes ∧ (takeTail w m s).stores = s.stores ∧
    (takeTail w m s).survey = s.survey ∧ (takeTail w m s).timing = s.timing ∧ (takeTail w m s).map = s.map ∧
    (takeTail w m s).hold = s.hold ∧ (takeTail w m s).egress = s.egress ∧
    (takeTail w m s).generators = s.generators ∧ (takeTail w m s).checkers = s.checkers ∧
    (takeTail w m s).dispatcher = s.dispatcher ∧ (takeTail w m s).loader = s.loader ∧
    (takeTail w m s).params = s.params ∧ (takeTail w m s).address = s.address ∧
    (takeTail w m s).straps = s.straps ∧ (takeTail w m s).starts = s.starts ∧
    (takeTail w m s).draws = s.draws ∧ (takeTail w m s).pending = s.pending := by
  simp [takeTail]

@[simp] theorem parseWord_frame (h : Heard) :
    (parseWord h s).lanes = s.lanes ∧ (parseWord h s).stores = s.stores ∧ (parseWord h s).survey = s.survey ∧
    (parseWord h s).timing = s.timing ∧ (parseWord h s).map = s.map ∧ (parseWord h s).hold = s.hold ∧
    (parseWord h s).egress = s.egress ∧ (parseWord h s).generators = s.generators ∧
    (parseWord h s).checkers = s.checkers ∧ (parseWord h s).dispatcher = s.dispatcher ∧
    (parseWord h s).loader = s.loader ∧ (parseWord h s).params = s.params ∧
    (parseWord h s).address = s.address ∧ (parseWord h s).straps = s.straps ∧
    (parseWord h s).starts = s.starts ∧ (parseWord h s).draws = s.draws ∧ (parseWord h s).pending = s.pending := by
  unfold parseWord
  split <;> simp

@[simp] theorem parserTakes_frame (d : Tab 16 (Option FrameRecord)) :
    (parserTakes d s).lanes = s.lanes ∧ (parserTakes d s).stores = s.stores ∧
    (parserTakes d s).survey = s.survey ∧ (parserTakes d s).timing = s.timing ∧ (parserTakes d s).map = s.map ∧
    (parserTakes d s).hold = s.hold ∧ (parserTakes d s).egress = s.egress ∧
    (parserTakes d s).generators = s.generators ∧ (parserTakes d s).checkers = s.checkers ∧
    (parserTakes d s).dispatcher = s.dispatcher ∧ (parserTakes d s).loader = s.loader ∧
    (parserTakes d s).params = s.params ∧ (parserTakes d s).address = s.address ∧
    (parserTakes d s).straps = s.straps ∧ (parserTakes d s).starts = s.starts ∧
    (parserTakes d s).draws = s.draws ∧ (parserTakes d s).pending = s.pending := by
  unfold parserTakes
  split <;> simp

@[simp] theorem parserLosesLane_frame (l : LaneId) :
    (parserLosesLane l s).lanes = s.lanes ∧ (parserLosesLane l s).stores = s.stores ∧
    (parserLosesLane l s).survey = s.survey ∧ (parserLosesLane l s).timing = s.timing ∧
    (parserLosesLane l s).map = s.map ∧ (parserLosesLane l s).hold = s.hold ∧
    (parserLosesLane l s).egress = s.egress ∧ (parserLosesLane l s).generators = s.generators ∧
    (parserLosesLane l s).checkers = s.checkers ∧ (parserLosesLane l s).dispatcher = s.dispatcher ∧
    (parserLosesLane l s).notices = s.notices ∧ (parserLosesLane l s).loader = s.loader ∧
    (parserLosesLane l s).params = s.params ∧ (parserLosesLane l s).address = s.address ∧
    (parserLosesLane l s).straps = s.straps ∧ (parserLosesLane l s).starts = s.starts ∧
    (parserLosesLane l s).draws = s.draws ∧ (parserLosesLane l s).pending = s.pending := by
  unfold parserLosesLane
  split <;> simp

@[simp] theorem giveForward_frame (w : Word) :
    (giveForward w s).2.lanes = s.lanes ∧ (giveForward w s).2.stores = s.stores ∧
    (giveForward w s).2.survey = s.survey ∧ (giveForward w s).2.timing = s.timing ∧
    (giveForward w s).2.map = s.map ∧ (giveForward w s).2.hold = s.hold ∧
    (giveForward w s).2.egress = s.egress ∧ (giveForward w s).2.generators = s.generators ∧
    (giveForward w s).2.checkers = s.checkers ∧ (giveForward w s).2.dispatcher = s.dispatcher ∧
    (giveForward w s).2.notices = s.notices ∧ (giveForward w s).2.loader = s.loader ∧
    (giveForward w s).2.params = s.params ∧ (giveForward w s).2.address = s.address ∧
    (giveForward w s).2.straps = s.straps ∧ (giveForward w s).2.starts = s.starts ∧
    (giveForward w s).2.draws = s.draws ∧ (giveForward w s).2.pending = s.pending := by
  simp [giveForward]

@[simp] theorem giveLocal_frame :
    (giveLocal s).2.lanes = s.lanes ∧ (giveLocal s).2.stores = s.stores ∧ (giveLocal s).2.survey = s.survey ∧
    (giveLocal s).2.timing = s.timing ∧ (giveLocal s).2.map = s.map ∧ (giveLocal s).2.hold = s.hold ∧
    (giveLocal s).2.egress = s.egress ∧ (giveLocal s).2.generators = s.generators ∧
    (giveLocal s).2.checkers = s.checkers ∧ (giveLocal s).2.dispatcher = s.dispatcher ∧
    (giveLocal s).2.notices = s.notices ∧ (giveLocal s).2.loader = s.loader ∧
    (giveLocal s).2.params = s.params ∧ (giveLocal s).2.address = s.address ∧
    (giveLocal s).2.straps = s.straps ∧ (giveLocal s).2.starts = s.starts ∧ (giveLocal s).2.draws = s.draws ∧
    (giveLocal s).2.pending = s.pending := by
  unfold giveLocal
  split <;> simp

@[simp] theorem chooseMessage_frame :
    (chooseMessage s).2.lanes = s.lanes ∧ (chooseMessage s).2.stores = s.stores ∧
    (chooseMessage s).2.survey = s.survey ∧ (chooseMessage s).2.timing = s.timing ∧
    (chooseMessage s).2.map = s.map ∧ (chooseMessage s).2.hold = s.hold ∧
    (chooseMessage s).2.egress = s.egress ∧ (chooseMessage s).2.generators = s.generators ∧
    (chooseMessage s).2.checkers = s.checkers ∧ (chooseMessage s).2.dispatcher = s.dispatcher ∧
    (chooseMessage s).2.notices = s.notices ∧ (chooseMessage s).2.loader = s.loader ∧
    (chooseMessage s).2.params = s.params ∧ (chooseMessage s).2.address = s.address ∧
    (chooseMessage s).2.straps = s.straps ∧ (chooseMessage s).2.starts = s.starts ∧
    (chooseMessage s).2.draws = s.draws ∧ (chooseMessage s).2.pending = s.pending := by
  unfold chooseMessage
  (repeat' split) <;> simp

@[simp] theorem arbiterGives_frame :
    (arbiterGives s).2.lanes = s.lanes ∧ (arbiterGives s).2.stores = s.stores ∧
    (arbiterGives s).2.survey = s.survey ∧ (arbiterGives s).2.timing = s.timing ∧
    (arbiterGives s).2.map = s.map ∧ (arbiterGives s).2.hold = s.hold ∧ (arbiterGives s).2.egress = s.egress ∧
    (arbiterGives s).2.generators = s.generators ∧ (arbiterGives s).2.checkers = s.checkers ∧
    (arbiterGives s).2.dispatcher = s.dispatcher ∧ (arbiterGives s).2.notices = s.notices ∧
    (arbiterGives s).2.loader = s.loader ∧ (arbiterGives s).2.params = s.params ∧
    (arbiterGives s).2.address = s.address ∧ (arbiterGives s).2.straps = s.straps ∧
    (arbiterGives s).2.starts = s.starts ∧ (arbiterGives s).2.draws = s.draws ∧
    (arbiterGives s).2.pending = s.pending := by
  unfold arbiterGives
  (repeat' split) <;> simp

@[simp] theorem channelAtStart_frame (d : Tab 16 (Option FrameRecord)) :
    (channelAtStart d s).2.lanes = s.lanes ∧ (channelAtStart d s).2.stores = s.stores ∧
    (channelAtStart d s).2.survey = s.survey ∧ (channelAtStart d s).2.timing = s.timing ∧
    (channelAtStart d s).2.map = s.map ∧ (channelAtStart d s).2.hold = s.hold ∧
    (channelAtStart d s).2.egress = s.egress ∧ (channelAtStart d s).2.generators = s.generators ∧
    (channelAtStart d s).2.checkers = s.checkers ∧ (channelAtStart d s).2.dispatcher = s.dispatcher ∧
    (channelAtStart d s).2.loader = s.loader ∧ (channelAtStart d s).2.params = s.params ∧
    (channelAtStart d s).2.address = s.address ∧ (channelAtStart d s).2.straps = s.straps ∧
    (channelAtStart d s).2.starts = s.starts ∧ (channelAtStart d s).2.pending = s.pending := by
  unfold channelAtStart parserThenArbiter arbiterThenParser
  (repeat' split) <;> simp

@[simp] theorem changeLanes_frame (c : LaneChange) :
    (changeLanes c s).lanes = s.lanes ∧ (changeLanes c s).stores = s.stores ∧
    (changeLanes c s).survey = s.survey ∧ (changeLanes c s).timing = s.timing ∧ (changeLanes c s).map = s.map ∧
    (changeLanes c s).hold = s.hold ∧ (changeLanes c s).egress = s.egress ∧
    (changeLanes c s).generators = s.generators ∧ (changeLanes c s).checkers = s.checkers ∧
    (changeLanes c s).dispatcher = s.dispatcher ∧ (changeLanes c s).notices = s.notices ∧
    (changeLanes c s).loader = s.loader ∧ (changeLanes c s).params = s.params ∧
    (changeLanes c s).address = s.address ∧ (changeLanes c s).straps = s.straps ∧
    (changeLanes c s).starts = s.starts ∧ (changeLanes c s).draws = s.draws ∧
    (changeLanes c s).pending = s.pending := by
  unfold changeLanes
  (repeat' split) <;> simp

@[simp] theorem takeLaneChange_frame :
    (takeLaneChange s).lanes = s.lanes ∧ (takeLaneChange s).stores = s.stores ∧
    (takeLaneChange s).survey = s.survey ∧ (takeLaneChange s).timing = s.timing ∧
    (takeLaneChange s).map = s.map ∧ (takeLaneChange s).hold = s.hold ∧ (takeLaneChange s).egress = s.egress ∧
    (takeLaneChange s).generators = s.generators ∧ (takeLaneChange s).checkers = s.checkers ∧
    (takeLaneChange s).notices = s.notices ∧ (takeLaneChange s).loader = s.loader ∧
    (takeLaneChange s).params = s.params ∧ (takeLaneChange s).address = s.address ∧
    (takeLaneChange s).straps = s.straps ∧ (takeLaneChange s).starts = s.starts ∧
    (takeLaneChange s).draws = s.draws ∧ (takeLaneChange s).pending = s.pending := by
  unfold takeLaneChange
  (repeat' split) <;> simp


/-! ### The master frame start -/

@[simp] theorem surveyAtStart_frame (b : Tab 16 Store) :
    (surveyAtStart b s).lanes = s.lanes ∧ (surveyAtStart b s).stores = s.stores ∧
    (surveyAtStart b s).timing = s.timing ∧ (surveyAtStart b s).map = s.map ∧
    (surveyAtStart b s).hold = s.hold ∧ (surveyAtStart b s).egress = s.egress ∧
    (surveyAtStart b s).generators = s.generators ∧ (surveyAtStart b s).checkers = s.checkers ∧
    (surveyAtStart b s).channel = s.channel ∧ (surveyAtStart b s).dispatcher = s.dispatcher ∧
    (surveyAtStart b s).notices = s.notices ∧ (surveyAtStart b s).loader = s.loader ∧
    (surveyAtStart b s).params = s.params ∧ (surveyAtStart b s).address = s.address ∧
    (surveyAtStart b s).straps = s.straps ∧ (surveyAtStart b s).starts = s.starts ∧
    (surveyAtStart b s).draws = s.draws ∧ (surveyAtStart b s).pending = s.pending := by
  simp [surveyAtStart]

@[simp] theorem updateHold_frame (d : Tab 16 (Option FrameRecord)) :
    (updateHold d s).lanes = s.lanes ∧ (updateHold d s).stores = s.stores ∧
    (updateHold d s).survey = s.survey ∧ (updateHold d s).timing = s.timing ∧ (updateHold d s).map = s.map ∧
    (updateHold d s).egress = s.egress ∧ (updateHold d s).generators = s.generators ∧
    (updateHold d s).checkers = s.checkers ∧ (updateHold d s).channel = s.channel ∧
    (updateHold d s).dispatcher = s.dispatcher ∧ (updateHold d s).notices = s.notices ∧
    (updateHold d s).loader = s.loader ∧ (updateHold d s).params = s.params ∧
    (updateHold d s).address = s.address ∧ (updateHold d s).straps = s.straps ∧
    (updateHold d s).starts = s.starts ∧ (updateHold d s).draws = s.draws ∧ (updateHold d s).pending = s.pending := by
  simp [updateHold]

@[simp] theorem sendFrames_frame (g : Given) (w : Tab 16 (Option (Tab 40 Word))) :
    (sendFrames g w s).lanes = s.lanes ∧ (sendFrames g w s).stores = s.stores ∧
    (sendFrames g w s).survey = s.survey ∧ (sendFrames g w s).timing = s.timing ∧
    (sendFrames g w s).map = s.map ∧ (sendFrames g w s).hold = s.hold ∧
    (sendFrames g w s).generators = s.generators ∧ (sendFrames g w s).checkers = s.checkers ∧
    (sendFrames g w s).channel = s.channel ∧ (sendFrames g w s).dispatcher = s.dispatcher ∧
    (sendFrames g w s).notices = s.notices ∧ (sendFrames g w s).loader = s.loader ∧
    (sendFrames g w s).params = s.params ∧ (sendFrames g w s).address = s.address ∧
    (sendFrames g w s).straps = s.straps ∧ (sendFrames g w s).starts = s.starts ∧
    (sendFrames g w s).draws = s.draws ∧ (sendFrames g w s).pending = s.pending := by
  simp [sendFrames]

@[simp] theorem openStart_frame (o : Option LaneId) :
    (openStart o s).lanes = s.lanes ∧ (openStart o s).survey = s.survey ∧ (openStart o s).map = s.map ∧
    (openStart o s).hold = s.hold ∧ (openStart o s).egress = s.egress ∧
    (openStart o s).generators = s.generators ∧ (openStart o s).checkers = s.checkers ∧
    (openStart o s).channel = s.channel ∧ (openStart o s).dispatcher = s.dispatcher ∧
    (openStart o s).loader = s.loader ∧ (openStart o s).params = s.params ∧
    (openStart o s).address = s.address ∧ (openStart o s).straps = s.straps ∧
    (openStart o s).starts = s.starts ∧ (openStart o s).draws = s.draws ∧ (openStart o s).pending = s.pending := by
  simp [openStart]

@[simp] theorem mapAndMeasure_frame (b : State) :
    (mapAndMeasure b s).lanes = s.lanes ∧ (mapAndMeasure b s).stores = s.stores ∧
    (mapAndMeasure b s).timing = s.timing ∧ (mapAndMeasure b s).hold = s.hold ∧
    (mapAndMeasure b s).egress = s.egress ∧ (mapAndMeasure b s).generators = s.generators ∧
    (mapAndMeasure b s).channel = s.channel ∧ (mapAndMeasure b s).dispatcher = s.dispatcher ∧
    (mapAndMeasure b s).loader = s.loader ∧ (mapAndMeasure b s).params = s.params ∧
    (mapAndMeasure b s).address = s.address ∧ (mapAndMeasure b s).straps = s.straps ∧
    (mapAndMeasure b s).starts = s.starts ∧ (mapAndMeasure b s).draws = s.draws ∧
    (mapAndMeasure b s).pending = s.pending := by
  simp [mapAndMeasure]

@[simp] theorem afterWords_frame (d : Tab 16 (Option FrameRecord)) :
    (afterWords d s).lanes = s.lanes ∧ (afterWords d s).stores = s.stores ∧
    (afterWords d s).survey = s.survey ∧ (afterWords d s).timing = s.timing ∧ (afterWords d s).map = s.map ∧
    (afterWords d s).egress = s.egress ∧ (afterWords d s).checkers = s.checkers ∧
    (afterWords d s).channel = s.channel ∧ (afterWords d s).dispatcher = s.dispatcher ∧
    (afterWords d s).notices = s.notices ∧ (afterWords d s).loader = s.loader ∧
    (afterWords d s).params = s.params ∧ (afterWords d s).address = s.address ∧
    (afterWords d s).straps = s.straps ∧ (afterWords d s).starts = s.starts ∧
    (afterWords d s).draws = s.draws ∧ (afterWords d s).pending = s.pending := by
  simp [afterWords]

@[simp] theorem switchAndSend_frame (d : Tab 16 (Option FrameRecord)) :
    (switchAndSend d s).lanes = s.lanes ∧ (switchAndSend d s).stores = s.stores ∧
    (switchAndSend d s).survey = s.survey ∧ (switchAndSend d s).timing = s.timing ∧
    (switchAndSend d s).map = s.map ∧ (switchAndSend d s).checkers = s.checkers ∧
    (switchAndSend d s).dispatcher = s.dispatcher ∧ (switchAndSend d s).loader = s.loader ∧
    (switchAndSend d s).params = s.params ∧ (switchAndSend d s).address = s.address ∧
    (switchAndSend d s).straps = s.straps ∧ (switchAndSend d s).starts = s.starts ∧
    (switchAndSend d s).pending = s.pending := by
  simp [switchAndSend]

@[simp] theorem beginStart_frame :
    (beginStart s).lanes = s.lanes ∧ (beginStart s).stores = s.stores ∧ (beginStart s).survey = s.survey ∧
    (beginStart s).timing = s.timing ∧ (beginStart s).map = s.map ∧ (beginStart s).hold = s.hold ∧
    (beginStart s).egress = s.egress ∧ (beginStart s).generators = s.generators ∧
    (beginStart s).checkers = s.checkers ∧ (beginStart s).notices = s.notices ∧
    (beginStart s).loader = s.loader ∧ (beginStart s).params = s.params ∧ (beginStart s).address = s.address ∧
    (beginStart s).straps = s.straps ∧ (beginStart s).draws = s.draws ∧ (beginStart s).pending = s.pending := by
  simp [beginStart]

@[simp] theorem reactToStart_frame (o : Option LaneId) :
    (reactToStart o s).lanes = s.lanes ∧ (reactToStart o s).dispatcher = s.dispatcher ∧
    (reactToStart o s).params = s.params ∧ (reactToStart o s).address = s.address ∧
    (reactToStart o s).straps = s.straps ∧ (reactToStart o s).starts = s.starts ∧
    (reactToStart o s).pending = s.pending := by
  simp [reactToStart]

@[simp] theorem masterFrameStart_frame (o : Option LaneId) :
    (masterFrameStart o s).lanes = s.lanes ∧ (masterFrameStart o s).params = s.params ∧
    (masterFrameStart o s).address = s.address ∧ (masterFrameStart o s).straps = s.straps ∧
    (masterFrameStart o s).pending = s.pending := by
  simp [masterFrameStart]


/-! ### Lanes -/

@[simp] theorem laneGone_frame (l : LaneId) :
    (laneGone l s).lanes = s.lanes ∧ (laneGone l s).survey = s.survey ∧ (laneGone l s).map = s.map ∧
    (laneGone l s).hold = s.hold ∧ (laneGone l s).egress = s.egress ∧
    (laneGone l s).generators = s.generators ∧ (laneGone l s).channel = s.channel ∧
    (laneGone l s).dispatcher = s.dispatcher ∧ (laneGone l s).loader = s.loader ∧
    (laneGone l s).params = s.params ∧ (laneGone l s).address = s.address ∧ (laneGone l s).straps = s.straps ∧
    (laneGone l s).starts = s.starts ∧ (laneGone l s).draws = s.draws ∧ (laneGone l s).pending = s.pending := by
  simp [laneGone]

@[simp] theorem loseAlignment_frame (l : LaneId) (c : Octet) :
    (loseAlignment l c s).map = s.map ∧ (loseAlignment l c s).hold = s.hold ∧
    (loseAlignment l c s).egress = s.egress ∧ (loseAlignment l c s).generators = s.generators ∧
    (loseAlignment l c s).dispatcher = s.dispatcher ∧ (loseAlignment l c s).loader = s.loader ∧
    (loseAlignment l c s).params = s.params ∧ (loseAlignment l c s).address = s.address ∧
    (loseAlignment l c s).straps = s.straps ∧ (loseAlignment l c s).starts = s.starts ∧
    (loseAlignment l c s).draws = s.draws ∧ (loseAlignment l c s).pending = s.pending := by
  simp [loseAlignment]

@[simp] theorem abandonConfirm_frame (l : LaneId) :
    (abandonConfirm l s).survey = s.survey ∧ (abandonConfirm l s).map = s.map ∧
    (abandonConfirm l s).hold = s.hold ∧ (abandonConfirm l s).egress = s.egress ∧
    (abandonConfirm l s).generators = s.generators ∧ (abandonConfirm l s).channel = s.channel ∧
    (abandonConfirm l s).dispatcher = s.dispatcher ∧ (abandonConfirm l s).loader = s.loader ∧
    (abandonConfirm l s).params = s.params ∧ (abandonConfirm l s).address = s.address ∧
    (abandonConfirm l s).straps = s.straps ∧ (abandonConfirm l s).starts = s.starts ∧
    (abandonConfirm l s).draws = s.draws ∧ (abandonConfirm l s).pending = s.pending := by
  simp [abandonConfirm]

@[simp] theorem resetLane_frame (l : LaneId) :
    (resetLane l s).map = s.map ∧ (resetLane l s).hold = s.hold ∧ (resetLane l s).egress = s.egress ∧
    (resetLane l s).generators = s.generators ∧ (resetLane l s).dispatcher = s.dispatcher ∧
    (resetLane l s).loader = s.loader ∧ (resetLane l s).params = s.params ∧
    (resetLane l s).address = s.address ∧ (resetLane l s).straps = s.straps ∧
    (resetLane l s).starts = s.starts ∧ (resetLane l s).draws = s.draws ∧ (resetLane l s).pending = s.pending := by
  unfold resetLane
  split <;> simp

@[simp] theorem loseSignal_frame (l : LaneId) :
    (loseSignal l s).map = s.map ∧ (loseSignal l s).hold = s.hold ∧ (loseSignal l s).egress = s.egress ∧
    (loseSignal l s).generators = s.generators ∧ (loseSignal l s).dispatcher = s.dispatcher ∧
    (loseSignal l s).loader = s.loader ∧ (loseSignal l s).params = s.params ∧
    (loseSignal l s).address = s.address ∧ (loseSignal l s).straps = s.straps ∧
    (loseSignal l s).starts = s.starts ∧ (loseSignal l s).draws = s.draws ∧ (loseSignal l s).pending = s.pending := by
  unfold loseSignal
  split <;> simp

@[simp] theorem disableLane_frame (l : LaneId) :
    (disableLane l s).map = s.map ∧ (disableLane l s).hold = s.hold ∧ (disableLane l s).egress = s.egress ∧
    (disableLane l s).generators = s.generators ∧ (disableLane l s).channel = s.channel ∧
    (disableLane l s).dispatcher = s.dispatcher ∧ (disableLane l s).loader = s.loader ∧
    (disableLane l s).params = s.params ∧ (disableLane l s).address = s.address ∧
    (disableLane l s).straps = s.straps ∧ (disableLane l s).starts = s.starts ∧
    (disableLane l s).draws = s.draws ∧ (disableLane l s).pending = s.pending := by
  simp [disableLane]

@[simp] theorem enableLane_frame (l : LaneId) :
    (enableLane l s).stores = s.stores ∧ (enableLane l s).survey = s.survey ∧
    (enableLane l s).timing = s.timing ∧ (enableLane l s).map = s.map ∧ (enableLane l s).hold = s.hold ∧
    (enableLane l s).egress = s.egress ∧ (enableLane l s).generators = s.generators ∧
    (enableLane l s).checkers = s.checkers ∧ (enableLane l s).channel = s.channel ∧
    (enableLane l s).dispatcher = s.dispatcher ∧ (enableLane l s).notices = s.notices ∧
    (enableLane l s).loader = s.loader ∧ (enableLane l s).params = s.params ∧
    (enableLane l s).address = s.address ∧ (enableLane l s).straps = s.straps ∧
    (enableLane l s).starts = s.starts ∧ (enableLane l s).draws = s.draws ∧ (enableLane l s).pending = s.pending := by
  unfold enableLane
  split <;> simp

@[simp] theorem switchLane_frame (b a : Num) (l : LaneId) :
    (switchLane b a s l).map = s.map ∧ (switchLane b a s l).hold = s.hold ∧
    (switchLane b a s l).egress = s.egress ∧ (switchLane b a s l).generators = s.generators ∧
    (switchLane b a s l).channel = s.channel ∧ (switchLane b a s l).dispatcher = s.dispatcher ∧
    (switchLane b a s l).loader = s.loader ∧ (switchLane b a s l).params = s.params ∧
    (switchLane b a s l).address = s.address ∧ (switchLane b a s l).straps = s.straps ∧
    (switchLane b a s l).starts = s.starts ∧ (switchLane b a s l).draws = s.draws ∧
    (switchLane b a s l).pending = s.pending := by
  unfold switchLane
  split <;> simp

@[simp] theorem writeIngressEnable_frame (v : Num) :
    (writeIngressEnable v s).map = s.map ∧ (writeIngressEnable v s).hold = s.hold ∧
    (writeIngressEnable v s).egress = s.egress ∧ (writeIngressEnable v s).generators = s.generators ∧
    (writeIngressEnable v s).channel = s.channel ∧ (writeIngressEnable v s).dispatcher = s.dispatcher ∧
    (writeIngressEnable v s).loader = s.loader ∧ (writeIngressEnable v s).address = s.address ∧
    (writeIngressEnable v s).straps = s.straps ∧ (writeIngressEnable v s).starts = s.starts ∧
    (writeIngressEnable v s).draws = s.draws ∧ (writeIngressEnable v s).pending = s.pending := by
  refine ⟨
    foldl_leaves State.map _ (fun s c => by simp) _ _,
    foldl_leaves State.hold _ (fun s c => by simp) _ _,
    foldl_leaves State.egress _ (fun s c => by simp) _ _,
    foldl_leaves State.generators _ (fun s c => by simp) _ _,
    foldl_leaves State.channel _ (fun s c => by simp) _ _,
    foldl_leaves State.dispatcher _ (fun s c => by simp) _ _,
    foldl_leaves State.loader _ (fun s c => by simp) _ _,
    foldl_leaves State.address _ (fun s c => by simp) _ _,
    foldl_leaves State.straps _ (fun s c => by simp) _ _,
    foldl_leaves State.starts _ (fun s c => by simp) _ _,
    foldl_leaves State.draws _ (fun s c => by simp) _ _,
    foldl_leaves State.pending _ (fun s c => by simp) _ _⟩

@[simp] theorem gainSync_frame (l : LaneId) (h : Heard) :
    (gainSync l h s).survey = s.survey ∧ (gainSync l h s).timing = s.timing ∧ (gainSync l h s).map = s.map ∧
    (gainSync l h s).hold = s.hold ∧ (gainSync l h s).egress = s.egress ∧
    (gainSync l h s).generators = s.generators ∧ (gainSync l h s).checkers = s.checkers ∧
    (gainSync l h s).channel = s.channel ∧ (gainSync l h s).dispatcher = s.dispatcher ∧
    (gainSync l h s).loader = s.loader ∧ (gainSync l h s).params = s.params ∧
    (gainSync l h s).address = s.address ∧ (gainSync l h s).straps = s.straps ∧
    (gainSync l h s).starts = s.starts ∧ (gainSync l h s).draws = s.draws ∧ (gainSync l h s).pending = s.pending := by
  simp [gainSync]

@[simp] theorem confirmMarker_frame (l : LaneId) (h : Heard) :
    (confirmMarker l h s).survey = s.survey ∧ (confirmMarker l h s).map = s.map ∧
    (confirmMarker l h s).hold = s.hold ∧ (confirmMarker l h s).egress = s.egress ∧
    (confirmMarker l h s).generators = s.generators ∧ (confirmMarker l h s).channel = s.channel ∧
    (confirmMarker l h s).dispatcher = s.dispatcher ∧ (confirmMarker l h s).loader = s.loader ∧
    (confirmMarker l h s).params = s.params ∧ (confirmMarker l h s).address = s.address ∧
    (confirmMarker l h s).straps = s.straps ∧ (confirmMarker l h s).starts = s.starts ∧
    (confirmMarker l h s).draws = s.draws ∧ (confirmMarker l h s).pending = s.pending := by
  unfold confirmMarker
  (repeat' split) <;> simp

@[simp] theorem missMarker_frame (l : LaneId) :
    (missMarker l s).map = s.map ∧ (missMarker l s).hold = s.hold ∧ (missMarker l s).egress = s.egress ∧
    (missMarker l s).generators = s.generators ∧ (missMarker l s).dispatcher = s.dispatcher ∧
    (missMarker l s).loader = s.loader ∧ (missMarker l s).params = s.params ∧
    (missMarker l s).address = s.address ∧ (missMarker l s).straps = s.straps ∧
    (missMarker l s).starts = s.starts ∧ (missMarker l s).draws = s.draws ∧ (missMarker l s).pending = s.pending := by
  unfold missMarker
  simp only []
  split <;> simp

@[simp] theorem alignedMarker_frame (l : LaneId) (h : Heard) :
    (alignedMarker l h s).map = s.map ∧ (alignedMarker l h s).hold = s.hold ∧
    (alignedMarker l h s).egress = s.egress ∧ (alignedMarker l h s).generators = s.generators ∧
    (alignedMarker l h s).dispatcher = s.dispatcher ∧ (alignedMarker l h s).loader = s.loader ∧
    (alignedMarker l h s).params = s.params ∧ (alignedMarker l h s).address = s.address ∧
    (alignedMarker l h s).straps = s.straps ∧ (alignedMarker l h s).starts = s.starts ∧
    (alignedMarker l h s).draws = s.draws ∧ (alignedMarker l h s).pending = s.pending := by
  unfold alignedMarker
  split <;> simp

@[simp] theorem writeRecord_frame (l : LaneId) (r : FrameRecord) :
    (writeRecord l r s).lanes = s.lanes ∧ (writeRecord l r s).params = s.params ∧
    (writeRecord l r s).address = s.address ∧ (writeRecord l r s).straps = s.straps ∧
    (writeRecord l r s).pending = s.pending := by
  unfold writeRecord
  split <;> simp

@[simp] theorem completeFrame_frame (l : LaneId) (h : Heard) :
    (completeFrame l h s).params = s.params ∧ (completeFrame l h s).address = s.address ∧
    (completeFrame l h s).straps = s.straps ∧ (completeFrame l h s).pending = s.pending := by
  unfold completeFrame
  split <;> simp

@[simp] theorem arriveWord_frame (l : LaneId) (h : Heard) :
    (arriveWord l h s).params = s.params ∧ (arriveWord l h s).address = s.address ∧
    (arriveWord l h s).straps = s.straps ∧ (arriveWord l h s).pending = s.pending := by
  unfold arriveWord seekWord confirmWord alignedWord
  (repeat' split) <;> simp


/-! ### Items and requests -/

@[simp] theorem storeParam_frame (p : Param) (v : Num) :
    (storeParam p v s).map = s.map ∧ (storeParam p v s).hold = s.hold ∧ (storeParam p v s).egress = s.egress ∧
    (storeParam p v s).channel = s.channel ∧ (storeParam p v s).dispatcher = s.dispatcher ∧
    (storeParam p v s).loader = s.loader ∧ (storeParam p v s).address = s.address ∧
    (storeParam p v s).straps = s.straps ∧ (storeParam p v s).starts = s.starts ∧
    (storeParam p v s).draws = s.draws ∧ (storeParam p v s).pending = s.pending := by
  unfold storeParam
  cases p <;> simp

@[simp] theorem holdChange_frame (c : LaneChange) :
    (holdChange c s).lanes = s.lanes ∧ (holdChange c s).stores = s.stores ∧
    (holdChange c s).survey = s.survey ∧ (holdChange c s).timing = s.timing ∧ (holdChange c s).map = s.map ∧
    (holdChange c s).hold = s.hold ∧ (holdChange c s).egress = s.egress ∧
    (holdChange c s).generators = s.generators ∧ (holdChange c s).checkers = s.checkers ∧
    (holdChange c s).channel = s.channel ∧ (holdChange c s).notices = s.notices ∧
    (holdChange c s).loader = s.loader ∧ (holdChange c s).params = s.params ∧
    (holdChange c s).address = s.address ∧ (holdChange c s).straps = s.straps ∧
    (holdChange c s).starts = s.starts ∧ (holdChange c s).draws = s.draws ∧ (holdChange c s).pending = s.pending := by
  simp [holdChange]

@[simp] theorem writeParam_frame (g : Bool) (n : Nat) (p : Param) (v : Num) :
    (writeParam g n p v s).2.map = s.map ∧ (writeParam g n p v s).2.hold = s.hold ∧
    (writeParam g n p v s).2.egress = s.egress ∧ (writeParam g n p v s).2.channel = s.channel ∧
    (writeParam g n p v s).2.loader = s.loader ∧ (writeParam g n p v s).2.address = s.address ∧
    (writeParam g n p v s).2.straps = s.straps ∧ (writeParam g n p v s).2.starts = s.starts ∧
    (writeParam g n p v s).2.draws = s.draws ∧ (writeParam g n p v s).2.pending = s.pending := by
  unfold writeParam writeMgmtIngress writeMgmtEgress
  (repeat' split) <;> simp

@[simp] theorem clearCounts_frame (m : Num) (b : Bool) :
    (clearCounts m b s).survey = s.survey ∧ (clearCounts m b s).timing = s.timing ∧
    (clearCounts m b s).map = s.map ∧ (clearCounts m b s).hold = s.hold ∧
    (clearCounts m b s).egress = s.egress ∧ (clearCounts m b s).generators = s.generators ∧
    (clearCounts m b s).checkers = s.checkers ∧ (clearCounts m b s).dispatcher = s.dispatcher ∧
    (clearCounts m b s).notices = s.notices ∧ (clearCounts m b s).loader = s.loader ∧
    (clearCounts m b s).params = s.params ∧ (clearCounts m b s).address = s.address ∧
    (clearCounts m b s).straps = s.straps ∧ (clearCounts m b s).starts = s.starts ∧
    (clearCounts m b s).draws = s.draws ∧ (clearCounts m b s).pending = s.pending := by
  simp [clearCounts]

@[simp] theorem judgeItem_frame (g : Bool) (n : Nat) (raw : RawItem) :
    (judgeItem g n raw s).after.hold = s.hold ∧ (judgeItem g n raw s).after.egress = s.egress ∧
    (judgeItem g n raw s).after.address = s.address ∧ (judgeItem g n raw s).after.straps = s.straps ∧
    (judgeItem g n raw s).after.starts = s.starts ∧ (judgeItem g n raw s).after.draws = s.draws ∧
    (judgeItem g n raw s).after.pending = s.pending := by
  unfold judgeItem
  (repeat' split) <;> try simp [fails]
  unfold runItem itemParamRead itemParamWrite itemMapWrite itemMapRead itemMapCopy itemCommit itemCommitCancel itemLaneRead
    itemLaneReset itemCountsClear itemCheckStart itemCheckStop itemCheckRead itemSurveyStart itemSurveyRead itemNoticeAck
    itemImageReload itemRestart
  (repeat' split) <;> simp [fails, reads, acts, settled]

@[simp] theorem takeItem_frame (g : Bool) (n u b : Nat) (raw : RawItem) :
    (takeItem g n u b raw s).after.hold = s.hold ∧ (takeItem g n u b raw s).after.egress = s.egress ∧
    (takeItem g n u b raw s).after.address = s.address ∧ (takeItem g n u b raw s).after.straps = s.straps ∧
    (takeItem g n u b raw s).after.starts = s.starts ∧ (takeItem g n u b raw s).after.draws = s.draws ∧
    (takeItem g n u b raw s).after.pending = s.pending := by
  unfold takeItem
  split <;> simp [fails]

@[simp] theorem takeAll_frame (g : Bool) (n : Nat) (items : List RawItem) (u : Nat) :
    (takeAll g n items u s).2.hold = s.hold ∧ (takeAll g n items u s).2.egress = s.egress ∧
    (takeAll g n items u s).2.address = s.address ∧ (takeAll g n items u s).2.straps = s.straps ∧
    (takeAll g n items u s).2.starts = s.starts ∧ (takeAll g n items u s).2.draws = s.draws ∧
    (takeAll g n items u s).2.pending = s.pending := by
  induction items generalizing u s with
  | nil => simp [takeAll]
  | cons raw rest ih =>
    unfold takeAll
    simp only []
    split <;> simp [ih]

@[simp] theorem executeRequest_frame :
    (executeRequest s).hold = s.hold ∧ (executeRequest s).egress = s.egress ∧
    (executeRequest s).address = s.address ∧ (executeRequest s).straps = s.straps ∧
    (executeRequest s).starts = s.starts ∧ (executeRequest s).draws = s.draws ∧
    (executeRequest s).pending = s.pending := by
  unfold executeRequest answerRequest answerBare answerResults beginExecution reportExecution
  (repeat' split) <;> simp

@[simp] theorem executeGroup_frame :
    (executeGroup s).hold = s.hold ∧ (executeGroup s).egress = s.egress ∧
    (executeGroup s).address = s.address ∧ (executeGroup s).straps = s.straps ∧
    (executeGroup s).starts = s.starts ∧ (executeGroup s).draws = s.draws ∧ (executeGroup s).pending = s.pending := by
  unfold executeGroup answerGroup recordGroup
  (repeat' split) <;> simp

@[simp] theorem serveIntake_frame :
    (serveIntake s).hold = s.hold ∧ (serveIntake s).egress = s.egress ∧ (serveIntake s).address = s.address ∧
    (serveIntake s).straps = s.straps ∧ (serveIntake s).starts = s.starts ∧ (serveIntake s).draws = s.draws ∧
    (serveIntake s).pending = s.pending := by
  unfold serveIntake executeHead
  split <;> simp

@[simp] theorem beginAttempt_frame :
    (beginAttempt s).lanes = s.lanes ∧ (beginAttempt s).stores = s.stores ∧
    (beginAttempt s).survey = s.survey ∧ (beginAttempt s).timing = s.timing ∧ (beginAttempt s).map = s.map ∧
    (beginAttempt s).hold = s.hold ∧ (beginAttempt s).egress = s.egress ∧
    (beginAttempt s).generators = s.generators ∧ (beginAttempt s).checkers = s.checkers ∧
    (beginAttempt s).channel = s.channel ∧ (beginAttempt s).dispatcher = s.dispatcher ∧
    (beginAttempt s).notices = s.notices ∧ (beginAttempt s).params = s.params ∧
    (beginAttempt s).address = s.address ∧ (beginAttempt s).straps = s.straps ∧
    (beginAttempt s).starts = s.starts ∧ (beginAttempt s).draws = s.draws ∧ (beginAttempt s).pending = s.pending := by
  unfold beginAttempt
  split <;> simp

@[simp] theorem finishStart_frame :
    (finishStart s).lanes = s.lanes ∧ (finishStart s).stores = s.stores ∧ (finishStart s).timing = s.timing ∧
    (finishStart s).hold = s.hold ∧ (finishStart s).egress = s.egress ∧
    (finishStart s).generators = s.generators ∧ (finishStart s).channel = s.channel ∧
    (finishStart s).dispatcher = s.dispatcher ∧ (finishStart s).params = s.params ∧
    (finishStart s).address = s.address ∧ (finishStart s).straps = s.straps ∧
    (finishStart s).starts = s.starts ∧ (finishStart s).draws = s.draws ∧ (finishStart s).pending = s.pending := by
  have f : ∀ {β : Type} (g : State → β), (∀ s c, g (takeCheckEnd c s) = g s) → ∀ s,
      g ((List.finRange 4).foldl (fun s c => takeCheckEnd c s) s) = g s := fun g h s => foldl_leaves g _ h _ s
  simp [finishStart,
    f State.lanes (by simp),
    f State.stores (by simp),
    f State.timing (by simp),
    f State.hold (by simp),
    f State.egress (by simp),
    f State.generators (by simp),
    f State.channel (by simp),
    f State.dispatcher (by simp),
    f State.params (by simp),
    f State.address (by simp),
    f State.straps (by simp),
    f State.starts (by simp),
    f State.draws (by simp),
    f State.pending (by simp)]

@[simp] theorem settle_frame :
    (settle s).hold = s.hold ∧ (settle s).egress = s.egress ∧ (settle s).address = s.address ∧
    (settle s).straps = s.straps ∧ (settle s).starts = s.starts ∧ (settle s).draws = s.draws ∧
    (settle s).pending = s.pending := by
  simp [settle]

end Sys2Proof.Machine
end

