-- ==== Sys2Proof/Laws/Notices.lean ====
section
/-! SUPPORT. What a raise does to the notice list, said once, and how it composes (R148, R149, R151): the lemmas by which
`NoticesKept` is carried through an event. -/

namespace Sys2Proof.Machine

variable {may may' : NoticeKind → Subject → Bool} {b u t : State}

/-- Where the Notice Unit stands, nothing was raised. -/
theorem NoticesKept.of_eq (h : t.notices = b.notices) : NoticesKept may b t := by
  refine ⟨by rw [h], ?_, ?_, ?_, ?_, ?_⟩ <;> rw [h]
  · exact fun i e he => ⟨e, he, rfl, rfl, rfl, .inl rfl⟩
  · intro i e hi he
    simp [List.getElem?_eq_none hi] at he
  · exact ⟨.inl rfl, fun h => absurd rfl h⟩
  · exact .inl rfl
  · exact fun _ => ⟨rfl, rfl, rfl⟩

/-- More kinds and subjects allow what fewer do. -/
theorem NoticesKept.mono (h : NoticesKept may b t) (hm : ∀ kind subject, may kind subject = true → may' kind subject = true) :
    NoticesKept may' b t := by
  obtain ⟨hr, hs, hf, ha, hl, hu⟩ := h
  refine ⟨hr, fun i e he => ?_, fun i e hi he => ?_, ha, hl, fun hq => hu fun k x hk => hq k x (hm k x hk)⟩
  · obtain ⟨e', h1, h2, h3, h4, h5⟩ := hs i e he
    exact ⟨e', h1, h2, h3, h4, h5.imp id fun ⟨c, m, r⟩ => ⟨c, hm _ _ m, r⟩⟩
  · obtain ⟨c, m, r⟩ := hf i e hi he
    exact ⟨c, hm _ _ m, r⟩

/-- The list does not shrink. -/
theorem NoticesKept.length_le (h : NoticesKept may b t) : b.notices.list.length ≤ t.notices.list.length := by
  by_contra hlt
  obtain ⟨e', he, -⟩ := h.2.stands _ _ (List.getElem?_eq_getElem (by omega : t.notices.list.length < b.notices.list.length))
  simp at he

/-- Two parts of one event, under one mask and one number, compose. -/
theorem NoticesKept.trans (h₁ : NoticesKept may b u) (h₂ : NoticesKept may u t)
    (hmask : u.params.noticeMask = b.params.noticeMask) (hnum : u.timing.number = t.timing.number) :
    NoticesKept may b t := by
  have hlen := h₁.length_le
  have hlen' := h₂.length_le
  obtain ⟨hr, hs, hf, ha, hl, hu⟩ := h₁
  obtain ⟨hr', hs', hf', ha', hl', hu'⟩ := h₂
  rw [hmask] at hs' hf' hu'
  rw [hnum] at hs hf
  refine ⟨by rw [hr', hr], fun i e he => ?_, fun i e hi he => ?_, ⟨?_, ?_⟩, ?_, fun hq => ?_⟩
  · obtain ⟨d, h1, h2, h3, h4, h5⟩ := hs i e he
    obtain ⟨e', g1, g2, g3, g4, g5⟩ := hs' i d h1
    refine ⟨e', g1, g2.trans h2, g3.trans h3, g4.trans h4, ?_⟩
    rcases g5 with rfl | ⟨c, m, k, f⟩
    · exact h5
    · rw [h2, h3] at m
      rw [h2] at k
      rw [h4] at c
      exact .inr ⟨c, m, k, f⟩
  · by_cases hiu : u.notices.list.length ≤ i
    · exact hf' i e hiu he
    · obtain ⟨d, hd⟩ : ∃ d, u.notices.list[i]? = some d := ⟨_, List.getElem?_eq_getElem (by omega)⟩
      obtain ⟨c, m, k, f⟩ := hf i d hi hd
      obtain ⟨e', g1, g2, g3, g4, g5⟩ := hs' i d hd
      obtain rfl : e' = e := Option.some.inj (g1.symm.trans he)
      rcases g5 with rfl | ⟨-, -, -, f'⟩
      · exact ⟨c, m, k, f⟩
      · exact ⟨g4.trans c, by rw [g2, g3]; exact m, by rw [g2]; exact k, f'⟩
  · rcases ha'.1 with h | h
    · rw [h]; exact ha.1
    · exact .inr h
  · intro hne
    by_cases h : t.notices.list = u.notices.list
    · rcases ha'.1 with g | g
      · rw [g]; exact ha.2 (by rwa [← h])
      · exact g
    · exact ha'.2 h
  · rcases hl' with h | h
    · rcases hl with g | g
      · exact .inl (h.trans g)
      · exact .inr (g.trans hlen')
    · exact .inr h
  · obtain ⟨a1, a2, a3⟩ := hu hq
    obtain ⟨b1, b2, b3⟩ := hu' hq
    exact ⟨b1.trans a1, b2.trans a2, b3.trans a3⟩

/-- A raise that `may` names. -/
theorem raise_noticesKept {kind : NoticeKind} {subject : Subject} (data : List Octet) (s : State)
    (hm : may kind subject = true) : NoticesKept may s (raise kind subject data s) := by
  unfold raise noticeEnabled
  split
  case isFalse => exact .of_eq rfl
  case isTrue hk =>
    have hno : ¬ ∀ k x, may k x = true → s.params.noticeMask.getLsbD (noticeBit k) = false := fun h => by
      simp [h kind subject hm] at hk
    unfold enterNotice
    split
    · refine ⟨rfl, fun i e he => ?_, fun i e hi he => ?_, ⟨?_, ?_⟩, .inl rfl, fun hq => absurd hq hno⟩
      · refine ⟨if waitsFor kind subject e then coalesce s.timing.number data e else e, ?_, ?_⟩
        · simp [setList, he]
        · by_cases hw : waitsFor kind subject e = true
          · simp only [waitsFor, Bool.and_eq_true, decide_eq_true_eq, Bool.not_eq_true'] at hw
            obtain ⟨⟨rfl, rfl⟩, hc⟩ := hw
            simp [waitsFor, hc, coalesce, hm, hk]
          · simp [hw]
      · simp only [setList, List.getElem?_map, List.getElem?_eq_none hi] at he
        simp at he
      · simp only [setList]
        rename_i hany
        right
        cases hl : s.notices.list <;> simp_all
      · rename_i hany
        intro _
        simp only [setList]
        cases hl : s.notices.list <;> simp_all
    · split
      · refine ⟨rfl, fun i e he => ?_, fun i e hi he => ?_, ⟨.inr (by simp [setList]), fun _ => by simp [setList]⟩, .inl rfl,
          fun hq => absurd hq hno⟩
        · refine ⟨e, ?_, rfl, rfl, rfl, .inl rfl⟩
          have := (List.getElem?_eq_some_iff.mp he).1
          simp [setList, List.getElem?_append_left this, he]
        · simp only [setList, List.getElem?_append_right hi] at he
          cases hj : i - s.notices.list.length with
          | zero =>
            rw [hj] at he
            simp only [List.getElem?_cons_zero, Option.some.injEq] at he
            subst he
            exact ⟨rfl, hm, hk, rfl⟩
          | succ n =>
            rw [hj] at he
            simp at he
      · rename_i hfull
        refine ⟨rfl, fun i e he => ⟨e, he, rfl, rfl, rfl, .inl rfl⟩, fun i e hi he => ?_, ⟨.inl rfl, fun h => absurd rfl h⟩,
          .inr (by simpa [Config.listDepth] using hfull), fun hq => absurd hq hno⟩
        simp [List.getElem?_eq_none hi] at he

end Sys2Proof.Machine
end

