-- ==== Sys2Proof/Laws/Tab.lean ====
section
/-! SUPPORT. Laws of the fixed-size tables: reading after replacing, reading what a function filled, and equality entry by
entry. -/

namespace Sys2Proof

variable {n : Nat} {α : Type}

/-- Two tables with the same entries are equal. -/
theorem Tab.ext_get {t u : Tab n α} (h : ∀ i, t.get i = u.get i) : t = u := by
  obtain ⟨ts, ht⟩ := t
  obtain ⟨us, hu⟩ := u
  have e : ts = us := by
    apply List.ext_getElem (by omega)
    intro k hk _
    exact h ⟨k, by omega⟩
  subst e
  rfl

/-- Reading the entry just replaced. -/
@[simp] theorem Tab.get_set_self (t : Tab n α) (i : Fin n) (a : α) : (t.set i a).get i = a := by
  simp [Tab.get, Tab.set]

/-- Reading another entry than the one replaced. -/
theorem Tab.get_set_ne (t : Tab n α) {i j : Fin n} (a : α) (h : j ≠ i) : (t.set i a).get j = t.get j := by
  have h' : i.val ≠ j.val := fun e => h (Fin.ext e.symm)
  simp [Tab.get, Tab.set, h']

/-- Reading any entry after one was replaced. -/
theorem Tab.get_set (t : Tab n α) (i j : Fin n) (a : α) : (t.set i a).get j = if j = i then a else t.get j := by
  by_cases h : j = i
  · subst h; simp
  · simp [h, Tab.get_set_ne]

/-- Reading a table filled by a function. -/
@[simp] theorem Tab.get_ofFn (f : Fin n → α) (i : Fin n) : (Tab.ofFn f).get i = f i := by
  simp [Tab.get, Tab.ofFn]

/-- Reading a table with one entry everywhere. -/
@[simp] theorem Tab.get_fill (a : α) (i : Fin n) : (Tab.fill n a).get i = a := by
  simp [Tab.get, Tab.fill]

/-- Replacing twice keeps the later entry. -/
@[simp] theorem Tab.set_set (t : Tab n α) (i : Fin n) (a b : α) : (t.set i a).set i b = t.set i b := by
  simp [Tab.set]

/-- Replacing an entry by itself changes nothing. -/
@[simp] theorem Tab.set_get_self (t : Tab n α) (i : Fin n) : t.set i (t.get i) = t := by
  apply Tab.ext_get
  intro j
  by_cases h : j = i
  · subst h; simp
  · simp [Tab.get_set_ne _ _ h]

/-- Filling by a function that reads a table gives the table. -/
@[simp] theorem Tab.ofFn_get (t : Tab n α) : (Tab.ofFn fun i => t.get i) = t := by
  apply Tab.ext_get
  simp

end Sys2Proof
end

