-- ==== Sys2Proof/Laws/Operations.lean ====
section
/-! SUPPORT. What each shared operation does, said once: its possible outcomes, or its effect on the piece of state it
works on. A proof cites these and does not unfold the operation. -/

namespace Sys2Proof.Machine

variable (s : State)

/-! ### Counts -/

/-- A saturated counter stays. -/
theorem bump_allOnes {w : Nat} : bump (BitVec.allOnes w) = BitVec.allOnes w := by simp [bump]

/-- A counter below its largest value rises by one. -/
theorem bump_of_ne {w : Nat} {c : BitVec w} (h : c ≠ BitVec.allOnes w) : bump c = c + 1 := by simp [bump, h]

/-- A counter never counts back to 0. -/
theorem bump_ne_zero {w : Nat} (h : 0 < w) (c : BitVec w) : bump c ≠ 0 := by
  unfold bump
  split
  · rename_i e
    intro hz
    have h1 : 2 ^ w - 1 = 0 := by simpa using congrArg BitVec.toNat (e.symm.trans hz)
    have h2 := Nat.one_lt_two_pow_iff.2 (Nat.pos_iff_ne_zero.1 h)
    omega
  · rename_i e
    intro hz
    have h1 : c.toNat < 2 ^ w := c.isLt
    have h2 : c.toNat ≠ 2 ^ w - 1 := fun h => e (BitVec.eq_of_toNat_eq (by simp [h]))
    have h3 := congrArg BitVec.toNat hz
    rw [BitVec.toNat_add] at h3
    have h4 := Nat.one_lt_two_pow_iff.2 (Nat.pos_iff_ne_zero.1 h)
    simp only [BitVec.toNat_ofNat, BitVec.ofNat_eq_ofNat] at h3
    rw [Nat.mod_eq_of_lt (by omega : 1 < 2 ^ w), Nat.mod_eq_of_lt (by omega : c.toNat + 1 < 2 ^ w)] at h3
    simp at h3

/-! ### Frames on the line -/

/-- The upper half of a marker word is the pattern. -/
@[simp] theorem markerWord_pattern (number : Num) :
    (markerWord number).extractLsb' 16 16 = Config.markerPattern :=
  BitVec.extractLsb'_append_eq_left

/-- The lower half of a marker word is the number. -/
@[simp] theorem markerWord_number (number : Num) : (markerWord number).extractLsb' 0 16 = number :=
  BitVec.extractLsb'_append_eq_right

/-- A lane that was OFF sends no word. -/
theorem lineWords_of_none {f : FrameSet} {k : LaneId} (h : f.frames.get k = none) : lineWords f k = [] := by
  simp [lineWords, h]

/-- A lane that was ON sends the words of its frame. -/
theorem lineWords_of_some {f : FrameSet} {k : LaneId} {fr : EgressFrame} (h : f.frames.get k = some fr) :
    lineWords f k = frameWords fr := by
  simp [lineWords, h]

/-! ### Raising a notice -/

/-- A raise changes nothing, or enters the notice, stamped with the number of the latest start. -/
theorem raise_cases (k : NoticeKind) (x : Subject) (d : List Octet) :
    (noticeEnabled s.params.noticeMask k = false ∧ raise k x d s = s) ∨
      (noticeEnabled s.params.noticeMask k = true ∧
        raise k x d s = { s with notices := enterNotice k x s.timing.number d s.notices }) := by
  unfold raise
  cases h : noticeEnabled s.params.noticeMask k <;> simp

/-- A notice coalesces, is appended, or is counted lost. -/
theorem enterNotice_cases (k : NoticeKind) (x : Subject) (f : Num) (d : List Octet) (n : NoticeUnit) :
    (n.list.any (waitsFor k x) = true ∧
        enterNotice k x f d n =
          setList (n.list.map fun e => if waitsFor k x e then coalesce f d e else e) n) ∨
      (n.list.any (waitsFor k x) = false ∧ n.list.length < Config.listDepth ∧
        enterNotice k x f d n = setList (n.list ++ [freshEntry k x f d]) n) ∨
      (n.list.any (waitsFor k x) = false ∧ Config.listDepth ≤ n.list.length ∧
        enterNotice k x f d n = { n with lost := bump n.lost }) := by
  unfold enterNotice
  cases h : n.list.any (waitsFor k x)
  · by_cases h2 : n.list.length < Config.listDepth
    · simp [h2]
    · simp [h2, Nat.not_lt.1 h2]
  · simp

/-- Entering a notice leaves the outstanding message, its copy, the timer and the numbering. -/
@[simp] theorem enterNotice_frame (k : NoticeKind) (x : Subject) (f : Num) (d : List Octet) (n : NoticeUnit) :
    (enterNotice k x f d n).state = n.state ∧ (enterNotice k x f d n).outstanding = n.outstanding ∧
      (enterNotice k x f d n).copy = n.copy ∧ (enterNotice k x f d n).timer = n.timer ∧
      (enterNotice k x f d n).retries = n.retries ∧ (enterNotice k x f d n).nextSeq = n.nextSeq := by
  unfold enterNotice setList
  (repeat' split) <;> simp

/-- A raise leaves the outstanding message, its copy, the timer and the numbering. -/
@[simp] theorem raise_notices_frame (k : NoticeKind) (x : Subject) (d : List Octet) :
    (raise k x d s).notices.state = s.notices.state ∧ (raise k x d s).notices.outstanding = s.notices.outstanding ∧
      (raise k x d s).notices.copy = s.notices.copy ∧ (raise k x d s).notices.timer = s.notices.timer ∧
      (raise k x d s).notices.retries = s.notices.retries ∧ (raise k x d s).notices.nextSeq = s.notices.nextSeq := by
  unfold raise
  split <;> simp

/-- A raise reads the mask, the number of the latest start and the Notice Unit alone, so it commutes with a change of
channel. -/
theorem raise_channel (k : NoticeKind) (x : Subject) (d : List Octet) (c : Channel) :
    raise k x d { s with channel := c } = { raise k x d s with channel := c } := by
  unfold raise
  split <;> rfl

/-! ### Banks -/

/-- Replacing the SHADOW bank leaves the roles and the records. -/
@[simp] theorem setShadow_frame (b : Bank) (m : ConnectionMap) :
    (setShadow b m).active = m.active ∧ (setShadow b m).epoch = m.epoch ∧ (setShadow b m).commit = m.commit ∧
      (setShadow b m).copy = m.copy := by
  unfold setShadow
  split <;> simp

/-- Replacing the SHADOW bank leaves the ACTIVE bank. -/
@[simp] theorem activeBank_setShadow (b : Bank) (m : ConnectionMap) : activeBank (setShadow b m) = activeBank m := by
  unfold setShadow activeBank
  cases m.active <;> simp

/-- The SHADOW bank after it was replaced. -/
@[simp] theorem shadowBank_setShadow (b : Bank) (m : ConnectionMap) : shadowBank (setShadow b m) = b := by
  unfold setShadow shadowBank
  cases m.active <;> simp

/-- One step of the copy engine: it is IDLE or past its last lane, or it copies one lane. -/
theorem copyStep_cases (m : ConnectionMap) :
    copyStep m = m ∧ (∀ k, m.copy = some k → 16 ≤ k) ∨
      ∃ k : LaneId, m.copy = some k.val ∧
        copyStep m = { setShadow ((shadowBank m).set k ((activeBank m).get k)) m with copy := some (k.val + 1) } := by
  unfold copyStep copiedLane
  cases h : m.copy with
  | none => simp
  | some k =>
    by_cases hk : k < 16
    · exact .inr ⟨⟨k, hk⟩, rfl, by simp [hk]⟩
    · exact .inl ⟨by simp [hk], by intro j hj; simp at hj; omega⟩

/-- A commit fires, with the effects of R66, or the map stands. -/
theorem fireCommit_map (i : Bool) (p q : Num) :
    (fireCommit i p q s).map = if fires i p q s.map.commit then committed s.map else s.map := by
  unfold fireCommit
  split <;> simp

/-! ### Stores -/

/-- The stores after a write: the lane's store takes it by its state, the others stand. -/
@[simp] theorem writeStore_stores (l : LaneId) (r : FrameRecord) :
    (writeStore l r s).stores = s.stores.set l (written r (s.stores.get l)) := by
  unfold writeStore
  split <;> simp

/-- The stores after a return to IDLE. -/
@[simp] theorem idleStore_stores (l : LaneId) : (idleStore l s).stores = s.stores.set l (idled (s.stores.get l)) := rfl

/-- The stores after a recentre. -/
@[simp] theorem recentre_stores (l : LaneId) : (recentre l s).stores = s.stores.set l (recentred (s.stores.get l)) := rfl

/-! ### Frame timing -/

/-- The timing after a move: state and source are those given, the rest stands. -/
@[simp] theorem moveTiming_timing (c : TimingState × Option Source) :
    (moveTiming c s).timing = { s.timing with state := c.1, source := c.2 } := by
  unfold moveTiming
  split
  · rename_i h
    rw [← h.1, ← h.2]
  · simp

/-- The store of a lane that becomes the source is recentred, no other is touched. -/
theorem recentreEntered_stores (before after : Option Source) (k : LaneId) :
    (recentreEntered before after s).stores.get k =
      if after = some (.lane k) ∧ before ≠ after then recentred (s.stores.get k) else s.stores.get k := by
  unfold recentreEntered
  split
  · rename_i l
    by_cases hb : before = some (.lane l)
    · simp [hb]
    · rw [if_neg hb, recentre_stores, Tab.get_set]
      by_cases hk : k = l
      · simp [hk, hb]
      · simp [hk, Ne.symm hk]
  · rename_i hn
    rw [if_neg fun h => hn k h.1]

/-- A move recentres the store of a lane that becomes the source, and touches no other. -/
theorem moveTiming_stores (c : TimingState × Option Source) (k : LaneId) :
    (moveTiming c s).stores.get k =
      if c.2 = some (.lane k) ∧ s.timing.source ≠ c.2 then recentred (s.stores.get k) else s.stores.get k := by
  unfold moveTiming
  split
  · rename_i h
    rw [if_neg fun g => g.2 h.2]
  · rw [recentreEntered_stores]
    simp

/-- The timing after the evaluation of a start (R45). -/
@[simp] theorem evaluateTiming_timing :
    (evaluateTiming s).timing =
      { s.timing with state := (evaluated s.timing s.params).1, source := (evaluated s.timing s.params).2 } := by
  simp [evaluateTiming]

/-- The timing after a loss of the current source (R46). -/
@[simp] theorem loseSource_timing :
    (loseSource s).timing =
      { s.timing with state := (chosenAtLoss s.timing s.params).1, source := (chosenAtLoss s.timing s.params).2 } := by
  simp [loseSource]

/-- The qualification records after a disqualification: the lane's is cleared, the others stand. -/
@[simp] theorem disqualifyLane_laneQual (l : LaneId) :
    (disqualifyLane l s).timing.laneQual = s.timing.laneQual.set l ⟨false, 0⟩ := by
  unfold disqualifyLane
  split <;> simp

/-- What a source chosen at a loss is: none in HOLDOVER, else qualified. -/
theorem chosenAtLoss_legal (t : Timing) (p : Params) :
    ((chosenAtLoss t p).1 = .holdover ∧ (chosenAtLoss t p).2 = none) ∨
      (((chosenAtLoss t p).1 = .primary ∨ (chosenAtLoss t p).1 = .secondary) ∧
        (chosenAtLoss t p).2.isSome = true ∧ qualified t (chosenAtLoss t p).2 = true) := by
  have some_of : ∀ src, qualified t src = true → src.isSome = true := by
    intro src h
    cases src with
    | none => simp [qualified] at h
    | some _ => rfl
  unfold chosenAtLoss
  split
  · rename_i h
    exact .inr ⟨.inl rfl, some_of _ h, h⟩
  · split
    · rename_i h
      exact .inr ⟨.inr rfl, some_of _ h, h⟩
    · exact .inl ⟨rfl, rfl⟩

/-- The numbering of a start. -/
@[simp] theorem takeNumber_timing (n : Num) :
    (takeNumber n s).timing =
      { s.timing with number := n, timer := .start, steps := if isStep n s then bump s.timing.steps else s.timing.steps } := by
  unfold takeNumber
  split <;> simp_all

/-! ### Checkers -/

/-- The checkers after one run has ended. -/
@[simp] theorem endChecker_checkers (c : CheckerId) (r : CheckResult) :
    (endChecker c r s).checkers = s.checkers.set c (endedChecker r (s.checkers.get c)) := by
  simp [endChecker]

/-- The checkers after a start's samples. -/
@[simp] theorem sampleCheckers_checkers (d : Tab 16 (Option FrameRecord)) (c : CheckerId) :
    (sampleCheckers d s).checkers.get c = sampleChecker (watchedWord d (s.checkers.get c)) (s.checkers.get c) := by
  simp [sampleCheckers]

/-! ### Service channel -/

/-- A message is placed when a slot is free, else the request is dropped and counted. -/
theorem answerOrDrop_cases (ws : List Word) :
    (s.channel.outgoing.length < Config.queueDepth ∧ answerOrDrop ws s = placeMessage .answer ws s) ∨
      (Config.queueDepth ≤ s.channel.outgoing.length ∧ answerOrDrop ws s = dropRequest s) := by
  unfold answerOrDrop slotFree
  by_cases h : s.channel.outgoing.length < Config.queueDepth
  · exact .inl ⟨h, by simp [h]⟩
  · exact .inr ⟨Nat.not_lt.1 h, by simp [h]⟩

/-- Every outcome of a unicast request's arrival. -/
theorem unicastArrives_cases (m : IntakeMessage) :
    unicastArrives m s = s ∨ (∃ ws, unicastArrives m s = answerOrDrop ws s) ∨
      (s.channel.intake.length < Config.intakeDepth ∧ unicastArrives m s = appendIntake m s) := by
  unfold unicastArrives
  split
  · exact .inl rfl
  · split
    · exact .inl rfl
    · split
      · exact .inr (.inl ⟨_, rfl⟩)
      · split
        · exact .inr (.inl ⟨_, rfl⟩)
        · rename_i h
          exact .inr (.inr ⟨Nat.not_le.1 h, rfl⟩)

/-- Every outcome of a group copy's arrival. -/
theorem groupArrives_cases (m : IntakeMessage) :
    groupArrives m s = s ∨ groupArrives m s = dropGroup s ∨
      (s.channel.intake.length < Config.intakeDepth ∧ groupArrives m s = appendIntake m s) := by
  unfold groupArrives
  split
  · exact .inl rfl
  · split
    · exact .inr (.inl rfl)
    · rename_i h
      exact .inr (.inr ⟨Nat.not_le.1 h, rfl⟩)

/-- What an abandoned message leaves: nothing was open; or it is closed, its forwarded copy, if it was being stored,
ended by an ABORT, stored or owed. -/
theorem abandonMessage_cases :
    (s.channel.parser = none ∧ abandonMessage s = s) ∨
      ∃ m, s.channel.parser = some m ∧
        ((m.storing = false ∧ abandonMessage s = setParser none s) ∨
          (m.storing = true ∧ s.channel.fifo.length < Config.fifoDepth ∧
            abandonMessage s = setParser none (pushWord abortWord s)) ∨
          (m.storing = true ∧ Config.fifoDepth ≤ s.channel.fifo.length ∧
            abandonMessage s = setParser none (oweAbort s))) := by
  unfold abandonMessage
  cases h : s.channel.parser with
  | none => simp
  | some m =>
    refine .inr ⟨m, rfl, ?_⟩
    cases hs : m.storing
    · exact .inl ⟨rfl, by simp [hs]⟩
    · by_cases hf : s.channel.fifo.length < Config.fifoDepth
      · exact .inr (.inl ⟨rfl, hf, by simp [hs, placeAbort, fifoFull, Nat.not_le.2 hf]⟩)
      · exact .inr (.inr ⟨rfl, Nat.not_lt.1 hf, by simp [hs, placeAbort, fifoFull, Nat.not_lt.1 hf]⟩)

/-- After an abandonment the parser is in BETWEEN. -/
@[simp] theorem abandonMessage_parser : (abandonMessage s).channel.parser = none := by
  unfold abandonMessage
  split
  · rename_i h
    exact h
  · simp

/-! ### The Notice Unit's moment -/

/-- A notice message is built, or nothing changes. -/
theorem buildNotice_cases (r : Nat) :
    (buildDue r s = false ∧ buildNotice r s = s) ∨
      (buildDue r s = true ∧
        buildNotice r s =
          placeMessage .notice (noticeWords s.address s.notices.nextSeq (chosenEntries s.notices))
            { s with notices := withOutstanding s.address s.notices }) := by
  unfold buildNotice
  cases h : buildDue r s <;> simp

/-- An owed copy is placed, or nothing changes. -/
theorem placeCopy_cases (r : Nat) :
    (copyDue r s = false ∧ placeCopy r s = s) ∨
      (copyDue r s = true ∧ ∃ m, s.notices.outstanding = some m ∧
        placeCopy r s = placeMessage .notice m.words { s with notices := copyPlaced s.notices }) := by
  cases h : s.notices.outstanding with
  | none =>
    left
    simp [copyDue, placeCopy, h]
  | some m =>
    cases hc : copyDue r s <;> simp [placeCopy, h, hc]

/-- The message queue grows by at most one message that the Notice Unit places. -/
theorem placeMessage_length (k : OutgoingKind) (ws : List Word) :
    (placeMessage k ws s).channel.outgoing.length = s.channel.outgoing.length + 1 := by
  simp

/-! ### Items -/

/-- An item is judged by its kind, its length, its permission in a group copy, and then its own rule. -/
theorem judgeItem_cases (group : Bool) (serial : Nat) (raw : RawItem) :
    (itemKind raw.kind = none ∧ judgeItem group serial raw s = fails .unknownKind s) ∨
      ∃ k, itemKind raw.kind = some k ∧
        ((lengthAllowed k raw.args.length = false ∧ judgeItem group serial raw s = fails .badArgument s) ∨
          (lengthAllowed k raw.args.length = true ∧ group = true ∧ permittedInGroup k = false ∧
            judgeItem group serial raw s = fails .notInGroup s) ∨
          (lengthAllowed k raw.args.length = true ∧ (group = false ∨ permittedInGroup k = true) ∧
            judgeItem group serial raw s = runItem group serial k raw.args s)) := by
  unfold judgeItem
  cases itemKind raw.kind with
  | none => exact .inl ⟨rfl, rfl⟩
  | some k =>
    refine .inr ⟨k, rfl, ?_⟩
    cases h : lengthAllowed k raw.args.length <;> cases group <;> cases hp : permittedInGroup k <;> simp [h, hp]

/-- MAP_WRITE by the tests of R57: every outcome, with the first test that fails. -/
theorem itemMapWrite_cases (args : List Octet) :
    (rawRun args = none ∧ itemMapWrite args s = fails .badArgument s) ∨
      ∃ raw, rawRun args = some raw ∧
        ((checkRun raw = none ∧ itemMapWrite args s = fails .outOfRange s) ∨
          ∃ run, checkRun raw = some run ∧
            ((commitPending s = true ∧ itemMapWrite args s = fails .pending s) ∨
              (commitPending s = false ∧ shadowBusy s = true ∧ itemMapWrite args s = fails .busy s) ∨
              (commitPending s = false ∧ shadowBusy s = false ∧
                itemMapWrite args s =
                  acts .done { s with map := setShadow (writeRun run (shadowBank s.map)) s.map }))) := by
  unfold itemMapWrite
  cases rawRun args with
  | none => exact .inl ⟨rfl, rfl⟩
  | some raw =>
    refine .inr ⟨raw, rfl, ?_⟩
    cases hr : checkRun raw with
    | none => exact .inl ⟨rfl, by simp [hr]⟩
    | some run =>
      refine .inr ⟨run, rfl, ?_⟩
      cases hp : commitPending s <;> cases hb : shadowBusy s <;> simp [hr]

/-- Taking an item is judging it, or failing it with TOO_LONG. -/
theorem takeItem_cases (g : Bool) (n used behind : Nat) (raw : RawItem) :
    takeItem g n used behind raw s = judgeItem g n raw s ∨ takeItem g n used behind raw s = fails .tooLong s := by
  unfold takeItem
  split <;> simp

/-! ### The start -/

/-- What a master frame start leaves as it was, and its ordinal. -/
theorem masterFrameStart_leaves (o : Option LaneId) :
    (masterFrameStart o s).lanes = s.lanes ∧ (masterFrameStart o s).params = s.params ∧
      (masterFrameStart o s).address = s.address ∧ (masterFrameStart o s).straps = s.straps ∧
      (masterFrameStart o s).pending = s.pending := by
  simp

/-- A start raises the ordinal by one. -/
@[simp] theorem masterFrameStart_starts (o : Option LaneId) : (masterFrameStart o s).starts = s.starts + 1 := by
  simp [masterFrameStart, reactToStart, beginStart]

/-! ### The read of the flash -/

/-- Taking one octet: it joins those taken, and only a running engine moves. -/
@[simp] theorem octetTaken_taken (n : Loader) (o : Octet) : (octetTaken n o).taken = n.taken ++ [o] := rfl

@[simp] theorem octetTaken_engine (n : Loader) (o : Octet) :
    (octetTaken n o).engine = n.engine.map fun _ => n.taken.length := rfl

@[simp] theorem octetTaken_sent (n : Loader) (o : Octet) : (octetTaken n o).sent = n.sent := rfl

/-- Octets taken one after another: nothing but the engine and the octets taken changes, and the engine stands at the
address of the last. -/
theorem foldl_octetTaken (os : List Octet) : ∀ n : Loader, os ≠ [] →
    os.foldl octetTaken n =
      { n with engine := n.engine.map fun _ => n.taken.length + os.length - 1, taken := n.taken ++ os } := by
  induction os with
  | nil => exact fun _ h => absurd rfl h
  | cons o os ih =>
    intro n _
    rcases eq_or_ne os [] with rfl | hos
    · simp [octetTaken]
    · rw [List.foldl_cons, ih _ hos]
      simp [octetTaken, Option.map_map, Function.comp_def]

/-- A read takes the marker at least. -/
theorem readStop_pos (octets : List Octet) : 2 ≤ readStop octets := by
  have records : ∀ n seen a area, 2 ≤ a → 2 ≤ recordsStop n seen a area := by
    intro n seen a area
    fun_induction recordsStop n seen a area <;> omega
  unfold readStop
  split_ifs
  · exact Nat.le_refl _
  · omega
  · omega
  · exact records _ _ _ _ (by omega)

/-- An attempt's read: the octets up to its stop join those taken, the engine stands at the last address read, and nothing
else of the loader changes (R163). -/
theorem readImage_eq (octets : List Octet) (n : Loader) :
    readImage octets n =
      { n with
        engine := n.engine.map fun _ => n.taken.length + readStop octets - 1
        taken := n.taken ++ flashOctets octets 0 (readStop octets) } := by
  have len : (flashOctets octets 0 (readStop octets)).length = readStop octets := by simp [flashOctets]
  have := readStop_pos octets
  rw [readImage, foldl_octetTaken _ _ (by rw [ne_eq, ← List.length_eq_zero_iff, len]; omega), len]

/-! ### Numbers within a range -/

/-- A two-octet value names the lane of its own number (R40, R121). -/
theorem laneOfNum_eq_some {v : Num} {l : LaneId} : laneOfNum v = some l ↔ v.toNat = l.val := by
  unfold laneOfNum
  split
  · simp [Fin.ext_iff]
  · have := l.isLt
    constructor
    · intro h
      cases h
    · omega

end Sys2Proof.Machine
end

