-- ==== Sys2Proof/WellFormed.lean ====
section
/-! DEFINITION. Which commands can occur. Lanes, checkers and straps carry their range in their types; what is left to
check is the length of the octets an attempt's serial read can have returned. -/

namespace Sys2Proof

/-- The command can occur on the part: an attempt reads flash addresses 0 to 8191 only (R163, "read engine"). -/
def Instr.wellFormed : Instr → Bool
  | .imageAttemptEnd octets => decide (octets.length ≤ Config.imageLimit)
  | .powerOnReset _ => true
  | .wordArrival _ _ _ => true
  | .signalAbsence _ => true
  | .localFrameTimerExpiry => true
  | .refinPulse _ => true
  | .refinMiss => true
  | .serviceWordEmitted => true
  | .copyDone => true
  | .checkDone _ => true
  | .surveyDone => true
  | .owedAbortStored => true
  | .requestExecution => true
  | .groupCopyExecution => true
  | .noticeMessageBuild => true
  | .noticeCopyPlacement => true
  | .retransmissionTimerExpiry => true
  | .imageAttemptBegin => true

end Sys2Proof
end

