-- ==== Sys2Proof/Laws/PerInstr.lean ====
section
/-! SUPPORT. Statements made command by command. -/

namespace Sys2Proof.Laws.WellFormedByLength

/-- A command is well formed unless it is the end of an attempt that returned more octets than an image has. -/
def Statement (i : Instr) : Prop :=
  i.wellFormed = true ↔ ∀ octets, i = .imageAttemptEnd octets → octets.length ≤ 8192

theorem powerOnReset (straps : BitVec 5) : Statement (.powerOnReset straps) := by
  simp [Statement, Instr.wellFormed]

theorem wordArrival (lane : LaneId) (word : Word) (flagged : Bool) : Statement (.wordArrival lane word flagged) := by
  simp [Statement, Instr.wellFormed]

theorem signalAbsence (lane : LaneId) : Statement (.signalAbsence lane) := by simp [Statement, Instr.wellFormed]

theorem localFrameTimerExpiry : Statement .localFrameTimerExpiry := by simp [Statement, Instr.wellFormed]

theorem refinPulse (early : Bool) : Statement (.refinPulse early) := by simp [Statement, Instr.wellFormed]

theorem refinMiss : Statement .refinMiss := by simp [Statement, Instr.wellFormed]

theorem serviceWordEmitted : Statement .serviceWordEmitted := by simp [Statement, Instr.wellFormed]

theorem imageAttemptEnd (octets : List Octet) : Statement (.imageAttemptEnd octets) := by
  simp [Statement, Instr.wellFormed, Config.imageLimit]

theorem copyDone : Statement .copyDone := by simp [Statement, Instr.wellFormed]

theorem checkDone (checker : CheckerId) : Statement (.checkDone checker) := by simp [Statement, Instr.wellFormed]

theorem surveyDone : Statement .surveyDone := by simp [Statement, Instr.wellFormed]

theorem owedAbortStored : Statement .owedAbortStored := by simp [Statement, Instr.wellFormed]

theorem requestExecution : Statement .requestExecution := by simp [Statement, Instr.wellFormed]

theorem groupCopyExecution : Statement .groupCopyExecution := by simp [Statement, Instr.wellFormed]

theorem noticeMessageBuild : Statement .noticeMessageBuild := by simp [Statement, Instr.wellFormed]

theorem noticeCopyPlacement : Statement .noticeCopyPlacement := by simp [Statement, Instr.wellFormed]

theorem retransmissionTimerExpiry : Statement .retransmissionTimerExpiry := by simp [Statement, Instr.wellFormed]

theorem imageAttemptBegin : Statement .imageAttemptBegin := by simp [Statement, Instr.wellFormed]

end Sys2Proof.Laws.WellFormedByLength
end

