-- ==== Sys2Proof/Tests/Slice0.lean ====
section
/-! SUPPORT. Small tests of single commands, their expected values taken from the spec, and for every statement with
hypotheses a state and operands that meet them (`witness_…`), each clause at a value of its boundary. -/

namespace Sys2Proof.Tests

open Sys2Proof.Machine

-- One after another: each test is a kernel evaluation, and a hundred of them at once exhaust the threads.
set_option Elab.async false

/-! ### Helpers -/

/-- The state a command leaves. -/
def after (c : Instr) (s : State) : State :=
  match exec c s with
  | .next t => t
  | _ => s

/-- A marker word (Introduction, "The lane frame"). -/
def marker (n : Num) : Word := 0x2D71#16 ++ n

/-- Reset, with one Lane Receiver replaced. -/
def withLane0 (r : Lane) : State := { State.reset with lanes := State.reset.lanes.set 0 r }

/-- Reset, with the Service Channel Unit replaced. -/
def withChannel (c : Channel) : State := { State.reset with channel := c }

/-- Reset, operating under defaults. -/
def running : State := { State.reset with loader := { Loader.reset with state := .defaults, engine := none } }

/-- A unicast request with one item. -/
def request (kind : Octet) (args : List Octet) : IntakeMessage :=
  { group := false, dest := 5, mtype := 1, octets := 7 :: 1 :: kind :: octetOf args.length :: args, check := 0 }

/-- Operating, with messages in the intake. -/
def withIntake (ms : List IntakeMessage) : State := { running with channel := { Channel.reset with intake := ms } }

/-! ### Which commands can occur -/

theorem test_an_overlong_read_is_ill_formed :
    (Instr.imageAttemptEnd (List.replicate 8193 0)).wellFormed = false := by decide +kernel

theorem test_the_longest_read_is_well_formed :
    (Instr.imageAttemptEnd (List.replicate 8192 0)).wellFormed = true := by decide +kernel

theorem test_no_word_spells_a_command : decodeTableWord 32 0 = none := rfl

/-! ### Check code, sequences, formats -/

/-- R171: the nine octets 31H to 39H give 29B1H. -/
theorem test_check_code_of_digits :
    checkCode [0x31#8, 0x32#8, 0x33#8, 0x34#8, 0x35#8, 0x36#8, 0x37#8, 0x38#8, 0x39#8] = 0x29B1#16 := by decide +kernel

/-- Section 6.1: the first word of PR13. -/
theorem test_first_word_of_pr13 : firstWord .pr13 = 0xFFFA1792#32 := by decide +kernel

/-! ### One test of each command -/

theorem test_reset_reads_straps : (after (.powerOnReset 5) running).address = 5 := by decide +kernel

theorem test_reset_begins_loading : (after (.powerOnReset 0) running).loader.state = .loading := by decide +kernel

theorem test_marker_in_seek_confirms :
    ((after (.wordArrival 0 (marker 9) false) State.reset).lanes.get 0).align = .confirm := by decide +kernel

theorem test_flagged_marker_in_seek_is_only_counted :
    (((after (.wordArrival 0 (marker 9) true) State.reset).lanes.get 0).align,
      ((after (.wordArrival 0 (marker 9) true) State.reset).lanes.get 0).codeErrors) = (.seek, 1) := by decide +kernel

theorem test_absence_in_drift_is_a_sync_loss :
    ((after (.signalAbsence 0) (withLane0 { Lane.reset with align := .drift })).lanes.get 0).syncLosses = 1 := by
  decide +kernel

theorem test_first_start_has_number_zero : (after .localFrameTimerExpiry State.reset).timing.number = 0 := by
  decide +kernel

theorem test_first_start_sends_sixteen_frames :
    ((after .localFrameTimerExpiry State.reset).egress.sending.map fun f => f.frames.toList.countP Option.isSome) = [16] := by
  decide +kernel

theorem test_pulse_is_counted : (after (.refinPulse false) State.reset).timing.refinQual = ⟨false, 1⟩ := by decide +kernel

theorem test_early_pulse_is_discarded :
    (after (.refinPulse true) (after (.refinPulse false) State.reset)).timing.refinQual.count = 1 := by decide +kernel

theorem test_miss_clears_count :
    (after .refinMiss (after (.refinPulse false) State.reset)).timing.refinQual.count = 0 := by decide +kernel

/-- R82, R83: the first frame of OUT0 begins with the marker word of frame 0 and has 42 words. -/
theorem test_first_frame_begins_with_its_marker :
    ((after .localFrameTimerExpiry State.reset).egress.sending.map fun f =>
      ((lineWords f 0).head?, (lineWords f 0).length)) = [(some 0x2D710000#32, 42)] := by decide +kernel

theorem test_emission_completes_frames :
    (after .serviceWordEmitted (after .localFrameTimerExpiry State.reset)).egress.sending = [] := by decide +kernel

/-- R163: a marker other than 5C1EH ends the load with result ABSENT. -/
theorem test_blank_flash_is_absent :
    ((after (.imageAttemptEnd []) State.reset).loader.state, (after (.imageAttemptEnd []) State.reset).loader.result) =
      (.defaults, .absent) := by decide +kernel

theorem test_copy_ends :
    (after .copyDone { State.reset with map := { ConnectionMap.reset with copy := some 16 } }).map.copy = none := by
  decide +kernel

theorem test_check_without_detection_is_not_found :
    ((after (.checkDone 1) (setChecker 1 { Checker.reset with state := .detect } State.reset)).checkers.get 1).result =
      some .notFound := by decide +kernel

theorem test_survey_closes_done :
    (after .surveyDone { State.reset with survey := { Survey.reset with state := .running } }).survey.state = .done := by
  decide +kernel

theorem test_owed_abort_is_stored :
    ((after .owedAbortStored (withChannel { Channel.reset with abortOwed := true })).channel.fifo.map fun f => f.word) =
      [0xDD000000#32] := by decide +kernel

/-- R134: an ECHO of two octets; the reply body is the tag, COMPLETE, one result. -/
theorem test_echo_is_answered :
    ((after .requestExecution (withIntake [request 0x01#8 [0xAA#8, 0xBB#8]])).channel.outgoing.map fun m => m.words) =
      [messageWords 63 0 0x02#8 [7, 0, 1, 0x01#8, 0, 2, 0xAA#8, 0xBB#8]] := by decide +kernel

theorem test_group_copy_is_recorded :
    (after .groupCopyExecution (withIntake [{ request 0x01#8 [] with group := true }])).channel.group.executed = 1 := by
  decide +kernel

theorem test_notice_is_built :
    ((after .noticeMessageBuild (raise .copyDone .none [0, 3] running)).notices.state,
      (after .noticeMessageBuild (raise .copyDone .none [0, 3] running)).notices.nextSeq) = (.awaiting, 1) := by
  decide +kernel

theorem test_owed_copy_is_placed_and_counted :
    (after .noticeCopyPlacement
      { running with
        notices := { NoticeUnit.reset with
          state := .awaiting, copy := .owed true, outstanding := some { seq := 0, entries := [], words := [1, 2] } } }).notices.retries
      = 1 := by decide +kernel

theorem test_sixth_retry_stalls :
    (after .retransmissionTimerExpiry
      { running with notices := { NoticeUnit.reset with state := .awaiting, timer := some 0, retries := 6 } }).notices.state
      = .stalled := by decide +kernel

theorem test_next_attempt_is_counted :
    (after .imageAttemptBegin
      { State.reset with loader := { Loader.reset with engine := none, next := .due } }).loader.attempts = 2 := by
  decide +kernel

/-! ### Witnesses: hypotheses of the statements, met together -/

/-- A lane in CONFIRM or beyond, with everything else as after reset. -/
def laneAt (a : Align) (p : Fin 42) (confirmed missed : Nat) (asm : Option Assembly) : Lane :=
  { Lane.reset with align := a, position := p, last := 9, confirmed := confirmed, missed := missed, assembly := asm }

/-- An open message of the parser. -/
def opened (count : Nat) (octets : List Octet) (storing : Bool) : OpenMessage :=
  { disposition := .both, count := count, dest := 31, src := 63, mtype := 1, octets := octets, storing := storing }

/-- A forward FIFO of so many words. -/
def fifoOf (n : Nat) : List ForwardWord := List.replicate n { word := 0xB2000000#32, entered := 0 }

/-- A message of the outgoing queue. -/
def waiting (k : OutgoingKind) (given : Nat) : OutgoingMessage := { kind := k, words := [1, 2], given := given, placed := 0 }

/-- Notice entries of different subjects. -/
def entries (n : Nat) (carried : Bool) : List NoticeEntry :=
  ((List.finRange 16).map fun l =>
    { kind := .slip, subject := .lane l, repeats := 1, frame := 0, data := [0, 1, 0, 0], carried := carried }).take n

/-- The Notice Unit with a list and an outstanding message of sequence number 4. -/
def noticesOut (list : List NoticeEntry) (lost : Num) : State :=
  { running with
    notices := { NoticeUnit.reset with
      list := list, state := .awaiting, outstanding := some { seq := 4, entries := [], words := [1, 2] }, copy := .queued
      lost := lost, alert := !list.isEmpty } }

/-- A state with frames in sending. -/
def sendingState (tail : Bool) (queue : List OutgoingMessage) : State :=
  { running with
    egress := { Egress.reset with sending := [{ frames := Tab.fill 16 none, localTail := tail }] }
    channel := { Channel.reset with outgoing := queue } }

/-- A verified image: a DEVICE record with address 0, one MAP_RANGE record of one FILL entry. -/
def image : List Octet :=
  let body : List Octet := [0x01#8, 0, 1, 0, 0x03#8, 0, 8, 0, 0, 1, 0x01#8, 0, 0, 0, 5]
  let covered : List Octet := [0x5C#8, 0x1E#8, 1, 2, 0, 23] ++ body
  covered ++ octets2 (checkCode covered)

/-- The loader in the middle of an attempt. -/
def loading (st : LoaderState) (attempts : Nat) : State :=
  { State.reset with loader := { Loader.reset with state := st, attempts := attempts } }

theorem witness_EmptyQueue_quiet : State.reset.pending = [] ∧ quiet State.reset = true := by decide +kernel

theorem witness_EmptyQueue_steps : ∃ (take : Instr → State → State) (head : State → State),
    (∀ c u, exec c u = .next (take c u)) ∧
    ∀ u, head u = take .noticeMessageBuild (take .noticeCopyPlacement
      (take
        (match u.channel.intake with
        | m :: _ => if m.group then .groupCopyExecution else .requestExecution
        | [] => .requestExecution) u)) :=
  ⟨after, _, fun c _ => by cases c <;> rfl, fun _ => rfl⟩

theorem witness_EmptyQueue_full_intake :
    (withIntake [request 2 [], request 0x09#8 []]).channel.intake.length ≤ 2 ∧
      quiet (withIntake [request 2 [], request 0x09#8 []]) = false := by decide +kernel

theorem witness_Raise_masked :
    ({ State.reset with params := { Params.reset with noticeMask := 0x4001 } } : State).params.noticeMask.getLsbD
      (noticeBit .slip) = false := by decide +kernel

theorem witness_Raise_enters :
    State.reset.params.noticeMask.getLsbD (noticeBit .overflow) = true ∧ (entries 15 false).length = 15 ∧
      (entries 16 false).length = 16 := by decide +kernel

theorem witness_WordInOff : settle (withLane0 (laneAt .off 0 0 0 none)) = withLane0 (laneAt .off 0 0 0 none) ∧
    ((withLane0 (laneAt .off 0 0 0 none)).lanes.get 0).align = .off := by decide +kernel

theorem witness_WordInSeek : settle State.reset = State.reset ∧ (State.reset.lanes.get 0).align = .seek ∧
    (marker 5).extractLsb' 16 16 = 0x2D71#16 := by decide +kernel

theorem witness_WordInConfirm_between : settle (withLane0 (laneAt .confirm 41 0 0 none)) = withLane0 (laneAt .confirm 41 0 0 none) ∧
    ((withLane0 (laneAt .confirm 41 0 0 none)).lanes.get 0).align = .confirm ∧ (41 : Fin 42) ≠ 0 := by decide +kernel

theorem witness_WordInConfirm_counts : settle (withLane0 (laneAt .confirm 0 1 0 none)) = withLane0 (laneAt .confirm 0 1 0 none) ∧
    (marker 10).extractLsb' 16 16 = 0x2D71#16 ∧ (marker 10).extractLsb' 0 16 = (laneAt .confirm 0 1 0 none).last + 1 ∧
    (laneAt .confirm 0 1 0 none).confirmed + 1 < State.reset.params.confirmCount.toNat := by decide +kernel

theorem witness_WordInConfirm_gains : settle (withLane0 (laneAt .confirm 0 2 0 none)) = withLane0 (laneAt .confirm 0 2 0 none) ∧
    (marker 10).extractLsb' 0 16 = (laneAt .confirm 0 2 0 none).last + 1 ∧
    State.reset.params.confirmCount.toNat ≤ (laneAt .confirm 0 2 0 none).confirmed + 1 := by decide +kernel

theorem witness_WordInConfirm_restarts : (marker 11).extractLsb' 16 16 = 0x2D71#16 ∧
    (marker 11).extractLsb' 0 16 ≠ (laneAt .confirm 0 2 0 none).last + 1 := by decide +kernel

theorem witness_WordInConfirm_fails : (0x2D700009#32).extractLsb' 16 16 ≠ 0x2D71#16 ∧
    (laneAt .confirm 0 2 0 none).position = 0 := by decide +kernel

theorem witness_WordInSync_payload :
    settle (withLane0 (laneAt .sync 40 0 0 none)) = withLane0 (laneAt .sync 40 0 0 none) ∧
      (laneAt .sync 40 0 0 none).align = .sync ∧ (laneAt .sync 40 0 0 none).position ≠ 0 ∧
      (laneAt .sync 40 0 0 none).position ≠ 41 ∧ (laneAt .sync 1 0 0 none).position ≠ 0 := by decide +kernel

theorem witness_WordInSync_marker : settle (withLane0 (laneAt .drift 0 0 3 none)) = withLane0 (laneAt .drift 0 0 3 none) ∧
    (laneAt .drift 0 0 3 none).align = .drift ∧ (laneAt .drift 0 0 3 none).position = 0 ∧
    (marker 10).extractLsb' 16 16 = 0x2D71#16 := by decide +kernel

theorem witness_WordInSync_miss : settle (withLane0 (laneAt .drift 0 0 2 none)) = withLane0 (laneAt .drift 0 0 2 none) ∧
    (0#32 : Word).extractLsb' 16 16 ≠ 0x2D71#16 ∧
    (laneAt .drift 0 0 2 none).missed + 1 < State.reset.params.missLimit.toNat := by decide +kernel

theorem witness_MissAtTheLimit : settle (withLane0 (laneAt .drift 0 0 3 none)) = withLane0 (laneAt .drift 0 0 3 none) ∧
    (laneAt .drift 0 0 3 none).align = .drift ∧ (laneAt .drift 0 0 3 none).position = 0 ∧
    (0#32 : Word).extractLsb' 16 16 ≠ 0x2D71#16 ∧
    State.reset.params.missLimit.toNat ≤ (laneAt .drift 0 0 3 none).missed + 1 ∧
    noticesLeaving false 0 (withLane0 (laneAt .drift 0 0 3 none)) = 0 ∧
    noticeFits 0 .syncLost (.lane 0) (withLane0 (laneAt .drift 0 0 3 none)).notices := by
  refine ⟨by decide +kernel, rfl, rfl, by decide +kernel, by decide +kernel, by decide +kernel, .inr (by decide +kernel)⟩

/-- The 40 payload words of a frame under assembly. -/
def payload40 : List Heard := List.replicate 40 ⟨5, true⟩

/-- A lane in SYNC about to take the service word of a whole frame. -/
def atService : State := withLane0 (laneAt .sync 41 0 0 (some ⟨9, payload40⟩))

theorem witness_ServiceWord :
    settle atService = atService ∧ (atService.lanes.get 0).align = .sync ∧ (atService.lanes.get 0).position = 41 ∧
      (atService.lanes.get 0).assembly = some ⟨9, payload40⟩ ∧
      ∃ rec : FrameRecord, rec.number = 9 ∧ rec.payload.toList = payload40 ∧ rec.service = ⟨0, false⟩ :=
  ⟨by decide +kernel, by decide +kernel, by decide +kernel, by decide +kernel,
    ⟨9, ⟨payload40, by decide⟩, ⟨0, false⟩⟩, rfl, rfl, rfl⟩

theorem witness_StoreTakesAWrite : ∃ st, State.reset.stores.get 3 = st ∧ st.state = .idle := ⟨_, rfl, by decide +kernel⟩

theorem witness_SignalAbsence : ∀ a : Align, settle (withLane0 (laneAt a 1 0 0 none)) = withLane0 (laneAt a 1 0 0 none) ∧
    ((withLane0 (laneAt a 1 0 0 none)).lanes.get 0).align = a := by
  intro a
  cases a <;> decide +kernel

theorem witness_LaneReset : 16 ≤ (16#8).toNat ∧ (15#8).toNat = (15 : LaneId).val ∧ (0#8).toNat = (0 : LaneId).val ∧
    ∀ a : Align, ((withLane0 (laneAt a 1 0 0 none)).lanes.get 0).align = a := by
  refine ⟨by decide, by decide, by decide, fun a => ?_⟩
  cases a <;> decide +kernel

theorem witness_WordOnOneLane : (1 : LaneId) ≠ 0 ∧
    exec (.wordArrival 0 (marker 5) false) State.reset = .next (after (.wordArrival 0 (marker 5) false) State.reset) :=
  ⟨by decide, rfl⟩

theorem witness_settled : settle State.reset = State.reset := by decide +kernel

theorem witness_RefinMiss_stopped : settle State.reset = State.reset ∧ State.reset.timing.window = .stopped := by
  decide +kernel

theorem witness_RefinMiss_unqualified :
    settle (after (.refinPulse false) State.reset) = after (.refinPulse false) State.reset ∧
      (after (.refinPulse false) State.reset).timing.window ≠ .stopped ∧
      (after (.refinPulse false) State.reset).timing.refinQual.qualified = false ∧
      (after (.refinPulse false) State.reset).timing.source ≠ some .refin := by decide +kernel

/-- REFIN qualified and watched, with a miss run. -/
def watched (run : Nat) : State :=
  { State.reset with
    timing := { Timing.reset with
      state := .primary, source := some .refin, refinQual := ⟨true, 64⟩, missRun := run, window := .sinceMiss } }

theorem witness_RefinMiss_advances : settle (watched 1) = watched 1 ∧ (watched 1).timing.window ≠ .stopped ∧
    (watched 1).timing.refinQual.qualified = true ∧
    (watched 1).timing.missRun + 1 < (watched 1).params.refinMiss.toNat := by decide +kernel

theorem witness_RefinMiss_disqualifies : settle (watched 2) = watched 2 ∧ (watched 2).timing.window ≠ .stopped ∧
    (watched 2).timing.refinQual.qualified = true ∧
    (watched 2).params.refinMiss.toNat ≤ (watched 2).timing.missRun + 1 := by decide +kernel

theorem witness_RefinMiss_unqualified_source :
    ({ (watched 1).timing with refinQual := ⟨false, 5⟩ } : Timing).refinQual.qualified = false ∧
      ({ (watched 1).timing with refinQual := ⟨false, 5⟩ } : Timing).window ≠ .stopped ∧
      ({ (watched 1).timing with refinQual := ⟨false, 5⟩ } : Timing).source = some .refin := by decide

/-- REFIN qualified and watched, at the limit of its misses, with lane 2 as the source. -/
def watchedBeside : State :=
  { watched 2 with timing := { (watched 2).timing with source := some (.lane 2) } }

theorem witness_RefinMiss_sources : (watched 2).timing.source = some .refin ∧ watchedBeside.timing.source ≠ some .refin ∧
    watchedBeside.timing.refinQual.qualified = true ∧
    watchedBeside.params.refinMiss.toNat ≤ watchedBeside.timing.missRun + 1 := by decide +kernel

/-- R43, R46: REFIN lost with no qualified source goes to HOLDOVER. -/
theorem test_refin_lost_goes_to_holdover :
    (after .refinMiss (watched 2)).timing.state = .holdover ∧ (after .refinMiss (watched 2)).timing.source = none := by
  decide +kernel

theorem witness_start : ∃ t, masterFrameStart (some 0) (watched 0) = t ∧ t.starts = 1 := ⟨_, rfl, by decide +kernel⟩

/-- Timed by lane 0, whose store delivers a record of that number, one start having been taken. -/
def stepped (number : Num) : State :=
  { State.reset with
    starts := 1
    timing := { Timing.reset with state := .primary, source := some (.lane 0) }
    stores := State.reset.stores.set 0
      { Store.reset with state := .running, records := [⟨number, Tab.fill 40 ⟨0, false⟩, ⟨0, false⟩⟩] } }

/-- A store that is RUNNING and empty. -/
def starved : State := { State.reset with stores := State.reset.stores.set 3 { Store.reset with state := .running } }

theorem witness_start_steps : (stepped 7).starts ≠ 0 ∧
    (masterFrameStart (some 0) (stepped 7)).timing.number ≠ (stepped 7).timing.number + 1 ∧
    slipsAt (stepped 7) = 0 ∧ tracksLost (stepped 7) (masterFrameStart (some 0) (stepped 7)) = 0 ∧
    noticeFits 4 .numberStep .none (stepped 7).notices :=
  ⟨by decide, by decide +kernel, by decide +kernel, by decide +kernel, .inr (by decide)⟩

theorem witness_start_slips : (starved.stores.get 3).state = .running ∧ (starved.stores.get 3).records = [] ∧
    slipsAt starved = 1 ∧ tracksLost starved (masterFrameStart none starved) = 0 ∧
    noticeFits 5 .slip (.lane 3) starved.notices :=
  ⟨by decide +kernel, by decide +kernel, by decide +kernel, by decide +kernel, .inr (by decide +kernel)⟩

/-- Lane 0 delivers a frame of zeros to a checker in TRACK that expects 9 and has seen 7 errored words in a row. -/
def losingTrack : State :=
  { stepped 7 with
    checkers := State.reset.checkers.set 2
      { Checker.reset with
        state := .track, detected := some (.count, false), tracked := true, reference := 9, erroredRun := 7, errored := 7
        remaining := 5 } }

theorem witness_start_loses_track : (losingTrack.checkers.get 2).state = .track ∧
    ((masterFrameStart (some 0) losingTrack).checkers.get 2).state = .detect ∧ slipsAt losingTrack = 0 ∧
    tracksLost losingTrack (masterFrameStart (some 0) losingTrack) = 1 ∧
    noticeFits 5 .checkLost (.checker 2) losingTrack.notices :=
  ⟨by decide +kernel, by decide +kernel, by decide +kernel, by decide +kernel, .inr (by decide +kernel)⟩

/-- R98: the eighth errored word in a row raises CHECK_LOST with the lost count 1. -/
theorem test_loss_of_track_raises_check_lost :
    ((masterFrameStart (some 0) losingTrack).notices.list.filter fun e => decide (e.kind = .checkLost)).map
      (fun e => (e.subject, e.data)) = [(.checker 2, [0, 1])] := by decide +kernel

/-- FREERUN, with the primary timing source qualified. -/
def primaryQualified : State :=
  { State.reset with timing := { Timing.reset with laneQual := Timing.reset.laneQual.set 0 ⟨true, 64⟩ } }

theorem witness_start_names_its_sources : ∃ (named : Num → Option Source) (q : Option Source → Bool),
    (∀ v, named v = if h : v.toNat < 16 then some (.lane ⟨v.toNat, h⟩) else if v = 16#16 then some .refin else none) ∧
    ∀ x, q x =
      match x with
      | some (.lane l) => (primaryQualified.timing.laneQual.get l).qualified
      | some .refin => primaryQualified.timing.refinQual.qualified
      | none => false := ⟨_, _, fun _ => rfl, fun _ => rfl⟩

/-- R40: a secondary that names the same source as the primary names none; 17 names none. -/
theorem test_secondary_equal_to_primary_is_none :
    (secondarySource { Params.reset with timingPrimary := 16, timingSecondary := 16 },
      primarySource { Params.reset with timingPrimary := 16 }, secondarySource Params.reset) =
      (none, some .refin, none) := by decide

/-- R152: at a start the copy of an outstanding message that is QUEUED stands. -/
theorem test_start_keeps_the_outstanding_message :
    (masterFrameStart none
      { State.reset with
        notices := { NoticeUnit.reset with
          state := .awaiting, outstanding := some { seq := 3, entries := [], words := [] }, copy := .queued, retries := 2
          nextSeq := 4 } }).notices.outstanding = some { seq := 3, entries := [], words := [] } := by decide +kernel

theorem witness_start_changes_its_source :
    (masterFrameStart (some 0) primaryQualified).timing.state ≠ primaryQualified.timing.state ∧
      slipsAt primaryQualified = 0 ∧
      tracksLost primaryQualified (masterFrameStart (some 0) primaryQualified) = 0 ∧
      noticeFits 4 .timingChange .none primaryQualified.notices :=
  ⟨by decide +kernel, by decide +kernel, by decide +kernel, .inr (by decide)⟩

/-- A lane change whose reply has been reported, with a message open on the old ingress lane and a FIFO of so many words. -/
def changing (ingress : LaneId) (words : Nat) : State :=
  { running with
    dispatcher := { Dispatcher.reset with change := some { ingress := some ingress, egress := some 2, holder := .request 0, armed := true } }
    params := { Params.reset with ingressEnable := 0x7FFF }
    channel := { Channel.reset with parser := some (opened 2 [] true), fifo := fifoOf words } }

theorem witness_start_changes_lanes :
    (∃ take : State → State, ∀ u, take u =
      match deliveredBy ((changing 1 0).stores.get u.channel.mgmtIngress) with
      | some r => parseWord r.service u
      | none => u) ∧
    (masterFrameStart none (changing 1 0)).channel.mgmtIngress = 1 ∧
    (masterFrameStart none (changing 15 0)).channel.mgmtIngress = 0 ∧
    (masterFrameStart none (changing 15 0)).dispatcher.change = none ∧ 126 < (changing 15 127).channel.fifo.length :=
  ⟨⟨_, fun _ => rfl⟩, by decide +kernel, by decide +kernel, by decide +kernel, by decide +kernel⟩

theorem witness_start_copies_the_last_lane : ∃ t m, masterFrameStart none
      { State.reset with map := { ConnectionMap.reset with copy := some 15 } } = t ∧
    ({ ConnectionMap.reset with copy := some 15 } : ConnectionMap) = m ∧ m.copy = some ((15 : LaneId).val) :=
  ⟨_, _, rfl, rfl, rfl⟩

theorem witness_start_fires_at_its_frame :
    (masterFrameStart none { State.reset with map := { ConnectionMap.reset with commit := .frame 0 } }).map.epoch = 1 := by
  decide +kernel

theorem witness_start_of_an_enabled_and_a_disabled_lane :
    (0xFFFE#16 : Num).getLsbD (0 : LaneId).val = false ∧ (0xFFFE#16 : Num).getLsbD (15 : LaneId).val = true := by decide

theorem witness_OnlyAStart :
    ∃ t, exec (.signalAbsence 0) { State.reset with starts := 1 } = .next t ∧ t.starts = 1 :=
  ⟨_, rfl, by decide +kernel⟩

theorem witness_CopyDone : ∀ k, (some 16 : Option Nat) = some k → 16 ≤ k := by
  intro k h
  cases h
  decide

theorem witness_CopyDone_not_yet : ∀ k, (some 15 : Option Nat) = some k → k < 16 := by
  intro k h
  cases h
  decide

theorem witness_CheckDone : ∃ k res, (setChecker 3 { Checker.reset with state := .track, tracked := true } State.reset).checkers.get 3 = k ∧
    res = (if k.tracked = false then .notFound else if k.errored = 0 then CheckResult.clean else .errors) ∧
    k.state = .track ∧ k.remaining = 0 := ⟨_, _, rfl, rfl, by decide +kernel, by decide +kernel⟩

theorem witness_SixteenSteps : ({ ConnectionMap.reset with copy := some 0 } : ConnectionMap).copy = some 0 := rfl

theorem witness_GeneratorWords : SequenceKind.pr29 ≠ .count ∧ (31 : Nat) < 32 := by decide

theorem witness_CountingSequence : ({ Checker.reset with state := .detect } : Checker).state = .detect ∧
    ({ Checker.reset with state := .detect } : Checker).round = none := by decide

theorem witness_Detection : (∃ next : SequenceKind → Bool → Word → Word, ∀ kind inverted w, next kind inverted w =
      if inverted then ~~~ (nextInSequence kind (~~~ w)) else nextInSequence kind w) ∧
    ({ Checker.reset with state := .detect } : Checker).round = none := ⟨⟨_, fun _ _ _ => rfl⟩, rfl⟩

/-- Section 6.5: from a seed of 0, which forms COUNT and the inverted PR kinds, a second 0 leaves no candidate standing. -/
theorem test_two_zeros_leave_no_candidate : (startRound 0).standing.length = 4 ∧
    survivors 0 (startRound 0).standing = [] := by decide +kernel

/-- Section 6.10, sample 19: the eighth errored word in a row loses track. -/
theorem test_eighth_errored_word_loses_track :
    (trackWord 318
      { Checker.reset with
        state := .track, detected := some (.count, false), reference := 317, erroredRun := 7, errored := 7
        bitErrors := 13 }) =
      { Checker.reset with
        state := .detect, detected := some (.count, false), reference := 318, compared := 1, errored := 8, bitErrors := 15
        lost := 1 } := by decide +kernel

theorem witness_Tracking : ({ Checker.reset with detected := some (.pr13, true) } : Checker).detected = some (.pr13, true) ∧
    ∃ k : Checker, k.round = some (startRound 0) ∧ ∀ c ∈ (startRound 0).standing, c.predicted ≠ 0 :=
  ⟨rfl, { Checker.reset with round := some (startRound 0) }, rfl, by decide +kernel⟩

theorem witness_ParserBetween :
    State.reset.channel.parser = none ∧ octetAt (0x00000000#32) 3 = 0x00#8 ∧ octetAt (0xDD000000#32) 3 = 0xDD#8 ∧
      octetAt (0xB2010203#32) 3 ≠ 0xA1#8 ∧ octetAt (0xA1053F01#32) 3 = 0xA1#8 ∧
      octetAt (0xA1053F01#32) 2 = ({ State.reset with address := 5 } : State).address ∧
      octetAt (0xA1003F01#32) 2 = 0 ∧ octetAt (0xA1063F01#32) 2 ≠ ({ State.reset with address := 5 } : State).address ∧
      (fifoOf 127).length < 128 ∧ (fifoOf 128).length = 128 := by decide +kernel

theorem witness_ParserInMessage :
    (withChannel { Channel.reset with parser := some (opened 62 [] true) }).channel.parser = some (opened 62 [] true) ∧
      (opened 62 [] true).count < 63 ∧ 63 ≤ (opened 63 [] true).count ∧ octetAt (0xB2010203#32) 3 = 0xB2#8 ∧
      octetAt (0xFF000000#32) 3 ≠ 0xC3#8 ∧ octetAt (0xA1053F01#32) 3 = 0xA1#8 := by decide +kernel

theorem witness_Tail : ∃ (pad : Nat) (octets : List Octet) (check : Num),
    (withChannel { Channel.reset with parser := some (opened 2 [1, 2, 3] false) }).channel.parser =
        some (opened 2 [1, 2, 3] false) ∧ octetAt (0xC3000002#32) 3 = 0xC3#8 ∧ pad = (octetAt (0xC3000002#32) 0).toNat ∧
      octets = (opened 2 [1, 2, 3] false).octets.take ((opened 2 [1, 2, 3] false).octets.length - pad) ∧ octets = [1#8] ∧
      check = octetAt (0xC3000002#32) 2 ++ octetAt (0xC3000002#32) 1 :=
  ⟨_, _, _, rfl, by decide +kernel, rfl, rfl, by decide +kernel, rfl⟩

theorem witness_Arrivals : ∃ (dropped : State) (answer : List Word → State), ∀ words, answer words =
    if State.reset.channel.outgoing.length < 4 then
      { State.reset with
        channel := { State.reset.channel with
          outgoing := State.reset.channel.outgoing ++
            [{ kind := .answer, words := words, given := 0, placed := State.reset.starts }] } }
    else dropped := ⟨State.reset, _, fun _ => rfl⟩

/-- A forwarded HEAD and a local message, both ready, the pass-over count given. -/
def contended (passed : Nat) : State :=
  { running with
    starts := 1
    channel := { Channel.reset with
      fifo := [{ word := 0xA1013F01#32, entered := 0 }], outgoing := [waiting .answer 0], passOver := passed } }

theorem witness_Arbiter_forwards : fifoReady (contended 1) = some 0xA1013F01#32 ∧ (contended 1).channel.arbiter = .between ∧
    localReady (contended 1) = true ∧ (contended 1).channel.passOver < 2 := by decide +kernel

theorem witness_Arbiter_idles : fifoReady State.reset = none ∧ State.reset.channel.arbiter = .between ∧
    localReady State.reset = false := by decide +kernel

theorem witness_Arbiter_local : (contended 2).channel.arbiter = .between ∧ localReady (contended 2) = true ∧
    2 ≤ (contended 2).channel.passOver := by decide +kernel

theorem witness_Arbiter_continues_local :
    ({ Channel.reset with outgoing := [waiting .answer 2, waiting .notice 1], arbiter := .sendingLocal } : Channel).outgoing =
        [waiting .answer 2] ++ waiting .notice 1 :: [] ∧
      (∀ x ∈ [waiting .answer 2], x.words.length ≤ x.given) ∧ (waiting .notice 1).given < (waiting .notice 1).words.length :=
  ⟨rfl, by decide, by decide⟩

theorem witness_MessageWords : ({ State.reset with address := 30 } : State).address ≠ 0 ∧
    State.reset.channel.parser = none ∧ (List.replicate 186 (0#8 : Octet)).length ≤ 186 := by decide +kernel

theorem witness_Emission_idle : settle State.reset = State.reset ∧ State.reset.egress.sending = [] := by decide +kernel

theorem witness_Emission_frames : settle (sendingState false []) = sendingState false [] ∧
    (sendingState false []).egress.sending = [{ frames := Tab.fill 16 none, localTail := false }] := by decide +kernel

theorem witness_Emission_tail : settle (sendingState true [waiting (.reply 0) 2]) = sendingState true [waiting (.reply 0) 2] ∧
    (sendingState true [waiting (.reply 0) 2]).egress.sending = [{ frames := Tab.fill 16 none, localTail := true }] ∧
    (sendingState true [waiting (.reply 0) 2]).channel.outgoing = [waiting (.reply 0) 2] := by decide +kernel

/-- A request at the head of the intake, the outgoing queue holding so many messages. -/
def asked (m : IntakeMessage) (placed : Nat) : State :=
  { running with
    channel := { Channel.reset with intake := [m], outgoing := List.replicate placed (waiting .answer 0) } }

theorem witness_Request_waits : finishStart (asked (request 2 []) 4) = asked (request 2 []) 4 ∧
    4 ≤ (asked (request 2 []) 4).channel.outgoing.length := by decide +kernel

theorem witness_Request_runs : finishStart (asked (request 2 []) 3) = asked (request 2 []) 3 ∧
    (asked (request 2 []) 3).channel.intake = [request 2 []] ∧ (request 2 []).group = false ∧
    (asked (request 2 []) 3).dispatcher.restart = none ∧ (asked (request 2 []) 3).channel.outgoing.length < 4 ∧
    (asked (request 2 []) 3).loader.state ≠ .loading ∧
    requestItems (request 2 []).mtype (request 2 []).octets = some [⟨2, []⟩] := by decide +kernel

theorem witness_Request_malformed :
    requestItems { request 2 [] with mtype := 2 }.mtype (request 2 []).octets = none ∧
      requestItems 1 [7, 0] = none ∧ State.reset.loader.state = .loading := by decide +kernel

theorem witness_Request_place : ∃ place : List Word → State → State, ∀ words v, place words v =
    { v with
      channel := { v.channel with
        outgoing := v.channel.outgoing ++ [{ kind := .reply 0, words := words, given := 0, placed := v.starts }] } } :=
  ⟨_, fun _ _ => rfl⟩

theorem witness_GroupCopy :
    (asked { request 2 [] with group := true } 4).channel.intake = [{ request 2 [] with group := true }] ∧
      (asked { request 2 [] with group := true } 4).dispatcher.restart = none ∧
      finishStart (asked { request 2 [] with group := true } 4) = asked { request 2 [] with group := true } 4 := by
  decide +kernel

theorem witness_ItemTests : (0x16#8 : Octet).toNat > 0x15 ∧ 1 ≤ (0x15#8 : Octet).toNat ∧ (0x15#8 : Octet).toNat ≤ 0x15 ∧
    decide (([0, 0, 0] : List Octet).length = 3) = true ∧ decide (([0] : List Octet).length = 0) = false := by decide

theorem witness_FailingItem : (judgeItem false 0 ⟨0x63#8, []⟩ running).status = .unknownKind ∧
    (judgeItem false 0 ⟨0x11#8, [0]⟩ running).status = .done ∧
    (judgeItem false 0 ⟨0x07#8, []⟩ running).status = .started := by decide +kernel

theorem witness_ItemsInOrder : (List.replicate 16 (⟨0x02#8, []⟩ : RawItem)).length ≤ 16 ∧
    ((takeAll false 0 (List.replicate 6 ⟨0x02#8, []⟩) 3 running).1.map fun r => r.status) =
      [.done, .done, .done, .done, .tooLong, .skipped] := by decide +kernel

/-- R126: the items behind a RESTART are SKIPPED. -/
theorem test_items_behind_restart_are_skipped :
    ((takeAll false 0 [⟨0x15#8, []⟩, ⟨0x02#8, []⟩] 3 running).1.map fun r => r.status) = [.done, .skipped] := by
  decide +kernel

/-- R128, R132: in a group copy an item of a kind that is not permitted and of a bad length gives BAD_ARGUMENT. -/
theorem test_length_is_tested_before_permission :
    ((judgeItem true 0 ⟨0x02#8, [0]⟩ running).status, (judgeItem true 0 ⟨0x02#8, []⟩ running).status) =
      (.badArgument, .notInGroup) := by decide +kernel

/-- R164: the attempt that the latest start brought about has begun before a request is executed. -/
theorem test_attempt_has_begun_before_an_execution :
    (after .requestExecution
      { withIntake [request 0x02#8 []] with
        loader := { Loader.reset with state := .reloading, engine := none, next := .due } }).loader.attempts = 2 := by
  decide +kernel

theorem witness_Echo : (List.replicate 16 (0xAA#8 : Octet)).length ≤ 16 := by decide

theorem witness_MapWrite_all : (List.replicate 40 (Entry.fill 0)).length = (40#8).toNat ∧ 1 ≤ (40#8).toNat ∧
    (0#8).toNat + (40#8).toNat ≤ 40 ∧ claims running = 0 := by decide +kernel

theorem witness_MapWrite_last : [Entry.gen 3].length = (1#8).toNat ∧ (39#8).toNat + (1#8).toNat ≤ 40 := by decide

/-- The octets of an entry as Table 11-6 lays them out, its numbers not yet tested. -/
def laidOut : RawEntry → List Octet
  | .fill w => [0x01#8, octetAt w 3, octetAt w 2, octetAt w 1, octetAt w 0]
  | .lane l t (.fill w) => [0x02#8, l, t, 0x00#8, octetAt w 3, octetAt w 2, octetAt w 1, octetAt w 0]
  | .lane l t .hold => [0x02#8, l, t, 0x01#8]
  | .lane l t .pass => [0x02#8, l, t, 0x02#8]
  | .gen g => [0x03#8, g]

/-- An unknown entry kind is no entry's first octet. -/
theorem witness_MapWrite_bad : ∀ es : List RawEntry, es.length = (1#8).toNat → es.flatMap laidOut ≠ [0x04#8] := by
  intro es h
  match es, h with
  | [.fill _], _ => simp [laidOut]
  | [.lane _ _ (.fill _)], _ => simp [laidOut]
  | [.lane _ _ .hold], _ => simp [laidOut]
  | [.lane _ _ .pass], _ => simp [laidOut]
  | [.gen _], _ => simp [laidOut]

theorem witness_MapWrite_in_range : [RawEntry.lane 15 39 .pass].length = (1#8).toNat ∧
    [RawEntry.lane 15 39 .pass].flatMap laidOut = [0x02#8, 15, 39, 0x02#8] ∧
    ((15#8).toNat < 16 ∧ (39#8).toNat < 40 ∧ 1 ≤ (1#8).toNat ∧ (1#8).toNat ≤ 40 ∧ (39#8).toNat + (1#8).toNat ≤ 40) ∧
    ¬ (40#8).toNat < 40 ∧ ¬ (4#8).toNat < 4 := by decide

theorem witness_MapRead : (2 : Nat) ≤ (2#8).toNat ∧ (1#8).toNat < 2 ∧ State.reset.map.copy = none ∧
    (15#8).toNat = (15 : LaneId).val ∧ ({ ConnectionMap.reset with copy := some 0 } : ConnectionMap).copy.isSome = true := by
  decide

/-- R57: a first slot and a count that pass slot 39 give OUT_OF_RANGE, before the commit that is pending gives PENDING. -/
theorem test_map_write_tests_the_range_first :
    (judgeItem false 0 ⟨0x05#8, [0, 39, 2, 0x03, 0, 0x03, 0]⟩ (requestCommit running)).status = .outOfRange ∧
      (judgeItem false 0 ⟨0x05#8, [0, 38, 2, 0x03, 0, 0x03, 0]⟩ (requestCommit running)).status = .pending := by
  decide +kernel

theorem witness_ReadItems : ∃ (two : Num → List Octet) (four : Word → List Octet),
    (∀ x, two x = [octetAt x 1, octetAt x 0]) ∧
    (∀ x, four x = [octetAt x 3, octetAt x 2, octetAt x 1, octetAt x 0]) ∧ 16 ≤ (16#8).toNat ∧ 4 ≤ (4#8).toNat ∧
    3 ≤ (3#8).toNat ∧ (15#8).toNat = (15 : LaneId).val ∧ (3#8).toNat = (3 : CheckerId).val :=
  ⟨_, _, fun _ => rfl, fun _ => rfl, by decide, by decide, by decide, by decide, by decide⟩

/-- R141, with the reset values of R20 and R30: a lane in SEEK (01H), its store IDLE and empty, every count 0. -/
theorem test_lane_read_after_reset :
    (judgeItem false 0 ⟨0x0A#8, [15]⟩ running).data = 0x01#8 :: List.replicate 16 0x00#8 := by decide +kernel

/-- R144, with the reset values of R102: IDLE, the kind, its flag and the result absent (FFH), all else 0. -/
theorem test_check_read_after_reset :
    (judgeItem false 0 ⟨0x0F#8, [3]⟩ running).data =
      List.replicate 7 0x00#8 ++ [0xFF#8, 0xFF#8] ++ List.replicate 14 0x00#8 ++ [0xFF#8] := by decide +kernel

theorem witness_ShadowClaims : commitPending (requestCommit running) = true ∧ reloading (loading .reloading 1) = true ∧
    claims running = 0 := by decide +kernel

theorem witness_ParameterWrites : paramOf 1 = some .deviceAddress ∧ paramOf 24 = none ∧ paramOf 16 = some (.group 0) ∧
    paramInRange (.group 0) 31 = false ∧ paramInRange (.group 0) 62 = true ∧ paramOf 14 = some .noticeWait ∧
    paramInRange .noticeWait 64 = true ∧ (23#8).toNat = 20 + (3 : GenId).val ∧ (4#16 : Num).toNat ≤ 4 ∧
    (0xFFFE#16 : Num).getLsbD State.reset.channel.mgmtEgress.val = false ∧
    (1#16 : Num).getLsbD State.reset.channel.mgmtEgress.val = true := by decide +kernel

theorem witness_EgressEnable_protects_a_pending_lane : ∃ c, (changing 1 0).dispatcher.change = some c ∧
    c.egress = some 2 ∧ (1#16 : Num).getLsbD (2 : LaneId).val = false := ⟨_, rfl, rfl, by decide⟩

/-- Lane 1, the timing source, aligned, with a checker and a survey on it. -/
def busyLane : State :=
  { running with
    lanes := State.reset.lanes.set 1 (laneAt .sync 5 0 0 (some ⟨9, List.replicate 4 ⟨0, false⟩⟩))
    timing := { Timing.reset with
      state := .primary, source := some (.lane 1), laneQual := Timing.reset.laneQual.set 1 ⟨true, 64⟩ }
    checkers := State.reset.checkers.set 2 { Checker.reset with state := .detect, lane := 1 }
    survey := { Survey.reset with state := .running, lane := 1 } }

theorem witness_IngressEnable : turnsOff busyLane.params.ingressEnable 0xFFFD 1 = true ∧
    turnsOff busyLane.params.ingressEnable 0xFFFD 0 = false ∧
    sourceTurnsOff busyLane.params.ingressEnable 0xFFFD busyLane.timing = true ∧
    inProgress (busyLane.checkers.get 2) = true ∧ (busyLane.checkers.get 2).lane = 1 ∧
    busyLane.survey.state = .running ∧
    (0xFFFD#16 : Num).getLsbD busyLane.channel.mgmtIngress.val = true ∧
    (0xFFFE#16 : Num).getLsbD busyLane.channel.mgmtIngress.val = false ∧
    noticeFits 5 .timingChange .none busyLane.notices ∧ surveysLane 1 busyLane = true ∧ runsOn 1 busyLane 2 = true ∧
    noticesLeaving true 1 busyLane = 3 :=
  ⟨by decide +kernel, by decide +kernel, by decide +kernel, by decide +kernel, by decide +kernel, by decide +kernel,
    by decide +kernel, by decide +kernel, .inr (by decide +kernel), by decide +kernel, by decide +kernel,
    by decide +kernel⟩

/-- R18, R36: a LANE_RESET of a lane that is surveyed aborts the survey with SURVEY_DONE. -/
theorem test_lane_reset_aborts_the_survey :
    (judgeItem false 0 ⟨0x0B#8, [1]⟩ busyLane).after.survey.state = .aborted ∧
      ((judgeItem false 0 ⟨0x0B#8, [1]⟩ busyLane).after.notices.list.any fun e =>
        decide (e.kind = .surveyDone ∧ e.data = [1, 2, 0, 0])) = true := by decide +kernel

theorem witness_ManagementLanes : ∃ (own : LaneChange) (hold : LaneChange → ItemResult),
    own = running.dispatcher.change.getD { ingress := none, egress := none, holder := .request 3, armed := false } ∧
    (∀ c, hold c =
      { status := .done, data := []
        after := { running with
          dispatcher := { running.dispatcher with
            change := if c.ingress = none ∧ c.egress = none then none else some c } } }) ∧
    own.holder = .request 3 ∧ (0#8 : Octet) ++ 15#8 = BitVec.ofNat 16 (15 : LaneId).val :=
  ⟨_, _, rfl, fun _ => rfl, rfl, by decide⟩

theorem witness_Unmatched : running.notices.outstanding = none ∧
    (∃ m, (noticesOut [] 0).notices.outstanding = some m ∧ m.seq ≠ 5) := ⟨rfl, _, rfl, by decide⟩

/-- One OVERFLOW entry waiting, FFFEH notices told. -/
def overflowed : NoticeEntry :=
  { kind := .overflow, subject := .none, repeats := 1, frame := 0, data := [0xFF#8, 0xFE#8], carried := false }

theorem witness_Acknowledgement : (∃ m, (noticesOut (entries 16 true) 0).notices.outstanding = some m ∧ m.seq = 4) ∧
    (noticesOut (entries 16 true) 0).notices.lost = 0 ∧ (noticesOut (entries 15 false) 7).notices.lost ≠ 0 ∧
    ((noticesOut (entries 15 false) 7).notices.list.filter fun e => !e.carried).length < 16 ∧
    (∀ e ∈ (noticesOut (entries 15 false) 7).notices.list.filter fun e => !e.carried,
      ¬ (e.kind = .overflow ∧ e.subject = .none)) :=
  ⟨⟨_, rfl, rfl⟩, by decide +kernel, by decide +kernel, by decide +kernel, by decide +kernel⟩

theorem witness_Acknowledgement_adds : (noticesOut [overflowed] 7).notices.lost ≠ 0 ∧
    (∃ e ∈ (noticesOut [overflowed] 7).notices.list.filter fun e => !e.carried, e.kind = .overflow ∧ e.subject = .none) ∧
    ∃ sum : List Octet → List Octet, ∀ d, sum d =
      match d with
      | [hi, lo] =>
        if (hi ++ lo).toNat + (7#16).toNat < 65536 then [octetAt ((hi ++ lo) + 7#16) 1, octetAt ((hi ++ lo) + 7#16) 0]
        else [0xFF#8, 0xFF#8]
      | _ => [octetAt (7#16) 1, octetAt (7#16) 0] :=
  ⟨by decide +kernel, by decide +kernel, _, fun _ => rfl⟩

theorem witness_NoticeMessages :
    ∃ free es words, free = (decide (running.channel.outgoing.length < 4) &&
        !(running.channel.outgoing.any fun m => decide (m.kind = .notice))) ∧
      es = (running.notices.list.filter fun e => !e.carried).take 8 ∧
      words = messageWords 63 running.address 0x03#8
        (running.notices.nextSeq :: BitVec.ofNat 8 es.length ::
          es.flatMap fun e =>
            [noticeOctet e.kind, subjectOctet e.subject, e.repeats, octetAt e.frame 1, octetAt e.frame 0,
              BitVec.ofNat 8 e.data.length] ++ e.data) := ⟨_, _, _, rfl, rfl, rfl⟩

theorem witness_NoticeMessages_moment : ∃ take : Instr → State → State, ∀ c u, exec c u = .next (take c u) :=
  ⟨after, fun c _ => by cases c <;> rfl⟩

theorem witness_Attempt_none : settle running = running ∧ running.loader.engine = none := by decide +kernel

theorem witness_Attempt_absent : settle (loading .loading 8) = loading .loading 8 ∧
    (loading .loading 8).loader.engine.isSome = true ∧ judgeImage [] = .absent := by decide +kernel

theorem witness_Attempt_failed : judgeImage [0x5C#8, 0x1E#8] = .failed ∧ (loading .loading 7).loader.attempts < 8 ∧
    8 ≤ (loading .reloading 8).loader.attempts ∧ settle (loading .reloading 8) = loading .reloading 8 := by decide +kernel

theorem witness_Attempt_verified :
    judgeImage image = .verified { address := 0, settings := [], runs := [⟨0, 0, [.fill 5]⟩] } := by decide +kernel

/-- R163: of the octets that a verified image is judged from, a damaged check code fails the attempt. -/
theorem test_damaged_check_code_fails : judgeImage (image.set 22 0) = .failed := by decide +kernel

/-- A parameter setting as Table 11-10 lays it out. -/
def laidSetting (p : Octet × Num) : List Octet := [p.1, octetAt p.2 1, octetAt p.2 0]

/-- A record as Table 11-9 lays it out. -/
def laidRecord (kind : Octet) (contents : List Octet) : List Octet :=
  [kind, BitVec.ofNat 8 (contents.length / 256), BitVec.ofNat 8 contents.length] ++ contents

/-- A MAP_RANGE record of OUT15, slot 39, GEN 3; a LANE record; a DEVICE record; in this order. -/
def anyOrder : List ((Octet × List (Octet × Num)) ⊕ List (Octet × Num) ⊕ (LaneId × Octet × List Entry)) :=
  [.inr (.inr (15, 39, [.gen 3])), .inr (.inl [(9, 1), (12, 15)]), .inl (30, [(14, 64)])]

theorem witness_Image_parts : ∃ (at' : Nat → Octet) (setting : Octet × Num → List Octet)
    (record : Octet → List Octet → List Octet),
    (∀ a, at' a = image.getD a 0xFF#8) ∧ (∀ p, setting p = [p.1, octetAt p.2 1, octetAt p.2 0]) ∧
    ∀ kind contents, record kind contents =
      [kind, BitVec.ofNat 8 (contents.length / 256), BitVec.ofNat 8 contents.length] ++ contents :=
  ⟨_, _, _, fun _ => rfl, fun _ => rfl, fun _ _ => rfl⟩

theorem witness_Image : ∃ covered : List Octet, covered.length ≤ 8190 ∧ anyOrder.length ≤ 255 ∧
    (anyOrder.filter fun r => match r with | .inl _ => true | _ => false).length ≤ 1 ∧
    (anyOrder.filter fun r => match r with | .inr (.inl _) => true | _ => false).length ≤ 1 ∧
    paramInRange .noticeWait 64 = true ∧ paramInRange .ingressEnable 1 = true ∧ paramInRange .missLimit 15 = true ∧
    covered =
      [0x5C#8, 0x1E#8, 1#8, BitVec.ofNat 8 anyOrder.length, BitVec.ofNat 8 ((covered.length + 2) / 256),
        BitVec.ofNat 8 (covered.length + 2)] ++
      anyOrder.flatMap (fun r =>
        match r with
        | .inl (address, settings) => laidRecord 0x01#8 (address :: settings.flatMap laidSetting)
        | .inr (.inl settings) => laidRecord 0x02#8 (settings.flatMap laidSetting)
        | .inr (.inr (lane, first, entries)) =>
          laidRecord 0x03#8
            ([BitVec.ofNat 8 lane.val, first, BitVec.ofNat 8 entries.length] ++ entries.flatMap encodeEntry)) :=
  ⟨[0x5C, 0x1E, 1, 3, 0, 32, 3, 0, 5, 15, 39, 1, 3, 3, 2, 0, 6, 9, 0, 1, 12, 0, 15, 1, 0, 4, 30, 14, 0, 64],
    by decide +kernel, by decide +kernel, by decide +kernel, by decide +kernel, by decide +kernel, by decide +kernel,
    by decide +kernel, by decide +kernel⟩

/-- R163: a read sends 03H and the address 0; of a flash that is missing it takes the marker alone; of a verified image,
every octet. -/
theorem test_read_of_the_flash :
    State.reset.loader.sent = [0x03, 0, 0, 0] ∧ (after (.imageAttemptEnd []) State.reset).loader.taken = [0xFF, 0xFF] ∧
      (after (.imageAttemptEnd (image ++ [7])) State.reset).loader.taken = image := by decide +kernel

/-- R163: the read stops at the first failing test, here an unknown record kind, the first octet behind the header. -/
theorem test_read_stops_at_the_failing_test :
    (after (.imageAttemptEnd (image.set 6 4)) State.reset).loader.taken = image.take 6 ++ [4] := by decide +kernel

theorem witness_Attempt_applies : settle (loading .loading 8) = loading .loading 8 ∧
    ∃ (carried : Param → Option Num) (lane : Param → Option LaneId) (started : List Octet → NoticeUnit → NoticeUnit),
      (∀ p, carried p =
        (([(7, 3)] : List (Octet × Num)).filter fun q => decide (paramOf q.1 = some p)).getLast?.map fun q => q.2) ∧
      (∀ p l, lane p = some l ↔ ∃ v, carried p = some v ∧ v.toNat = l.val) ∧
      ∀ data n, started data n =
        { n with
          alert := true
          list := { kind := .startUp, subject := .none, repeats := 1, frame := 0, data := data, carried := false } ::
            n.list.take 15
          lost := if n.list.length < 16 ∨ n.lost = 0xFFFF#16 then n.lost else n.lost + 1 } :=
  ⟨by decide +kernel, _, fun p => (_ : Option Num).bind laneOfNum, _, fun _ => rfl,
    fun _ _ => Option.bind_eq_some_iff.trans (exists_congr fun _ => and_congr_right fun _ => laneOfNum_eq_some),
    fun _ _ => rfl⟩

theorem witness_EveryStep : step State.reset = .next (settle State.reset) ∧ LanesLegal State.reset ∧
    MapLegal State.reset := ⟨rfl, by decide +kernel, by decide +kernel⟩

theorem witness_EveryStep_bounds : ChannelBounded State.reset ∧ ForwardInForm State.reset ∧ TimingLegal State.reset := by
  refine ⟨?_, ?_, ?_⟩ <;> decide +kernel

theorem witness_EveryStep_units : NoticesLegal (noticesOut (entries 16 true) 0) ∧ ManagementEnabled State.reset ∧
    MapLegal (noticesOut (entries 16 true) 0) ∧ CheckersLegal State.reset ∧ ParamsInRange State.reset := by
  refine ⟨?_, ?_, ?_, ?_, ?_⟩ <;> decide +kernel

end Sys2Proof.Tests
end

section
/-! SUPPORT. Writes into the Elastic Stores (R23): what each piece of a write does, one equation per state of the store,
and the statement assembled from them. -/

namespace Sys2Proof.ElasticStores

open Sys2Proof.Machine

/-! ### The store that takes the record -/

/-- Putting back the store that a lane already has changes nothing. -/
theorem setStore_get_self (l : LaneId) (s : State) : setStore l (s.stores.get l) s = s := by simp [setStore]

/-- An OVER slip takes a RUNNING store that holds 4 records. -/
theorem overSlips_iff {st : Store} : overSlips st = true ↔ st.state = .running ∧ 4 ≤ st.records.length := by
  rw [overSlips, Bool.and_eq_true, decide_eq_true_iff, decide_eq_true_iff, fillOf]

theorem written_of_idle {st : Store} (h : st.state = .idle) (r : FrameRecord) : written r st = st := by
  simp [written, h]

theorem written_of_filling {st : Store} (h : st.state = .filling) (r : FrameRecord) :
    written r st =
      { st with state := if st.records = [] then .filling else .running, records := st.records ++ [r] } := by
  simp [written, h]

theorem written_of_running_of_lt {st : Store} (h : st.state = .running) (hfill : st.records.length < 4)
    (r : FrameRecord) : written r st = { st with records := st.records ++ [r] } := by
  simp [written, h, fillOf, Nat.not_le.2 hfill]

theorem written_of_overSlips {st : Store} (h : overSlips st = true) (r : FrameRecord) :
    written r st = { st with overSlips := bump st.overSlips } := by
  obtain ⟨hstate, hfill⟩ := overSlips_iff.1 h
  simp [written, hstate, fillOf, hfill]

/-! ### The survey's count -/

/-- A survey counts events on a lane while it runs on that lane with its interval open (R31). -/
theorem surveyCounts_iff {l : LaneId} {v : Survey} :
    surveyCounts l v = true ↔ v.state = .running ∧ v.lane = l ∧ v.first.isSome ∧ v.remaining ≠ 0 := by
  simp [surveyCounts, and_assoc]

/-- Counting an OVER slip touches the survey alone, and only one that counts events on the lane. -/
theorem surveyOverSlip_eq (l : LaneId) (s : State) :
    surveyOverSlip l s =
      { s with
        survey :=
          if s.survey.state = .running ∧ s.survey.lane = l ∧ s.survey.first.isSome ∧ s.survey.remaining ≠ 0 then
            { s.survey with overSlips := bump s.survey.overSlips }
          else s.survey } := by
  simp only [surveyOverSlip, surveyCounts_iff]
  split <;> rfl

/-! ### The whole write -/

/-- Without an OVER slip a write changes the lane's store alone. -/
theorem writeStore_of_not_overSlips {l : LaneId} {s : State} (h : ¬ overSlips (s.stores.get l) = true)
    (r : FrameRecord) : writeStore l r s = setStore l (written r (s.stores.get l)) s := by
  simp [writeStore, h]

/-- With an OVER slip the store counts it, the survey may, and SLIP is raised with the totals after it. -/
theorem writeStore_of_overSlips {l : LaneId} {s : State} (h : overSlips (s.stores.get l) = true) (r : FrameRecord) :
    writeStore l r s =
      raise .slip (.lane l) (slipData (written r (s.stores.get l)))
        (surveyOverSlip l (setStore l (written r (s.stores.get l)) s)) := by
  simp [writeStore, h]

/-- Settles O12, state by state of the store, the RUNNING one by whether a record still fits. -/
theorem storeTakesAWriteByItsState : Obligations.StoreTakesAWriteByItsState := by
  unfold Obligations.StoreTakesAWriteByItsState
  rintro l r s st rfl
  cases hstate : (s.stores.get l).state with
  | idle =>
    have hno : ¬ overSlips (s.stores.get l) = true := by simp [overSlips_iff, hstate]
    rw [writeStore_of_not_overSlips hno, written_of_idle hstate, setStore_get_self]
  | filling =>
    have hno : ¬ overSlips (s.stores.get l) = true := by simp [overSlips_iff, hstate]
    rw [writeStore_of_not_overSlips hno, written_of_filling hstate]
    rfl
  | running =>
    by_cases hfill : (s.stores.get l).records.length < 4
    · have hno : ¬ overSlips (s.stores.get l) = true := fun h => by
        obtain ⟨-, hfull⟩ := overSlips_iff.1 h
        omega
      rw [writeStore_of_not_overSlips hno, written_of_running_of_lt hstate hfill]
      simp only [if_pos hfill, hstate]
      rfl
    · have hslip : overSlips (s.stores.get l) = true := overSlips_iff.2 ⟨hstate, Nat.not_lt.1 hfill⟩
      rw [writeStore_of_overSlips hslip, written_of_overSlips hslip, surveyOverSlip_eq]
      simp only [if_neg hfill, hstate]
      rfl

end Sys2Proof.ElasticStores
end

section
/-! SUPPORT. The tests of an item (R125, R128, R132): an item that passes them is taken under its own rule; and ECHO
(R134), which passes them with 0 to 16 argument octets. -/

namespace Sys2Proof.Items

open Sys2Proof.Machine

/-- An item of a known kind, with an allowed length and permitted in a group copy, runs under its own rule: no other
case of the judgement is left. -/
theorem judgeItem_of_allowed {raw : RawItem} {k : ItemKind} (hkind : itemKind raw.kind = some k)
    (hlength : lengthAllowed k raw.args.length = true) (hpermitted : permittedInGroup k = true)
    (group : Bool) (serial : Nat) (s : State) : judgeItem group serial raw s = runItem group serial k raw.args s := by
  obtain ⟨hnone, -⟩ | ⟨k', hkind', hcase⟩ := judgeItem_cases (s := s) group serial raw
  · simp [hkind] at hnone
  · obtain rfl : k = k' := Option.some.inj (hkind.symm.trans hkind')
    obtain ⟨hbad, -⟩ | ⟨-, -, hforbidden, -⟩ | ⟨-, -, htaken⟩ := hcase
    · simp [hlength] at hbad
    · simp [hpermitted] at hforbidden
    · exact htaken

theorem lengthAllowed_echo {n : Nat} : lengthAllowed .echo n = true ↔ n ≤ 16 := decide_eq_true_iff

theorem runItem_echo (group : Bool) (serial : Nat) (args : List Octet) (s : State) :
    runItem group serial .echo args s = { status := .done, data := args, after := s } := rfl

/-- Settles O40: ECHO passes every test, in a group copy too, and its own rule gives its arguments back. -/
theorem echoReturnsItsOctets : Obligations.EchoReturnsItsOctets := by
  unfold Obligations.EchoReturnsItsOctets
  intro group serial args s hlength
  have htaken : judgeItem group serial { kind := 0x01#8, args := args } s = runItem group serial .echo args s :=
    judgeItem_of_allowed rfl (lengthAllowed_echo.2 hlength) rfl group serial s
  rw [htaken, runItem_echo]

end Sys2Proof.Items
end

section
/-! SUPPORT. A raise (R148, R149, R151): what each case of the entry leaves, said by the fields of the Notice Unit; and a
NOTICE_ACK that names no outstanding message (R158). -/

namespace Sys2Proof.Notices

open Sys2Proof.Machine

/-! ### The entry a notice coalesces into -/

/-- An entry is the one a notice coalesces into: it has the notice's kind and subject and is not carried (R149). -/
abbrev Awaits (kind : NoticeKind) (subject : Subject) (e : NoticeEntry) : Prop :=
  e.kind = kind ∧ e.subject = subject ∧ e.carried = false

theorem waitsFor_iff {kind : NoticeKind} {subject : Subject} {e : NoticeEntry} :
    waitsFor kind subject e = true ↔ Awaits kind subject e := by
  simp [waitsFor, and_assoc]

theorem any_waitsFor_iff {kind : NoticeKind} {subject : Subject} {list : List NoticeEntry} :
    list.any (waitsFor kind subject) = true ↔ ∃ e ∈ list, Awaits kind subject e := by
  simp only [List.any_eq_true, waitsFor_iff]

/-- A count rises by one until it is at its largest value `m`. -/
theorem bump_eq_ite {w : Nat} {m : BitVec w} (hm : m = BitVec.allOnes w) (c : BitVec w) :
    bump c = if c = m then m else c + 1 := by
  subst hm
  split
  · next h => rw [h, bump_allOnes]
  · next h => exact bump_of_ne h

/-- A list that holds an entry asserts ALERT (R151). -/
theorem setList_of_ne_nil {list : List NoticeEntry} (h : list ≠ []) (n : NoticeUnit) :
    setList list n = { n with alert := true, list := list } := by
  simp [setList, h]

/-! ### The three cases of R149 -/

section Entry

variable {kind : NoticeKind} {subject : Subject} {n : NoticeUnit}

/-- Coalesce: the entry counts once more and takes the new frame and data; every other entry stands. -/
theorem enterNotice_of_awaits (h : ∃ e ∈ n.list, Awaits kind subject e) (frame : Num) (data : List Octet) :
    enterNotice kind subject frame data n =
      { n with
        alert := true
        list := n.list.map fun e =>
          if Awaits kind subject e then
            { e with repeats := if e.repeats = 255 then 255 else e.repeats + 1, frame := frame, data := data }
          else e } := by
  have hany : n.list.any (waitsFor kind subject) = true := any_waitsFor_iff.2 h
  have hne : n.list ≠ [] := fun hnil => by simp [hnil] at h
  obtain ⟨-, heq⟩ | ⟨hno, -⟩ | ⟨hno, -⟩ := enterNotice_cases kind subject frame data n
  · rw [heq, setList_of_ne_nil (by simpa using hne)]
    simp only [waitsFor_iff, coalesce, bump_eq_ite (m := (255 : Octet)) rfl]
  all_goals simp [hany] at hno

/-- Append: with no entry to coalesce into and room in the list, a new entry goes to its end. -/
theorem enterNotice_of_room (h : ¬ ∃ e ∈ n.list, Awaits kind subject e) (hroom : n.list.length < 16) (frame : Num)
    (data : List Octet) :
    enterNotice kind subject frame data n =
      { n with
        alert := true
        list := n.list ++
          [{ kind := kind, subject := subject, repeats := 1, frame := frame, data := data, carried := false }] } := by
  obtain ⟨hany, -⟩ | ⟨-, -, heq⟩ | ⟨-, hfull, -⟩ := enterNotice_cases kind subject frame data n
  · exact absurd (any_waitsFor_iff.1 hany) h
  · rw [heq, setList_of_ne_nil (by simp)]
    rfl
  · exact absurd hroom (Nat.not_lt.2 hfull)

/-- Loss: with no entry to coalesce into and a full list, the notice is only counted; ALERT stands. -/
theorem enterNotice_of_full (h : ¬ ∃ e ∈ n.list, Awaits kind subject e) (hfull : ¬ n.list.length < 16) (frame : Num)
    (data : List Octet) :
    enterNotice kind subject frame data n =
      { n with lost := if n.lost = 0xFFFF#16 then 0xFFFF#16 else n.lost + 1 } := by
  obtain ⟨hany, -⟩ | ⟨-, hroom, -⟩ | ⟨-, -, heq⟩ := enterNotice_cases kind subject frame data n
  · exact absurd (any_waitsFor_iff.1 hany) h
  · exact absurd hroom hfull
  · rw [heq, bump_eq_ite (m := 0xFFFF#16) rfl]

end Entry

/-! ### The raise -/

/-- A masked kind is discarded (R148). -/
theorem raise_of_masked {kind : NoticeKind} {s : State} (h : noticeEnabled s.params.noticeMask kind = false)
    (subject : Subject) (data : List Octet) : raise kind subject data s = s := by
  simpa [h] using raise_cases s kind subject data

/-- An enabled kind is entered with the number of the latest start (R148). -/
theorem raise_of_enabled {kind : NoticeKind} {s : State} (h : noticeEnabled s.params.noticeMask kind = true)
    (subject : Subject) (data : List Octet) :
    raise kind subject data s = { s with notices := enterNotice kind subject s.timing.number data s.notices } := by
  simpa [h] using raise_cases s kind subject data

/-- Settles O6: the mask decides whether the notice is entered, and the first case of R149 that applies how. -/
theorem raiseCoalescesAppendsOrLoses : Obligations.RaiseCoalescesAppendsOrLoses := by
  unfold Obligations.RaiseCoalescesAppendsOrLoses
  intro kind subject data s
  refine ⟨fun hmasked => raise_of_masked hmasked subject data, fun henabled => ?_⟩
  rw [raise_of_enabled henabled]
  by_cases hawaits : ∃ e ∈ s.notices.list, Awaits kind subject e
  · rw [enterNotice_of_awaits hawaits, if_pos hawaits]
  · rw [if_neg hawaits]
    by_cases hroom : s.notices.list.length < 16
    · rw [enterNotice_of_room hawaits hroom, if_pos hroom]
    · rw [enterNotice_of_full hawaits hroom, if_neg hroom]

/-! ### NOTICE_ACK -/

/-- An item of a unicast request, of a known kind and with an allowed length, runs under its own rule: only a group
copy asks for permission (R132). -/
theorem judgeItem_unicast {raw : RawItem} {k : ItemKind} (hkind : itemKind raw.kind = some k)
    (hlength : lengthAllowed k raw.args.length = true) (serial : Nat) (s : State) :
    judgeItem false serial raw s = runItem false serial k raw.args s := by
  simpa [hkind, hlength] using judgeItem_cases s false serial raw

/-- NOTICE_ACK of a unicast request is judged by R145 alone. -/
theorem judgeItem_noticeAck (serial : Nat) (seq : Octet) (s : State) :
    judgeItem false serial { kind := 0x12#8, args := [seq] } s = itemNoticeAck [seq] s :=
  judgeItem_unicast (k := .noticeAck) rfl rfl serial s

theorem itemNoticeAck_of_none {s : State} (h : s.notices.outstanding = none) (seq : Octet) :
    itemNoticeAck [seq] s = fails .nothingOutstanding s := by
  simp [itemNoticeAck, h]

theorem itemNoticeAck_of_ne {s : State} {m : Outstanding} {seq : Octet} (h : s.notices.outstanding = some m)
    (hseq : m.seq ≠ seq) : itemNoticeAck [seq] s = fails .stale s := by
  simp [itemNoticeAck, h, hseq]

/-- Settles O47, by whether a message is outstanding: both failing results leave the state they found. -/
theorem unmatchedAcknowledgementChangesNothing : Obligations.UnmatchedAcknowledgementChangesNothing := by
  unfold Obligations.UnmatchedAcknowledgementChangesNothing
  intro serial seq s
  rw [judgeItem_noticeAck]
  refine ⟨fun hnone => ?_, fun m hout hseq => ?_⟩
  · rw [itemNoticeAck_of_none hnone, fails]
  · rw [itemNoticeAck_of_ne hout hseq, fails]

end Sys2Proof.Notices
end

section
/-! SUPPORT. The queue of commands (logs 4, 17, 20): the front command is run, every command answers a next state, and
none touches the commands behind it. -/

namespace Sys2Proof.Commands

open Sys2Proof.Machine

/-- Settles O1: `step` takes the front command off the queue and executes it. -/
theorem stepRunsTheFrontCommand : Obligations.StepRunsTheFrontCommand := by
  unfold Obligations.StepRunsTheFrontCommand
  intro c rest s
  rfl

/-! ### The line events leave the queue -/

theorem loseSignal_pending (l : LaneId) (s : State) : (loseSignal l s).pending = s.pending := by simp

theorem timerExpires_pending (s : State) : (timerExpires s).pending = s.pending := by
  unfold timerExpires
  split <;> simp

theorem refinStart_pending (s : State) : (refinStart s).pending = s.pending := by
  unfold refinStart
  split <;> simp

theorem takePulse_pending (early : Bool) (s : State) : (takePulse early s).pending = s.pending := by
  unfold takePulse
  split <;> simp [refinStart_pending]

theorem takeMiss_pending (s : State) : (takeMiss s).pending = s.pending := by
  unfold takeMiss
  split <;> simp [refinStart_pending]

theorem armChange_pending (serial : Nat) (s : State) : (armChange serial s).pending = s.pending := by
  unfold armChange
  (repeat' split) <;> simp

theorem reportTail_pending (m : OutgoingMessage) (s : State) : (reportTail m s).pending = s.pending := by
  unfold reportTail
  (repeat' split) <;> simp [resetPart, armChange_pending]

theorem emitServiceWord_pending (s : State) : (emitServiceWord s).pending = s.pending := by
  unfold emitServiceWord messageEmitted
  (repeat' split) <;> simp [reportTail_pending]

/-- The settings of an image leave the queue: each parameter takes effect as a write does. -/
theorem applySettings_pending (im : Image) (s : State) : (applySettings im s).pending = s.pending := by
  have param : ∀ s p, (applyParam im s p).pending = s.pending := by
    intro s p
    unfold applyParam
    split <;> simp
  simp [applySettings, foldl_leaves State.pending _ param]

theorem endEmpty_pending (r : LoadResult) (s : State) : (endEmpty r s).pending = s.pending := by
  unfold endEmpty endReload endLoadEmpty
  split <;> simp

theorem attemptEnds_pending (octets : List Octet) (s : State) : (attemptEnds octets s).pending = s.pending := by
  unfold attemptEnds endAttempt concludeAttempt
  (repeat' split) <;> simp [endEmpty_pending, endReload, applyImage, writeRuns, applySettings_pending]

/-! ### Every command -/

/-- Settles O2, command by command. -/
theorem everyCommandAnswersNextAndKeepsTheQueue : Obligations.EveryCommandAnswersNextAndKeepsTheQueue := by
  unfold Obligations.EveryCommandAnswersNextAndKeepsTheQueue
  intro c s
  cases c with
  | powerOnReset straps => exact ⟨_, rfl, rfl⟩
  | wordArrival lane word flagged => exact ⟨_, rfl, by simp⟩
  | signalAbsence lane => exact ⟨_, rfl, by simp⟩
  | localFrameTimerExpiry => exact ⟨_, rfl, by simp [timerExpires_pending]⟩
  | refinPulse early => exact ⟨_, rfl, by simp [takePulse_pending]⟩
  | refinMiss => exact ⟨_, rfl, by simp [takeMiss_pending]⟩
  | serviceWordEmitted => exact ⟨_, rfl, by simp [emitServiceWord_pending]⟩
  | imageAttemptEnd octets => exact ⟨_, rfl, by simp [attemptEnds_pending]⟩
  | copyDone => exact ⟨_, rfl, by simp⟩
  | checkDone checker => exact ⟨_, rfl, by simp⟩
  | surveyDone => exact ⟨_, rfl, by simp⟩
  | owedAbortStored => exact ⟨_, rfl, by simp⟩
  | requestExecution => exact ⟨_, rfl, by simp⟩
  | groupCopyExecution => exact ⟨_, rfl, by simp⟩
  | noticeMessageBuild => exact ⟨_, rfl, by simp⟩
  | noticeCopyPlacement => exact ⟨_, rfl, by simp⟩
  | retransmissionTimerExpiry => exact ⟨_, rfl, by simp⟩
  | imageAttemptBegin => exact ⟨_, rfl, by simp⟩

end Sys2Proof.Commands
end

section
/-! SUPPORT. The reset of the part (R162) and the values of its reset tables. -/

namespace Sys2Proof.Resets

open Sys2Proof.Machine

/-- The address that a strap level gives: 1 to 30 name it, the two other levels leave 0 (R106). -/
theorem strapAddress_eq (straps : BitVec 5) :
    strapAddress straps = if 1 ≤ straps.toNat ∧ straps.toNat ≤ 30 then straps.setWidth 8 else 0 := by
  revert straps
  decide

/-- Settles O4: the reset of every block, with cause POWER_ON. -/
theorem powerOnResetSetsEveryBlock : Obligations.PowerOnResetSetsEveryBlock := by
  unfold Obligations.PowerOnResetSetsEveryBlock
  intro straps s
  rw [← strapAddress_eq]
  rfl

/-- Settles O5, table by table: each entry of a table that reset fills is the entry it is filled with. -/
theorem resetStateHoldsTheTablesValues : Obligations.ResetStateHoldsTheTablesValues := by
  unfold Obligations.ResetStateHoldsTheTablesValues
  refine ⟨fun l => ?lane, ?survey, ?timing, ?map, rfl, fun g => ?generator, fun c => ?checker, ?channel, ?dispatcher,
    ?notices, ?loader, ?params⟩
  case lane =>
    simp [State.reset, Lane.reset, Store.reset, Timing.reset, Egress.reset, ConnectionMap.reset, Bank.reset]
  case survey => simp [State.reset, Survey.reset]
  case timing => simp [State.reset, Timing.reset]
  case map => simp [State.reset, ConnectionMap.reset]
  case generator => simp [State.reset, Generator.reset]
  case checker => simp [State.reset, Checker.reset]
  case channel => simp [State.reset, Channel.reset, GroupRecord.reset]
  case dispatcher => simp [State.reset, Dispatcher.reset]
  case notices => simp [State.reset, NoticeUnit.reset]
  case loader => simp [State.reset, Loader.reset]
  case params => simp [State.reset, Params.reset]

/-! ### Reset meets every predicate that each step keeps -/

theorem reset_lanesLegal : LanesLegal State.reset := by
  intro l
  have henabled : ∀ l : LaneId, inMask State.reset.params.ingressEnable l = true := by decide
  simp [State.reset, Lane.reset, Store.reset, assemblyLegal, storeLegal, storeFollows, aligned] at henabled ⊢
  exact henabled l

theorem reset_timingLegal : TimingLegal State.reset := by
  simp [TimingLegal, sourceLegal, State.reset, Timing.reset, Params.reset]

theorem reset_mapLegal : MapLegal State.reset := by
  simp [MapLegal, claims, operating, reloading, copying, commitPending, State.reset, ConnectionMap.reset, Loader.reset]

theorem reset_forwardInForm : ForwardInForm State.reset := by
  simp [ForwardInForm, State.reset, Channel.reset, parserStoring, scanForward]

theorem reset_channelBounded : ChannelBounded State.reset := by
  simp [ChannelBounded, State.reset, Channel.reset, intakeKeys, cacheKeys]

theorem reset_managementEnabled : ManagementEnabled State.reset := by
  simp [ManagementEnabled, State.reset, Channel.reset, Params.reset, Dispatcher.reset, keepsEgress, inMask]

theorem reset_paramsInRange : ParamsInRange State.reset := by
  refine ⟨?_, by decide⟩
  simp [everyParam, imageParams, paramInRange, paramValue, within, State.reset, Params.reset, Channel.reset, Generator.reset,
    genKindValue]

theorem reset_checkersLegal : CheckersLegal State.reset := by
  intro c
  simp [State.reset, Checker.reset, checkerLegal]

theorem reset_noticesLegal : NoticesLegal State.reset := by
  simp [NoticesLegal, State.reset, NoticeUnit.reset, uncarriedKeys, uncarried, positionLegal]

/-- Settles O60. -/
theorem resetStateIsLegal : Obligations.ResetStateIsLegal :=
  ⟨reset_lanesLegal, reset_timingLegal, reset_mapLegal, reset_forwardInForm, reset_channelBounded,
    reset_managementEnabled, reset_paramsInRange, reset_checkersLegal, reset_noticesLegal⟩

end Sys2Proof.Resets
end

section
/-! SUPPORT. The notices of one event (R148, R149): a part of the event that raises some of them, how two parts compose,
and that a notice raised in one part is still in the list after the others. -/

namespace Sys2Proof.Raising

open Sys2Proof.Machine

variable {may may' : NoticeKind → Subject → Bool} {n m : Nat} {b u v t : State} {kind : NoticeKind} {subject : Subject}
  {data : List Octet}

/-- Either of two sets of notices. -/
def either (may may' : NoticeKind → Subject → Bool) (kind : NoticeKind) (subject : Subject) : Bool :=
  may kind subject || may' kind subject

/-- The one notice of this kind and subject, where `due`. -/
def only (due : Bool) (kind : NoticeKind) (subject : Subject) (k : NoticeKind) (x : Subject) : Bool :=
  due && decide (k = kind) && decide (x = subject)

theorem only_iff {due : Bool} {k : NoticeKind} {x : Subject} :
    only due kind subject k x = true ↔ due = true ∧ k = kind ∧ x = subject := by simp [only, and_assoc]

/-- A Notice Unit after any number of notices other than START_UP, which no block raises (R153), have been entered. -/
inductive Entered (u : NoticeUnit) : NoticeUnit → Prop where
  | none : Entered u u
  | more {v : NoticeUnit} (kind : NoticeKind) (subject : Subject) (frame : Num) (data : List Octet) (h : Entered u v)
      (hk : kind ≠ .startUp) : Entered u (enterNotice kind subject frame data v)

theorem Entered.trans {u v w : NoticeUnit} (h : Entered u v) (h' : Entered v w) : Entered u w := by
  induction h' with
  | none => exact h
  | more kind subject frame data _ hk ih => exact ih.more kind subject frame data hk

theorem entered_raise {kind : NoticeKind} (hk : kind ≠ .startUp) (subject : Subject) (data : List Octet) (s : State) :
    Entered s.notices (raise kind subject data s).notices := by
  obtain ⟨-, h⟩ | ⟨-, h⟩ := raise_cases s kind subject data
  · rw [h]
    exact .none
  · rw [h]
    exact .more kind subject _ data .none hk

/-- A part of an event under one mask and one frame number: of the Notice Unit only the list changes, by at most `n` of the
notices that `may` names. -/
structure Part (may : NoticeKind → Subject → Bool) (n : Nat) (b t : State) : Prop where
  kept : NoticesKept may b t
  entered : Entered b.notices t.notices
  grown : t.notices.list.length ≤ b.notices.list.length + n
  mask : t.params.noticeMask = b.params.noticeMask
  number : t.timing.number = b.timing.number

theorem Part.of_eq (hnotices : t.notices = b.notices) (hmask : t.params.noticeMask = b.params.noticeMask)
    (hnumber : t.timing.number = b.timing.number) : Part may n b t :=
  ⟨.of_eq hnotices, by rw [hnotices]; exact .none, by simp [hnotices], hmask, hnumber⟩

theorem Part.mono (h : Part may n b t) (hmay : ∀ k x, may k x = true → may' k x = true) (hn : n ≤ m) : Part may' m b t :=
  ⟨h.kept.mono hmay, h.entered, by have := h.grown; omega, h.mask, h.number⟩

theorem Part.trans (h : Part may n b u) (h' : Part may' m u t) : Part (either may may') (n + m) b t := by
  refine ⟨?_, h.entered.trans h'.entered, ?_, h'.mask.trans h.mask, h'.number.trans h.number⟩
  · exact (h.kept.mono fun k x hk => by simp [either, hk]).trans (h'.kept.mono fun k x hk => by simp [either, hk]) h.mask
      h'.number.symm
  · have := h.grown
    have := h'.grown
    omega

/-- Of the two ends only the Notice Unit, the mask and the number matter. -/
theorem Part.congr (h : Part may n b t) {b' t' : State} (hb : b'.notices = b.notices)
    (hbm : b'.params.noticeMask = b.params.noticeMask) (hbn : b'.timing.number = b.timing.number)
    (ht : t'.notices = t.notices) (htm : t'.params.noticeMask = t.params.noticeMask)
    (htn : t'.timing.number = t.timing.number) : Part may n b' t' := by
  have hl := Part.trans (Part.trans (Part.of_eq (may := may) (n := 0) (b := b') (t := b) hb.symm hbm.symm hbn.symm) h)
    (Part.of_eq (may := may) (n := 0) ht htm htn)
  exact hl.mono (by simp [either]) (by omega)

/-- A raise adds at most one entry to the list. -/
theorem raise_length_le (k : NoticeKind) (x : Subject) (d : List Octet) (s : State) :
    (raise k x d s).notices.list.length ≤ s.notices.list.length + 1 := by
  obtain ⟨-, h⟩ | ⟨-, h⟩ := raise_cases s k x d
  · simp [h]
  · rw [h]
    obtain ⟨-, h'⟩ | ⟨-, -, h'⟩ | ⟨-, -, h'⟩ := enterNotice_cases k x s.timing.number d s.notices <;> simp [h', setList]

theorem Part.raise {k : NoticeKind} (hk : k ≠ .startUp) (x : Subject) (d : List Octet) (s : State)
    (hmay : may k x = true) : Part may 1 s (Machine.raise k x d s) :=
  ⟨raise_noticesKept d s hmay, entered_raise hk x d s, raise_length_le k x d s, by simp, by simp⟩

/-! ### A notice is in the list after its event -/

/-- Fewer notices before it leave more room. -/
theorem raised_mono (h : Raised n kind subject data b t) (hn : n ≤ m) : Raised m kind subject data b t := by
  refine fun hmask hfits => h hmask (hfits.imp id fun hroom => ?_)
  omega

/-- Of the state before only the Notice Unit and the mask matter. -/
theorem raised_congr (h : Raised n kind subject data b t) {b' : State} (hb : b'.notices = b.notices)
    (hmask : b'.params.noticeMask = b.params.noticeMask) : Raised n kind subject data b' t := by
  unfold Raised at h ⊢
  rw [hb, hmask]
  exact h

/-- A notice just raised is in the list, if it found an entry to coalesce into or room. -/
theorem raised_raise (kind : NoticeKind) (subject : Subject) (data : List Octet) (s : State) :
    Raised 0 kind subject data s (raise kind subject data s) := by
  intro hmask hfits
  obtain ⟨hmasked, -⟩ | ⟨-, heq⟩ := raise_cases s kind subject data
  · simp [noticeEnabled, hmask] at hmasked
  · rw [heq]
    obtain ⟨hany, h⟩ | ⟨-, -, h⟩ | ⟨hnone, hfull, -⟩ := enterNotice_cases kind subject s.timing.number data s.notices
    · obtain ⟨e, he, hw⟩ := List.any_eq_true.1 hany
      rw [h]
      refine ⟨coalesce s.timing.number data e, ?_, ?_⟩
      · exact List.mem_map.2 ⟨e, he, by simp [hw]⟩
      · simp only [waitsFor, Bool.and_eq_true, decide_eq_true_eq, Bool.not_eq_true'] at hw
        simp [coalesce, hw]
    · rw [h]
      exact ⟨freshEntry kind subject s.timing.number data, by simp [setList], rfl, rfl, rfl, rfl, rfl⟩
    · obtain ⟨e, he, hk, hx, hc⟩ | hroom := hfits
      · have hany : s.notices.list.any (waitsFor kind subject) = true :=
          List.any_eq_true.2 ⟨e, he, by simp [waitsFor, hk, hx, hc]⟩
        simp [hnone] at hany
      · simp only [Config.listDepth] at hfull
        omega

/-- Parts of the event before the raise only take room, and parts after it leave the entry, as long as they do not raise
the same notice again. -/
theorem raised_within (pre : Part may n b u) (h : Raised m kind subject data u v) {p : Nat} (post : Part may' p v t)
    (hnot : may' kind subject = false) : Raised (n + m) kind subject data b t := by
  intro hmask hfits
  have hfits' : noticeFits m kind subject u.notices := by
    rcases hfits with ⟨e, he, hk, hx, hc⟩ | hroom
    · obtain ⟨i, hi⟩ := List.getElem?_of_mem he
      obtain ⟨e', he', hk', hx', hc', -⟩ := pre.kept.2.stands i e hi
      exact .inl ⟨e', List.mem_of_getElem? he', hk'.trans hk, hx'.trans hx, hc'.trans hc⟩
    · have := pre.grown
      exact .inr (by omega)
  obtain ⟨e, he, hk, hx, hc, hf, hd⟩ := h (by rw [pre.mask]; exact hmask) hfits'
  obtain ⟨i, hi⟩ := List.getElem?_of_mem he
  obtain ⟨e', he', -, -, -, hsame⟩ := post.kept.2.stands i e hi
  rcases hsame with rfl | ⟨-, hmay, -⟩
  · exact ⟨e', List.mem_of_getElem? he', hk, hx, hc, hf.trans post.number.symm, hd⟩
  · rw [hk, hx] at hmay
    simp [hnot] at hmay

/-! ### One notice for each of several lanes or checkers -/

/-- The notices of one kind that several lanes or checkers raise, each where `due`. -/
def raiseEach {ι : Type} (kind : NoticeKind) (subject : ι → Subject) (due : ι → Bool) (data : ι → List Octet)
    (is : List ι) (s : State) : State :=
  is.foldl (fun u i => if due i then raise kind (subject i) (data i) u else u) s

section Each

variable {ι : Type} {subject : ι → Subject} {due : ι → Bool} {datas : ι → List Octet}

theorem raiseEach_nil (s : State) : raiseEach kind subject due datas [] s = s := rfl

theorem raiseEach_cons (i : ι) (is : List ι) (s : State) :
    raiseEach kind subject due datas (i :: is) s =
      raiseEach kind subject due datas is (if due i then raise kind (subject i) (datas i) s else s) := rfl

theorem raiseEach_append (is js : List ι) (s : State) :
    raiseEach kind subject due datas (is ++ js) s =
      raiseEach kind subject due datas js (raiseEach kind subject due datas is s) :=
  List.foldl_append

/-- The notices that `raiseEach` raises. -/
def eachOf (kind : NoticeKind) (subject : ι → Subject) (due : ι → Bool) (is : List ι) (k : NoticeKind) (x : Subject) : Bool :=
  decide (k = kind) && is.any fun i => due i && decide (x = subject i)

/-- Nothing but the Notice Unit changes. -/
theorem raiseEach_eq (is : List ι) (s : State) :
    raiseEach kind subject due datas is s =
      { s with notices := (raiseEach kind subject due datas is s).notices } := by
  induction is generalizing s with
  | nil => rfl
  | cons i is ih =>
    rw [raiseEach_cons]
    split
    · rw [ih]
      obtain ⟨-, h⟩ | ⟨-, h⟩ := raise_cases s kind (subject i) (datas i) <;> rw [h]
    · exact ih s

theorem Part.raiseEach (hk : kind ≠ .startUp) (is : List ι) (s : State) :
    Part (eachOf kind subject due is) (is.countP due) s (raiseEach kind subject due datas is s) := by
  induction is generalizing s with
  | nil => exact .of_eq rfl rfl rfl
  | cons i is ih =>
    rw [raiseEach_cons]
    by_cases hdue : due i = true
    · rw [if_pos hdue]
      have hone : Part (only true kind (subject i)) 1 s (Machine.raise kind (subject i) (datas i) s) :=
        .raise hk _ _ _ (by simp [only])
      refine (hone.trans (ih _)).mono ?_ (by simp [hdue, Nat.add_comm])
      simp only [either, only, eachOf, Bool.or_eq_true, Bool.and_eq_true, decide_eq_true_eq, List.any_eq_true, List.any_cons,
        hdue, true_and]
      rintro k x (⟨rfl, rfl⟩ | ⟨rfl, h⟩)
      · exact ⟨rfl, .inl rfl⟩
      · exact ⟨rfl, .inr h⟩
    · rw [if_neg hdue]
      refine (ih s).mono ?_ (by simp [hdue])
      simp only [eachOf, Bool.and_eq_true, decide_eq_true_eq, List.any_eq_true, List.any_cons, Bool.or_eq_true]
      exact fun k x h => ⟨h.1, .inr h.2⟩

theorem eachOf_eq_false (hk : kind ≠ k) (is : List ι) (x : Subject) :
    eachOf kind subject due is k x = false := by
  simp [eachOf, hk.symm]

/-- Each notice that is due is in the list where all others of `raiseEach` find room beside it. -/
theorem raised_raiseEach (hk : kind ≠ .startUp) (hinj : Function.Injective subject) {is : List ι} (hnodup : is.Nodup) {i : ι} (hi : i ∈ is)
    (hdue : due i = true) (s : State) :
    Raised (is.countP due - 1) kind (subject i) (datas i) s (raiseEach kind subject due datas is s) := by
  obtain ⟨pre, post, rfl⟩ := List.append_of_mem hi
  rw [raiseEach_append, raiseEach_cons, if_pos hdue]
  have hpost : i ∉ post := by
    have := hnodup.of_append_right
    simp at this
    exact this.1
  refine raised_mono (n := pre.countP due + 0) ?_ (by simp [hdue])
  refine raised_within (Part.raiseEach hk pre s) (raised_raise kind (subject i) (datas i) _) (Part.raiseEach hk post _) ?_
  simp only [eachOf, decide_true, Bool.true_and, List.any_eq_false, Bool.and_eq_true, decide_eq_true_eq, not_and]
  intro j hj _ heq
  exact hpost (hinj heq ▸ hj)

end Each

end Sys2Proof.Raising
end

section
/-! SUPPORT. A move of the Frame Timing Unit to a timing state and source (R45, R46, R48, R49): nothing where both stand,
else TIMING_CHANGE and the recentre of a lane entered. -/

namespace Sys2Proof.Moves

open Sys2Proof.Machine Sys2Proof.Raising

/-- The part with another timing state and source. -/
def retimed (c : TimingState × Option Source) (s : State) : State :=
  { s with timing := { s.timing with state := c.1, source := c.2 } }

/-- The move changes state or source. -/
def moves (c : TimingState × Option Source) (s : State) : Bool :=
  decide (s.timing.state ≠ c.1 ∨ s.timing.source ≠ c.2)

theorem moves_eq_false {c : TimingState × Option Source} {s : State} :
    moves c s = false ↔ s.timing.state = c.1 ∧ s.timing.source = c.2 := by
  simp [moves]

theorem moveTiming_of_stands {c : TimingState × Option Source} {s : State} (h : moves c s = false) :
    moveTiming c s = s := by
  rw [moveTiming, if_pos (moves_eq_false.1 h)]

theorem moveTiming_of_moves {c : TimingState × Option Source} {s : State} (h : moves c s = true) :
    moveTiming c s =
      recentreEntered s.timing.source c.2 (raise .timingChange .none (timingData c) (retimed c s)) := by
  rw [moveTiming, if_neg fun h' => by simp [moves_eq_false.2 h'] at h]
  rfl

theorem recentreEntered_notices (before after : Option Source) (s : State) :
    (recentreEntered before after s).notices = s.notices := by simp

/-- A move raises TIMING_CHANGE where it changes state or source, and no other notice. -/
theorem moveTiming_part (c : TimingState × Option Source) (s : State) :
    Part (only (moves c s) .timingChange .none) 1 s (moveTiming c s) := by
  cases h : moves c s with
  | false =>
    rw [moveTiming_of_stands h]
    exact .of_eq rfl rfl rfl
  | true =>
    rw [moveTiming_of_moves h]
    have hraise : Part (only true .timingChange .none) 1 (retimed c s)
        (raise .timingChange .none (timingData c) (retimed c s)) := .raise (by decide) _ _ _ (by simp [only])
    exact hraise.congr rfl rfl rfl (by simp) (by simp) (by simp)

/-- The TIMING_CHANGE of a move carries the new state and source. -/
theorem moveTiming_raised {c : TimingState × Option Source} {s : State} (h : moves c s = true) :
    Raised 0 .timingChange .none [timingOctet c.1, sourceOctet c.2] s (moveTiming c s) := by
  rw [moveTiming_of_moves h]
  have hraised := raised_raise .timingChange .none (timingData c) (retimed c s)
  have hafter : Part (only false .timingChange .none) 0 (raise .timingChange .none (timingData c) (retimed c s))
      (recentreEntered s.timing.source c.2 (raise .timingChange .none (timingData c) (retimed c s))) :=
    .of_eq (by simp) (by simp) (by simp)
  have hbefore : Part (only false .timingChange .none) 0 s (retimed c s) := .of_eq rfl rfl rfl
  exact raised_within hbefore hraised hafter rfl

/-- A change of the blocks that a move does not read commutes with it. -/
theorem moveTiming_commutes {f : State → State} {c : TimingState × Option Source} {s : State}
    (hretimed : retimed c (f s) = f (retimed c s)) (htiming : (f s).timing = s.timing)
    (hraise : ∀ k x d u, raise k x d (f u) = f (raise k x d u)) (hrecentre : ∀ l u, recentre l (f u) = f (recentre l u)) :
    moveTiming c (f s) = f (moveTiming c s) := by
  have hentered : ∀ before after u, recentreEntered before after (f u) = f (recentreEntered before after u) := by
    intro before after u
    unfold recentreEntered
    split
    · split
      · rfl
      · exact hrecentre _ u
    · rfl
  have hmoves : moves c (f s) = moves c s := by rw [moves, moves, htiming]
  cases h : moves c s with
  | false => rw [moveTiming_of_stands h, moveTiming_of_stands (hmoves.trans h)]
  | true => rw [moveTiming_of_moves h, moveTiming_of_moves (hmoves.trans h), hretimed, hraise, hentered, htiming]

end Sys2Proof.Moves
end

section
/-! SUPPORT. The master frame start (R47): what it leaves in each block, one equation per block; the notices it raises. -/

namespace Sys2Proof.Starts

open Sys2Proof.Machine Sys2Proof.Raising

variable (o : Option LaneId) (b : State)

/-! ### The beginning of a start -/

@[simp] theorem beginStart_starts : (beginStart b).starts = b.starts + 1 := by simp [beginStart]

/-- The number of the start that finds the part in `b`. -/
def numberOf : Num := startNumber o (delivered b.stores) (beginStart b)

/-- The start that finds the part in `b` is a number step. -/
def stepOf : Bool := isStep (numberOf o b) (beginStart b)

/-- The store of a lane once the start has read it. -/
@[simp] theorem readStores_get (s : State) (l : LaneId) : (readStores s).stores.get l = afterRead (s.stores.get l) := by
  simp [readStores]

theorem takeNumber_number (n : Num) (s : State) : (takeNumber n s).timing.number = n := by simp

/-- The stores after the reads of a start, before a timing lane is recentred. -/
@[simp] theorem openStart_stores_get (l : LaneId) (s : State) :
    (openStart o s).stores.get l = afterRead (s.stores.get l) := by
  simp [openStart]

@[simp] theorem openStart_timing :
    (openStart o (beginStart b)).timing =
      { b.timing with
        number := numberOf o b, timer := .start
        steps := if stepOf o b then bump b.timing.steps else b.timing.steps } := by
  simp only [openStart, raiseUnderSlips_frame, takeNumber_timing, numberOf, stepOf, isStep]
  simp [readStores]

/-! ### Timing and stores -/

theorem reactToStart_timing : (reactToStart o (beginStart b)).timing = (openStart o (beginStart b)).timing := by
  simp [reactToStart]

/-- The evaluation reads neither number, timer nor step count. -/
theorem evaluated_numbered (t : Timing) (p : Params) (n steps : Num) (timer : TimerOrigin) :
    evaluated { t with number := n, timer := timer, steps := steps } p = evaluated t p := rfl

/-- The timing after a start: numbered, then evaluated by the state that stood (R45, R50, R51). -/
theorem timing_eq :
    (masterFrameStart o b).timing =
      { b.timing with
        state := (evaluated b.timing b.params).1, source := (evaluated b.timing b.params).2
        number := numberOf o b, timer := .start
        steps := if stepOf o b then bump b.timing.steps else b.timing.steps } := by
  simp [masterFrameStart, reactToStart_timing, evaluated_numbered]

/-- The stores after a start: each read once, and that of a timing lane just entered recentred (R24, R28). -/
theorem stores_get (l : LaneId) :
    (masterFrameStart o b).stores.get l =
      if (evaluated b.timing b.params).2 = some (.lane l) ∧ b.timing.source ≠ (evaluated b.timing b.params).2 then
        recentred (afterRead (b.stores.get l))
      else afterRead (b.stores.get l) := by
  rw [masterFrameStart, evaluateTiming, moveTiming_stores]
  have hstores : (reactToStart o (beginStart b)).stores.get l = afterRead (b.stores.get l) := by simp [reactToStart]
  simp only [hstores, reactToStart_timing, openStart_timing, evaluated_numbered, reactToStart_frame, beginStart_frame]

/-! ### Map, checkers and survey -/

/-- The commit fires at the start (R64). -/
def firesAt : Bool := fires (decide (b.starts = 0)) b.timing.number (numberOf o b) b.map.commit

/-- The map of the start once a commit whose target is met has fired (R64, R66). -/
def firedMap : ConnectionMap :=
  if firesAt o b then committed b.map else b.map

theorem map_eq : (masterFrameStart o b).map = copyStep (firedMap o b) := by
  rw [firedMap, firesAt]
  simp [masterFrameStart, reactToStart, mapAndMeasure, surveyAtStart, stepCopy, fireCommit_map]

theorem checkers_get (c : CheckerId) :
    (masterFrameStart o b).checkers.get c =
      sampleChecker (watchedWord (delivered b.stores) (b.checkers.get c)) (b.checkers.get c) := by
  simp [masterFrameStart, reactToStart, mapAndMeasure, surveyAtStart, stepCopy]

theorem survey_eq :
    (masterFrameStart o b).survey =
      sampleSurvey (deliveredBy (b.stores.get b.survey.lane)) (underSlips (b.stores.get b.survey.lane))
        (fillOf (afterRead (b.stores.get b.survey.lane))) (numberOf o b) b.survey := by
  simp [masterFrameStart, reactToStart, mapAndMeasure, surveyAtStart, stepCopy]

/-! ### Words -/

/-- The state in which the words of a start are formed. -/
def wordsState : State := mapAndMeasure (beginStart b) (openStart o (beginStart b))

theorem hold_eq : (masterFrameStart o b).hold = (updateHold (delivered b.stores) (wordsState o b)).hold := by
  simp [masterFrameStart, reactToStart, switchAndSend, sendFrames, afterWords, countStart, wordsState, advanceGenerators]

theorem generators_get (g : GenId) : (masterFrameStart o b).generators.get g = advanced (b.generators.get g) := by
  simp [masterFrameStart, reactToStart, switchAndSend, sendFrames, afterWords, countStart, advanceGenerators]

/-- The service channel's part in a start: the arbiter's word, and the state it leaves. -/
def channelPart : Given × State := channelAtStart (delivered b.stores) (afterWords (delivered b.stores) (wordsState o b))

theorem channel_eq : (masterFrameStart o b).channel = (channelPart o b).2.channel := by
  simp [masterFrameStart, reactToStart, switchAndSend, sendFrames, countStart, channelPart, wordsState]

theorem egress_eq :
    (masterFrameStart o b).egress =
      { enabled := Tab.ofFn fun k => inMask b.params.egressEnable k
        sending := b.egress.sending ++
          [frameSet (channelPart o b).1 (payloads (delivered b.stores) (wordsState o b)) (channelPart o b).2] } := by
  simp [masterFrameStart, reactToStart, switchAndSend, sendFrames, countStart, channelPart, wordsState]

theorem dispatcher_eq : (masterFrameStart o b).dispatcher = (beginStart b).dispatcher := by
  simp [masterFrameStart]

theorem loader_eq : (masterFrameStart o b).loader = tickLoader b.loader := by
  simp [masterFrameStart, reactToStart, countStart]

end Sys2Proof.Starts
end

section
/-! SUPPORT. The notices of the service channel (R112, R113, R123): the parser raises FORWARD_OVERFLOW and REQUEST_DROPPED at
most once each for one word, where it counts; the arbiter raises none. -/

namespace Sys2Proof.ChannelNotices

open Sys2Proof.Machine Sys2Proof.Raising

variable {s u t : State}

/-- FORWARD_OVERFLOW, where its count has moved between `s` and `t`, or stood at its end. -/
def overflowMay (s t : State) : NoticeKind → Subject → Bool :=
  only (decide (t.channel.forwardOverflow ≠ s.channel.forwardOverflow ∨ s.channel.forwardOverflow = 0xFFFF#16))
    .forwardOverflow .none

/-- REQUEST_DROPPED, where its count has moved between `s` and `t`, or stood at its end. -/
def dropMay (s t : State) : NoticeKind → Subject → Bool :=
  only (decide (t.channel.requestDropped ≠ s.channel.requestDropped ∨ s.channel.requestDropped = 0xFFFF#16))
    .requestDropped .none

/-- Nothing was raised, and neither count moved. -/
structure Quiet (s t : State) : Prop where
  notices : t.notices = s.notices
  mask : t.params.noticeMask = s.params.noticeMask
  number : t.timing.number = s.timing.number
  overflow : t.channel.forwardOverflow = s.channel.forwardOverflow
  dropped : t.channel.requestDropped = s.channel.requestDropped

theorem Quiet.refl (s : State) : Quiet s s := ⟨rfl, rfl, rfl, rfl, rfl⟩

theorem Quiet.trans (h : Quiet s u) (h' : Quiet u t) : Quiet s t :=
  ⟨h'.notices.trans h.notices, h'.mask.trans h.mask, h'.number.trans h.number, h'.overflow.trans h.overflow,
    h'.dropped.trans h.dropped⟩

/-- At most one word overflowed the FIFO. -/
structure OneOverflow (s t : State) : Prop where
  part : Part (overflowMay s t) 1 s t
  dropped : t.channel.requestDropped = s.channel.requestDropped

/-- At most one request was dropped. -/
structure OneDrop (s t : State) : Prop where
  part : Part (dropMay s t) 1 s t
  overflow : t.channel.forwardOverflow = s.channel.forwardOverflow

theorem Quiet.oneOverflow (h : Quiet s t) : OneOverflow s t := ⟨.of_eq h.notices h.mask h.number, h.dropped⟩

theorem Quiet.oneDrop (h : Quiet s t) : OneDrop s t := ⟨.of_eq h.notices h.mask h.number, h.overflow⟩

theorem OneOverflow.quiet_after (h : OneOverflow s u) (h' : Quiet u t) : OneOverflow s t := by
  refine ⟨?_, h'.dropped.trans h.dropped⟩
  have hmay : overflowMay s t = overflowMay s u := by simp [overflowMay, h'.overflow]
  rw [hmay]
  exact h.part.congr rfl rfl rfl h'.notices h'.mask h'.number

theorem OneOverflow.quiet_before (h : Quiet s u) (h' : OneOverflow u t) : OneOverflow s t := by
  refine ⟨?_, h'.dropped.trans h.dropped⟩
  have hmay : overflowMay s t = overflowMay u t := by simp [overflowMay, h.overflow]
  rw [hmay]
  exact h'.part.congr h.notices.symm h.mask.symm h.number.symm rfl rfl rfl

theorem OneDrop.quiet_before (h : Quiet s u) (h' : OneDrop u t) : OneDrop s t := by
  refine ⟨?_, h'.overflow.trans h.overflow⟩
  have hmay : dropMay s t = dropMay u t := by simp [dropMay, h.dropped]
  rw [hmay]
  exact h'.part.congr h.notices.symm h.mask.symm h.number.symm rfl rfl rfl

/-- A count that rises shows that it did, unless it stood at its end. -/
theorem bump_ne_or_end (c : Num) : bump c ≠ c ∨ c = 0xFFFF#16 := by
  unfold bump
  split
  · next h => exact .inr h
  · exact .inl (by simp)

theorem overflowWord_oneOverflow (s : State) : OneOverflow s (overflowWord s) := by
  refine ⟨?_, by simp [overflowWord]⟩
  have hmay : overflowMay s (overflowWord s) .forwardOverflow .none = true :=
    only_iff.2 ⟨decide_eq_true (by simpa [overflowWord] using bump_ne_or_end _), rfl, rfl⟩
  have hpart : Part (overflowMay s (overflowWord s)) 1 { s with channel := { s.channel with forwardOverflow := bump s.channel.forwardOverflow } }
      (overflowWord s) := .raise (by decide) _ _ _ hmay
  exact hpart.congr rfl rfl rfl rfl rfl rfl

theorem dropRequest_oneDrop (s : State) : OneDrop s (dropRequest s) := by
  refine ⟨?_, by simp [dropRequest]⟩
  have hmay : dropMay s (dropRequest s) .requestDropped .none = true :=
    only_iff.2 ⟨decide_eq_true (by simpa [dropRequest] using bump_ne_or_end _), rfl, rfl⟩
  have hpart : Part (dropMay s (dropRequest s)) 1 { s with channel := { s.channel with requestDropped := bump s.channel.requestDropped } }
      (dropRequest s) := .raise (by decide) _ _ _ hmay
  exact hpart.congr rfl rfl rfl rfl rfl rfl

/-! ### The parser's pieces -/

theorem setParser_quiet (p : Option OpenMessage) (s : State) : Quiet s (setParser p s) := ⟨rfl, rfl, rfl, rfl, rfl⟩

theorem pushWord_quiet (w : Word) (s : State) : Quiet s (pushWord w s) := ⟨rfl, rfl, rfl, rfl, rfl⟩

theorem oweAbort_quiet (s : State) : Quiet s (oweAbort s) := ⟨rfl, rfl, rfl, rfl, rfl⟩

theorem placeAbort_quiet (s : State) : Quiet s (placeAbort s) := by
  unfold placeAbort
  split
  · exact oweAbort_quiet s
  · exact pushWord_quiet _ s

theorem abandonMessage_quiet (s : State) : Quiet s (abandonMessage s) := by
  obtain ⟨-, h⟩ | ⟨m, -, ⟨-, h⟩ | ⟨-, -, h⟩ | ⟨-, -, h⟩⟩ := abandonMessage_cases s <;> rw [h]
  · exact .refl s
  · exact setParser_quiet _ s
  · exact (pushWord_quiet _ s).trans (setParser_quiet _ _)
  · exact (oweAbort_quiet s).trans (setParser_quiet _ _)

theorem forwardHead_oneOverflow (w : Word) (s : State) : OneOverflow s (forwardHead w s) := by
  unfold forwardHead
  split
  · exact overflowWord_oneOverflow s
  · exact (pushWord_quiet w s).oneOverflow

theorem forwardLater_oneOverflow (storing : Bool) (w : Word) (s : State) : OneOverflow s (forwardLater storing w s) := by
  unfold forwardLater
  split
  · split
    · exact (overflowWord_oneOverflow s).quiet_after (oweAbort_quiet _)
    · exact (pushWord_quiet w s).oneOverflow
  · exact (Quiet.refl s).oneOverflow

theorem openMessage_oneOverflow (w : Word) (s : State) : OneOverflow s (openMessage w s) := by
  unfold openMessage
  split
  · exact (setParser_quiet _ s).oneOverflow
  · exact (forwardHead_oneOverflow w s).quiet_after (setParser_quiet _ _)

theorem takeBody_oneOverflow (w : Word) (m : OpenMessage) (s : State) : OneOverflow s (takeBody w m s) := by
  unfold takeBody
  split
  · exact (forwardLater_oneOverflow _ w s).quiet_after (setParser_quiet _ _)
  · split
    · exact ((placeAbort_quiet s).trans (setParser_quiet _ _)).oneOverflow
    · exact (setParser_quiet _ _).oneOverflow

theorem answerOrDrop_oneDrop (ws : List Word) (s : State) : OneDrop s (answerOrDrop ws s) := by
  obtain ⟨-, h⟩ | ⟨-, h⟩ := answerOrDrop_cases s ws <;> rw [h]
  · exact Quiet.oneDrop ⟨rfl, rfl, rfl, rfl, rfl⟩
  · exact dropRequest_oneDrop s

theorem unicastArrives_oneDrop (m : IntakeMessage) (s : State) : OneDrop s (unicastArrives m s) := by
  obtain h | ⟨ws, h⟩ | ⟨-, h⟩ := unicastArrives_cases s m <;> rw [h]
  · exact (Quiet.refl s).oneDrop
  · exact answerOrDrop_oneDrop ws s
  · exact Quiet.oneDrop ⟨rfl, rfl, rfl, rfl, rfl⟩

theorem groupArrives_quiet (m : IntakeMessage) (s : State) : Quiet s (groupArrives m s) := by
  obtain h | h | ⟨-, h⟩ := groupArrives_cases s m <;> rw [h]
  · exact .refl s
  · exact ⟨rfl, rfl, rfl, rfl, rfl⟩
  · exact ⟨rfl, rfl, rfl, rfl, rfl⟩

theorem judgeMessage_oneDrop (m : OpenMessage) (w : Word) (s : State) : OneDrop s (judgeMessage m w s) := by
  unfold judgeMessage
  split
  · split
    · exact unicastArrives_oneDrop _ s
    · exact (groupArrives_quiet _ s).oneDrop
    · exact (Quiet.refl s).oneDrop
  · exact Quiet.oneDrop ⟨rfl, rfl, rfl, rfl, rfl⟩

/-! ### A word -/

/-- For one word the parser overflows the FIFO at most once and then drops at most one request. -/
theorem parseWord_split (h : Heard) (s : State) : ∃ u, OneOverflow s u ∧ OneDrop u (parseWord h s) := by
  have overflow : ∀ {t}, OneOverflow s t → ∃ u, OneOverflow s u ∧ OneDrop u t := fun ht => ⟨_, ht, (Quiet.refl _).oneDrop⟩
  unfold parseWord
  split
  · exact overflow (Quiet.refl s).oneOverflow
  · exact overflow (openMessage_oneOverflow _ s)
  · exact overflow (.quiet_before (abandonMessage_quiet s) (openMessage_oneOverflow _ _))
  · exact overflow (takeBody_oneOverflow _ _ s)
  · exact ⟨_, (forwardLater_oneOverflow _ _ s).quiet_after (setParser_quiet _ _), judgeMessage_oneDrop _ _ _⟩
  · exact overflow (Quiet.oneOverflow ⟨rfl, rfl, rfl, rfl, rfl⟩)
  · exact overflow (Quiet.oneOverflow ⟨rfl, rfl, rfl, rfl, rfl⟩)
  · exact overflow (Quiet.oneOverflow ⟨rfl, rfl, rfl, rfl, rfl⟩)
  · exact overflow (Quiet.refl s).oneOverflow
  · exact overflow (abandonMessage_quiet s).oneOverflow
  · exact overflow (abandonMessage_quiet s).oneOverflow

/-- The notices of the channel between `s` and `t`. -/
def channelMay (s t : State) : NoticeKind → Subject → Bool := either (overflowMay s t) (dropMay s t)

/-- The channel raises at most two notices. -/
def Announces (s t : State) : Prop := Part (channelMay s t) 2 s t

theorem Announces.quiet_after (h : Announces s u) (h' : Quiet u t) : Announces s t := by
  have hmay : channelMay s t = channelMay s u := by simp [channelMay, overflowMay, dropMay, h'.overflow, h'.dropped]
  rw [Announces, hmay]
  exact Part.congr h rfl rfl rfl h'.notices h'.mask h'.number

theorem Announces.quiet_before (h : Quiet s u) (h' : Announces u t) : Announces s t := by
  have hmay : channelMay s t = channelMay u t := by simp [channelMay, overflowMay, dropMay, h.overflow, h.dropped]
  rw [Announces, hmay]
  exact Part.congr h' h.notices.symm h.mask.symm h.number.symm rfl rfl rfl

theorem Quiet.announces (h : Quiet s t) : Announces s t := .of_eq h.notices h.mask h.number

theorem parseWord_announces (h : Heard) (s : State) : Announces s (parseWord h s) := by
  obtain ⟨u, ho, hd⟩ := parseWord_split h s
  refine (ho.part.trans hd.part).mono (fun k x => ?_) (Nat.le_refl 2)
  simp only [channelMay, either, overflowMay, dropMay, ho.dropped, hd.overflow]
  exact id

theorem parserTakes_announces (frames : Tab 16 (Option FrameRecord)) (s : State) : Announces s (parserTakes frames s) := by
  unfold parserTakes
  split
  · exact parseWord_announces _ s
  · exact (Quiet.refl s).announces

theorem giveForward_quiet (w : Word) (s : State) : Quiet s (giveForward w s).2 := ⟨rfl, rfl, rfl, rfl, rfl⟩

theorem giveLocal_quiet (s : State) : Quiet s (giveLocal s).2 := by
  unfold giveLocal
  split <;> exact ⟨rfl, rfl, rfl, rfl, rfl⟩

theorem setPassOver_quiet (n : Nat) (s : State) : Quiet s (setPassOver n s) := ⟨rfl, rfl, rfl, rfl, rfl⟩

theorem arbiterGives_quiet (s : State) : Quiet s (arbiterGives s).2 := by
  unfold arbiterGives chooseMessage
  split
  · split
    · exact giveForward_quiet _ s
    · exact (setPassOver_quiet 0 s).trans (giveLocal_quiet _)
    · split
      · exact (setPassOver_quiet _ s).trans (giveForward_quiet _ _)
      · exact (setPassOver_quiet 0 s).trans (giveLocal_quiet _)
    · exact .refl s
  · split
    · exact giveForward_quiet _ s
    · exact .refl s
  · exact giveLocal_quiet s

/-- At a start, whichever of parser and arbiter is taken first (log 3). -/
theorem channelAtStart_announces (frames : Tab 16 (Option FrameRecord)) (s : State) :
    Announces s (channelAtStart frames s).2 := by
  have parserFirst : ∀ s, Announces s (parserThenArbiter frames s).2 := fun s =>
    (parserTakes_announces frames s).quiet_after (arbiterGives_quiet _)
  have arbiterFirst : ∀ s, Announces s (arbiterThenParser frames s).2 := fun s =>
    .quiet_before (arbiterGives_quiet s) (parserTakes_announces frames _)
  have hdrawn : Quiet s (drawn s) := ⟨rfl, rfl, rfl, rfl, rfl⟩
  unfold channelAtStart
  split
  · split
    · exact .quiet_before hdrawn (parserFirst _)
    · exact .quiet_before hdrawn (arbiterFirst _)
  · exact parserFirst s

end Sys2Proof.ChannelNotices
end

section
/-! SUPPORT. The notices of a master frame start (R24, R47 to R51, R66, R98, R112, R123): the parts of the start that raise
them, one after another. -/

namespace Sys2Proof.StartNotices

open Sys2Proof.Machine Sys2Proof.Raising Sys2Proof.Starts Sys2Proof.ChannelNotices Sys2Proof.Moves

/-! ### The raises over all stores and all checkers -/

theorem raiseUnderSlips_eq (before : Tab 16 Store) (s : State) :
    raiseUnderSlips before s =
      raiseEach .slip .lane (fun l => underSlips (before.get l)) (fun l => slipData (s.stores.get l)) (List.finRange 16) s := by
  have fold : ∀ (is : List LaneId) (u : State), u.stores = s.stores →
      is.foldl (fun u l => if underSlips (before.get l) then raise .slip (.lane l) (slipData (u.stores.get l)) u else u) u =
        raiseEach .slip .lane (fun l => underSlips (before.get l)) (fun l => slipData (s.stores.get l)) is u := by
    intro is
    induction is with
    | nil => exact fun _ _ => rfl
    | cons i is ih =>
      intro u hu
      rw [List.foldl_cons, raiseEach_cons, hu]
      exact ih _ (by split <;> simp [hu])
  exact fold _ s rfl

/-- The checker that is in DETECT now was in TRACK. -/
def trackLost (before after : Tab 4 Checker) (c : CheckerId) : Bool :=
  decide ((before.get c).state = .track) && decide ((after.get c).state = .detect)

theorem raiseCheckLost_eq (before : Tab 4 Checker) (s : State) :
    raiseCheckLost before s =
      raiseEach .checkLost .checker (trackLost before s.checkers) (fun c => octets2 (s.checkers.get c).lost)
        (List.finRange 4) s := by
  have fold : ∀ (is : List CheckerId) (u : State), u.checkers = s.checkers →
      is.foldl (fun u c =>
          if (before.get c).state = .track ∧ (u.checkers.get c).state = .detect then
            raise .checkLost (.checker c) (octets2 (u.checkers.get c).lost) u
          else u) u =
        raiseEach .checkLost .checker (trackLost before s.checkers) (fun c => octets2 (s.checkers.get c).lost) is u := by
    intro is
    induction is with
    | nil => exact fun _ _ => rfl
    | cons i is ih =>
      intro u hu
      rw [List.foldl_cons, raiseEach_cons, hu, ih _ (by split <;> simp [hu])]
      simp [trackLost]
  exact fold _ s rfl

/-! ### A start without its timers -/

theorem raise_countStart (k : NoticeKind) (x : Subject) (d : List Octet) (s : State) :
    raise k x d (countStart s) = countStart (raise k x d s) := by
  have enter : ∀ f n, enterNotice k x f d (tickTimer n) = tickTimer (enterNotice k x f d n) := by
    intro f n
    unfold tickTimer enterNotice setList
    split <;> (repeat' split) <;> simp_all
  obtain ⟨hmask, h⟩ | ⟨hmask, h⟩ := raise_cases s k x d
  · obtain ⟨-, h'⟩ | ⟨hmask', -⟩ := raise_cases (countStart s) k x d
    · rw [h, h']
    · simp [hmask] at hmask'
  · obtain ⟨hmask', -⟩ | ⟨-, h'⟩ := raise_cases (countStart s) k x d
    · simp [hmask] at hmask'
    · rw [h, h']
      simp [countStart, enter]

theorem evaluateTiming_countStart (s : State) : evaluateTiming (countStart s) = countStart (evaluateTiming s) :=
  moveTiming_commutes rfl rfl raise_countStart fun _ _ => rfl

variable (o : Option LaneId) (b : State)

/-! ### The parts of a start -/

/-- The stores read and the timing numbered, no notice raised yet. -/
def renumbered : State :=
  { readStores (beginStart b) with timing := (takeNumber (numberOf o b) (readStores (beginStart b))).timing }

/-- NUMBER_STEP raised. -/
def numbered : State := takeNumber (numberOf o b) (readStores (beginStart b))

/-- The SLIP of each UNDER slip raised. -/
def slipped : State := openStart o (beginStart b)

/-- A commit fired. -/
def fired : State := fireCommit (decide ((beginStart b).starts = 1)) (beginStart b).timing.number (slipped o b).timing.number (slipped o b)

/-- Checkers and survey have sampled. -/
def measured : State := mapAndMeasure (beginStart b) (slipped o b)

/-- The words have gone out. -/
def sent : State := switchAndSend (delivered (beginStart b).stores) (measured o b)

/-- The timing evaluated. -/
def announced : State := evaluateTiming (sent o b)

theorem masterFrameStart_eq : masterFrameStart o b = countStart (announced o b) :=
  evaluateTiming_countStart _

theorem number_step : Part (only (stepOf o b) .numberStep .none) 1 (renumbered o b) (numbered o b) := by
  have hstep : isStep (numberOf o b) (readStores (beginStart b)) = stepOf o b := by simp [stepOf, isStep]
  unfold numbered renumbered
  by_cases h : stepOf o b = true
  · have hpart : Part (only (stepOf o b) .numberStep .none) 1
        { readStores (beginStart b) with
          timing := (takeNumber (numberOf o b) (readStores (beginStart b))).timing }
        (raise .numberStep .none (octets2 b.timing.number ++ octets2 (numberOf o b))
          { readStores (beginStart b) with
            timing := (takeNumber (numberOf o b) (readStores (beginStart b))).timing }) :=
      .raise (by decide) _ _ _ (only_iff.2 ⟨h, rfl, rfl⟩)
    convert hpart using 2
    rw [takeNumber_timing, takeNumber, hstep, if_pos h]
    simp [h]
  · refine .of_eq ?_ (by simp) rfl
    rw [takeNumber, hstep, if_neg h]

theorem raised_numberStep (h : stepOf o b = true) :
    Raised 0 .numberStep .none (octets2 b.timing.number ++ octets2 (numberOf o b)) (renumbered o b) (numbered o b) := by
  have hstep : isStep (numberOf o b) (readStores (beginStart b)) = true := by simpa [stepOf, isStep] using h
  convert raised_raise .numberStep .none (octets2 b.timing.number ++ octets2 (numberOf o b)) (renumbered o b) using 1
  unfold numbered renumbered
  rw [takeNumber_timing, takeNumber, if_pos hstep]
  simp [hstep]

theorem renumbered_notices : (renumbered o b).notices = b.notices := by simp [renumbered, readStores]

theorem renumbered_mask : (renumbered o b).params.noticeMask = b.params.noticeMask := by simp [renumbered, readStores]

/-- The SLIP of each store that is RUNNING and empty (R24, R29). -/
theorem slipped_eq :
    slipped o b =
      raiseEach .slip .lane (fun l => underSlips (b.stores.get l)) (fun l => slipData (afterRead (b.stores.get l)))
        (List.finRange 16) (numbered o b) := by
  have hnumbered : numberOf o b = startNumber o (delivered (beginStart b).stores) (beginStart b) := by simp [numberOf]
  rw [slipped, openStart, raiseUnderSlips_eq, ← hnumbered]
  simp [numbered]

theorem slipped_part :
    Part (eachOf .slip .lane (fun l => underSlips (b.stores.get l)) (List.finRange 16)) (slipsAt b) (numbered o b)
      (slipped o b) := by
  rw [slipped_eq]
  exact .raiseEach (by decide) _ _

theorem fired_eq :
    fired o b =
      if firesAt o b then
        raise .commitDone .none (octets2 (b.map.epoch + 1) ++ octets2 (numberOf o b))
          { slipped o b with map := committed b.map }
      else slipped o b := by
  simp [fired, fireCommit, firesAt, slipped]

theorem fired_part : Part (only (firesAt o b) .commitDone .none) 1 (slipped o b) (fired o b) := by
  rw [fired_eq]
  split
  · next h =>
    have hpart : Part (only (firesAt o b) .commitDone .none) 1 { slipped o b with map := committed b.map }
        (raise .commitDone .none (octets2 (b.map.epoch + 1) ++ octets2 (numberOf o b))
          { slipped o b with map := committed b.map }) := .raise (by decide) _ _ _ (only_iff.2 ⟨h, rfl, rfl⟩)
    exact hpart.congr rfl rfl rfl rfl rfl rfl
  · exact .of_eq rfl rfl rfl

theorem raised_commitDone (h : firesAt o b = true) :
    Raised 0 .commitDone .none (octets2 (b.map.epoch + 1) ++ octets2 (numberOf o b)) (slipped o b) (fired o b) := by
  rw [fired_eq, if_pos h]
  exact raised_congr (raised_raise _ _ _ { slipped o b with map := committed b.map }) rfl rfl

/-- The checkers have sampled, CHECK_LOST not yet raised. -/
def sampledState : State :=
  { stepCopy (fired o b) with
    checkers := Tab.ofFn fun c => sampleChecker (watchedWord (delivered b.stores) (b.checkers.get c)) (b.checkers.get c) }

theorem sampledState_checkers : (sampledState o b).checkers = (masterFrameStart o b).checkers :=
  Tab.ext_get fun c => by simp [sampledState, checkers_get]

/-- The CHECK_LOST of each checker that loses track (R98). -/
theorem measured_eq :
    measured o b =
      surveyAtStart b.stores
        (raiseEach .checkLost .checker (trackLost b.checkers (masterFrameStart o b).checkers)
          (fun c => octets2 ((masterFrameStart o b).checkers.get c).lost) (List.finRange 4) (sampledState o b)) := by
  have hfired : fireCommit (decide ((beginStart b).starts = 1)) (beginStart b).timing.number (slipped o b).timing.number
      (slipped o b) = fired o b := rfl
  have hcheckers : (fired o b).checkers = b.checkers := by simp [fired, slipped]
  rw [measured, mapAndMeasure, hfired, sampleCheckers, raiseCheckLost_eq, ← sampledState_checkers]
  simp [sampledState, hcheckers]

theorem measured_part :
    Part (eachOf .checkLost .checker (trackLost b.checkers (masterFrameStart o b).checkers) (List.finRange 4))
      (tracksLost b (masterFrameStart o b)) (fired o b) (measured o b) := by
  rw [measured_eq]
  have hpart := Part.raiseEach (kind := .checkLost) (subject := Subject.checker)
    (due := trackLost b.checkers (masterFrameStart o b).checkers)
    (datas := fun c => octets2 ((masterFrameStart o b).checkers.get c).lost) (by decide) (List.finRange 4) (sampledState o b)
  exact hpart.congr (b' := fired o b) rfl rfl rfl (by simp) (by simp) (by simp)

/-- The notices of the channel at a start (R112, R113). -/
theorem sent_part : Part (channelMay (measured o b) (sent o b)) 2 (measured o b) (sent o b) := by
  have hquiet : Quiet (measured o b) (afterWords (delivered (beginStart b).stores) (measured o b)) :=
    ⟨by simp, by simp, by simp, by simp, by simp⟩
  refine (Announces.quiet_before hquiet (channelAtStart_announces (delivered (beginStart b).stores) _)).quiet_after ?_
  exact ⟨by simp [sent, switchAndSend], by simp [sent], by simp [sent], by simp [sent, switchAndSend],
    by simp [sent, switchAndSend]⟩

theorem sent_timing : (sent o b).timing = (openStart o (beginStart b)).timing := by simp [sent, measured, slipped]

/-- The start changes timing state or source. -/
def changesTiming : Bool := moves (evaluated b.timing b.params) b

theorem announced_eq : announced o b = moveTiming (evaluated b.timing b.params) (sent o b) := by
  rw [announced, evaluateTiming, sent_timing, openStart_timing, evaluated_numbered]
  simp [sent, measured, slipped]

theorem moves_sent : moves (evaluated b.timing b.params) (sent o b) = changesTiming b := by
  simp [moves, sent_timing, changesTiming]

theorem announced_part : Part (only (changesTiming b) .timingChange .none) 1 (sent o b) (announced o b) := by
  rw [announced_eq, ← moves_sent o b]
  exact moveTiming_part _ _

theorem raised_timingChange (h : changesTiming b = true) :
    Raised 0 .timingChange .none
      [timingOctet (evaluated b.timing b.params).1, sourceOctet (evaluated b.timing b.params).2] (sent o b)
      (announced o b) := by
  rw [announced_eq]
  exact moveTiming_raised ((moves_sent o b).trans h)

/-! ### The parts together -/

theorem tickTimer_eq (n : NoticeUnit) :
    tickTimer n = { n with timer := n.timer.map fun r => if r = 0 then 0 else r - 1 } := by
  obtain ⟨list, state, outstanding, copy, timer, retries, nextSeq, lost, alert⟩ := n
  cases timer with
  | none => rfl
  | some r => by_cases hr : r = 0#16 <;> simp [tickTimer, hr]

/-- The timers of a start leave the list. -/
theorem raised_countStart {n : Nat} {kind : NoticeKind} {subject : Subject} {data : List Octet} {u v : State}
    (h : Raised n kind subject data u v) : Raised n kind subject data u (countStart v) := by
  unfold Raised at h ⊢
  simpa [tickTimer_eq] using h

/-- What is raised between the numbering and the end of a start is raised by the start. -/
theorem raised_of_announced {n : Nat} {kind : NoticeKind} {subject : Subject} {data : List Octet}
    (h : Raised n kind subject data (renumbered o b) (announced o b)) :
    Raised n kind subject data b (masterFrameStart o b) := by
  rw [masterFrameStart_eq]
  exact raised_countStart (raised_congr h (renumbered_notices o b).symm (renumbered_mask o b).symm)

theorem raised_start_numberStep (h : stepOf o b = true) :
    Raised (4 + slipsAt b + tracksLost b (masterFrameStart o b)) .numberStep .none
      (octets2 b.timing.number ++ octets2 (numberOf o b)) b (masterFrameStart o b) := by
  have hpost := (((slipped_part o b).trans (fired_part o b)).trans (measured_part o b)).trans
    ((sent_part o b).trans (announced_part o b))
  refine raised_mono (raised_of_announced o b
    (raised_within (n := 0) (may := only false .numberStep .none) (.of_eq rfl rfl rfl) (raised_numberStep o b h) hpost ?_))
    (by omega)
  simp [either, eachOf, only, channelMay, overflowMay, dropMay]

theorem raised_start_slip (l : LaneId) (h : underSlips (b.stores.get l) = true) :
    Raised (4 + slipsAt b + tracksLost b (masterFrameStart o b)) .slip (.lane l)
      (slipData (afterRead (b.stores.get l))) b (masterFrameStart o b) := by
  have hraised := raised_raiseEach (kind := .slip) (subject := Subject.lane)
    (due := fun l => underSlips (b.stores.get l)) (by decide)
    (datas := fun l => slipData (afterRead (b.stores.get l))) (fun _ _ h => by simpa using h) (List.nodup_finRange 16)
    (List.mem_finRange l) h (numbered o b)
  rw [← slipped_eq] at hraised
  have hpost := ((fired_part o b).trans (measured_part o b)).trans ((sent_part o b).trans (announced_part o b))
  refine raised_mono (raised_of_announced o b (raised_within (number_step o b) hraised hpost ?_)) ?_
  · simp [either, eachOf, only, channelMay, overflowMay, dropMay]
  · change 1 + (slipsAt b - 1) ≤ _
    omega

theorem raised_start_commitDone (h : firesAt o b = true) :
    Raised (4 + slipsAt b + tracksLost b (masterFrameStart o b)) .commitDone .none
      (octets2 (b.map.epoch + 1) ++ octets2 (numberOf o b)) b (masterFrameStart o b) := by
  have hpost := (measured_part o b).trans ((sent_part o b).trans (announced_part o b))
  refine raised_mono (raised_of_announced o b
    (raised_within ((number_step o b).trans (slipped_part o b)) (raised_commitDone o b h) hpost ?_)) (by omega)
  simp [either, eachOf, only, channelMay, overflowMay, dropMay]

theorem raised_start_checkLost (c : CheckerId) (h : trackLost b.checkers (masterFrameStart o b).checkers c = true) :
    Raised (4 + slipsAt b + tracksLost b (masterFrameStart o b)) .checkLost (.checker c)
      (octets2 ((masterFrameStart o b).checkers.get c).lost) b (masterFrameStart o b) := by
  have hraised := raised_raiseEach (kind := .checkLost) (subject := Subject.checker) (by decide)
    (datas := fun c => octets2 ((masterFrameStart o b).checkers.get c).lost) (fun _ _ h => by simpa using h)
    (List.nodup_finRange 4) (List.mem_finRange c) h (sampledState o b)
  have hsampled : Part (only false .checkLost .none) 0 (fired o b) (sampledState o b) := .of_eq rfl rfl rfl
  have hsurvey : Part (only false .checkLost .none) 0 (raiseEach .checkLost .checker
      (trackLost b.checkers (masterFrameStart o b).checkers)
      (fun c => octets2 ((masterFrameStart o b).checkers.get c).lost) (List.finRange 4) (sampledState o b)) (measured o b) := by
    rw [measured_eq]
    exact .of_eq (by simp) (by simp) (by simp)
  have hpre := ((number_step o b).trans (slipped_part o b)).trans ((fired_part o b).trans hsampled)
  have hpost := hsurvey.trans ((sent_part o b).trans (announced_part o b))
  refine raised_mono (raised_of_announced o b (raised_within hpre hraised hpost ?_)) ?_
  · simp [either, only, channelMay, overflowMay, dropMay]
  · change 1 + slipsAt b + (1 + 0) + (tracksLost b (masterFrameStart o b) - 1) ≤ _
    omega

theorem raised_start_timingChange (h : changesTiming b = true) :
    Raised (4 + slipsAt b + tracksLost b (masterFrameStart o b)) .timingChange .none
      [timingOctet (evaluated b.timing b.params).1, sourceOctet (evaluated b.timing b.params).2] b
      (masterFrameStart o b) := by
  have hpre := (((number_step o b).trans (slipped_part o b)).trans (fired_part o b)).trans
    ((measured_part o b).trans (sent_part o b))
  refine raised_mono (raised_of_announced o b (raised_within (may' := only false .timingChange .none) (p := 0) hpre
    (raised_timingChange o b h) (.of_eq rfl rfl rfl) rfl)) (by omega)

theorem abandonMessage_counts (s : State) :
    (abandonMessage s).channel.forwardOverflow = s.channel.forwardOverflow ∧
      (abandonMessage s).channel.requestDropped = s.channel.requestDropped :=
  ⟨(abandonMessage_quiet s).overflow, (abandonMessage_quiet s).dropped⟩

theorem beginStart_counts :
    (beginStart b).channel.forwardOverflow = b.channel.forwardOverflow ∧
      (beginStart b).channel.requestDropped = b.channel.requestDropped := by
  unfold beginStart takeLaneChange changeLanes
  (repeat' split) <;> simp [abandonMessage_counts]

theorem measured_counts :
    (measured o b).channel.forwardOverflow = b.channel.forwardOverflow ∧
      (measured o b).channel.requestDropped = b.channel.requestDropped := by
  simp [measured, slipped, beginStart_counts]

theorem masterFrameStart_channel : (masterFrameStart o b).channel = (sent o b).channel := by
  simp [masterFrameStart_eq, announced_eq]

/-- A commit that fires raises the epoch. -/
theorem epoch_ne_of_firesAt (h : firesAt o b = true) : (masterFrameStart o b).map.epoch ≠ b.map.epoch := by
  have hfired : (firedMap o b).epoch = b.map.epoch + 1 := by
    rw [firedMap, if_pos h, committed]
  have hcopied : (copyStep (firedMap o b)).epoch = (firedMap o b).epoch := by
    obtain ⟨h, -⟩ | ⟨k, -, h⟩ := copyStep_cases (firedMap o b) <;> simp [h]
  rw [map_eq, hcopied, hfired]
  simp

/-- All notices of a start, from the numbering to the evaluation. -/
theorem start_part :
    Part (startNotices b (masterFrameStart o b)) (5 + slipsAt b + tracksLost b (masterFrameStart o b)) (renumbered o b)
      (announced o b) := by
  have hparts := (((number_step o b).trans (slipped_part o b)).trans ((fired_part o b).trans (measured_part o b))).trans
    ((sent_part o b).trans (announced_part o b))
  refine hparts.mono (fun k x hk => ?_) (by omega)
  have htiming := timing_eq o b
  simp only [channelMay, either, Bool.or_eq_true] at hk
  rcases hk with ((hk | hk) | (hk | hk)) | ((hk | hk) | hk)
  · obtain ⟨h, rfl, rfl⟩ := only_iff.1 hk
    simpa [startNotices, htiming, stepOf, isStep] using h
  · simp only [eachOf, Bool.and_eq_true, decide_eq_true_eq, List.any_eq_true] at hk
    obtain ⟨rfl, l, -, h, rfl⟩ := hk
    exact h
  · obtain ⟨h, rfl, rfl⟩ := only_iff.1 hk
    simpa [startNotices] using epoch_ne_of_firesAt o b h
  · simp only [eachOf, Bool.and_eq_true, decide_eq_true_eq, List.any_eq_true] at hk
    obtain ⟨rfl, c, -, h, rfl⟩ := hk
    exact h
  · obtain ⟨h, rfl, rfl⟩ := only_iff.1 hk
    simpa [startNotices, masterFrameStart_channel, (measured_counts o b).1] using h
  · obtain ⟨h, rfl, rfl⟩ := only_iff.1 hk
    simpa [startNotices, masterFrameStart_channel, (measured_counts o b).2] using h
  · obtain ⟨h, rfl, rfl⟩ := only_iff.1 hk
    rw [changesTiming, moves, decide_eq_true_iff] at h
    simpa only [startNotices, htiming, decide_eq_true_eq] using h.imp Ne.symm Ne.symm

end Sys2Proof.StartNotices
end

section
/-! SUPPORT. The statements about the master frame start, each read off the equation of its block. -/

namespace Sys2Proof.StartStatements

open Sys2Proof.Machine Sys2Proof.Raising Sys2Proof.Starts Sys2Proof.StartNotices

/-! ### The number of a start -/

/-- The number of a start by its ordinal, its origin and the delivered record (R50). -/
theorem numberOf_eq (o : Option LaneId) (b : State) :
    numberOf o b =
      if b.starts = 0 then 0
      else
        match o with
        | some l => ((deliveredBy (b.stores.get l)).map fun r => r.number).getD (b.timing.number + 1)
        | none => b.timing.number + 1 := by
  unfold numberOf startNumber
  simp only [beginStart_starts, Nat.add_eq_right, beginStart_frame, delivered, Tab.get_ofFn]
  split
  · rfl
  · cases o with
    | none => rfl
    | some l => cases h : deliveredBy (b.stores.get l) <;> simp [h]

theorem stepOf_iff (o : Option LaneId) (b : State) :
    stepOf o b = true ↔ b.starts ≠ 0 ∧ numberOf o b ≠ b.timing.number + 1 := by
  simp [stepOf, isStep]

/-- Settles O16. -/
theorem startIsNumberedByItsOrigin : Obligations.StartIsNumberedByItsOrigin := by
  unfold Obligations.StartIsNumberedByItsOrigin
  rintro o b t rfl
  have htiming := timing_eq o b
  refine ⟨masterFrameStart_starts b o, by rw [htiming], ?number, ?steps, fun hfirst hnumber => ?raised⟩
  case number =>
    rw [htiming, numberOf_eq]
    cases o with
    | none => rfl
    | some l =>
      simp only [deliveredBy]
      cases (b.stores.get l).state <;> cases (b.stores.get l).records <;> rfl
  case steps =>
    rw [htiming]
    simp only [stepOf_iff]
  case raised =>
    rw [htiming] at hnumber ⊢
    exact raised_start_numberStep o b ((stepOf_iff o b).2 ⟨hfirst, hnumber⟩)

/-! ### Stores -/

theorem recentred_eq (st : Store) :
    recentred st =
      if st.state ≠ .idle then
        if 2 ≤ st.records.length then { st with state := .running, records := st.records.drop (st.records.length - 2) }
        else { st with state := .filling }
      else st := by
  unfold recentred
  split
  · next h => simp [h]
  · next h =>
    rw [if_pos h]
    rfl

/-- The evaluation of a start keeps a source or enters one. -/
theorem enters_iff (b : State) (l : LaneId) :
    ((evaluated b.timing b.params).2 = some (.lane l) ∧ b.timing.source ≠ (evaluated b.timing b.params).2) ↔
      ((evaluated b.timing b.params).2 = some (.lane l) ∧ b.timing.source ≠ some (.lane l)) :=
  and_congr_right fun h => by rw [h]

/-- Settles O17. -/
theorem startReadsEveryStoreOnce : Obligations.StartReadsEveryStoreOnce := by
  unfold Obligations.StartReadsEveryStoreOnce
  refine ⟨fun _ _ => rfl, fun st => ?_, ?_⟩
  · unfold deliveredBy
    cases st.state <;> rfl
  rintro o b t l st rfl hst
  have hread : st = afterRead (b.stores.get l) := by
    rw [hst]
    unfold afterRead
    cases hs : (b.stores.get l).state <;> cases hr : (b.stores.get l).records <;> simp [hs, hr]
  refine ⟨?_, fun hstate hrecords => ?_⟩
  · rw [stores_get, timing_eq, hread, recentred_eq]
    simp only [enters_iff]
    split_ifs <;> simp_all
  · have hslips : underSlips (b.stores.get l) = true := by simp [underSlips, hstate, hrecords]
    rw [hread]
    exact raised_start_slip o b l hslips

/-! ### Timing -/

/-- Settles O18. -/
theorem startEvaluatesTheTimingState : Obligations.StartEvaluatesTheTimingState := by
  unfold Obligations.StartEvaluatesTheTimingState
  rintro o b t p s named q rfl hnamed hp hs hq
  have hnames : ∀ v, sourceNamed v = named v := by
    intro v
    by_cases h : v.toNat < 16 <;> simp [hnamed, sourceNamed, laneOfNum, h]
  have hprimary : primarySource b.params = p := by rw [primarySource, hnames, hp]
  have hsecondary : secondarySource b.params = s := by rw [secondarySource, hnames, hs]
  have hqualified : ∀ x, qualified b.timing x = q x := by
    intro x
    rw [hq]
    rfl
  have htiming := timing_eq o b
  refine ⟨hprimary, hsecondary, hqualified, fun hchange => ?_, ?_⟩
  · rw [htiming] at hchange ⊢
    refine raised_start_timingChange o b ?_
    rw [changesTiming, Moves.moves, decide_eq_true_iff]
    exact hchange.imp Ne.symm Ne.symm
  · rw [htiming]
    simp only [Prod.mk.eta, evaluated, chosenAtLoss, hprimary, hsecondary, hqualified]
    cases b.timing.state <;> rfl

/-! ### The map -/

theorem copyStep_fixed {m : ConnectionMap} (h : ∀ k, m.copy = some k → 16 ≤ k) : copyStep m = m := by
  obtain ⟨h', -⟩ | ⟨k, hk, -⟩ := copyStep_cases m
  · exact h'
  · have := h k.val hk
    omega

theorem copyStep_of_running {m : ConnectionMap} {k : LaneId} (h : m.copy = some k.val) :
    copyStep m = { setShadow ((shadowBank m).set k ((activeBank m).get k)) m with copy := some (k.val + 1) } := by
  obtain ⟨-, h'⟩ | ⟨k', hk, h'⟩ := copyStep_cases m
  · have := h' k.val h
    omega
  · obtain rfl : k = k' := Fin.ext (by simpa [h] using hk)
    exact h'

theorem activeBank_with_copy (m : ConnectionMap) (c : Option Nat) : activeBank { m with copy := c } = activeBank m := rfl

theorem shadowBank_with_copy (m : ConnectionMap) (c : Option Nat) : shadowBank { m with copy := c } = shadowBank m := rfl

/-- A step of the copy engine leaves the ACTIVE bank, the roles, the epoch and the commit record. -/
theorem copyStep_frame (m : ConnectionMap) :
    activeBank (copyStep m) = activeBank m ∧ (copyStep m).active = m.active ∧ (copyStep m).epoch = m.epoch ∧
      (copyStep m).commit = m.commit := by
  obtain ⟨h, -⟩ | ⟨k, -, h⟩ := copyStep_cases m
  · simp [h]
  · rw [h]
    exact ⟨(activeBank_with_copy _ _).trans (activeBank_setShadow _ _), by simp, by simp, by simp⟩

/-- After `n` steps of the copy engine the first `n` lanes of the SHADOW bank are those of the ACTIVE bank. -/
theorem copyStep_iterate {m : ConnectionMap} (h : m.copy = some 0) (n : Nat) (hn : n ≤ 16) :
    (copyStep^[n] m).copy = some n ∧ activeBank (copyStep^[n] m) = activeBank m ∧
      (copyStep^[n] m).active = m.active ∧ (copyStep^[n] m).epoch = m.epoch ∧
      ∀ l : LaneId, l.val < n → (shadowBank (copyStep^[n] m)).get l = (activeBank m).get l := by
  induction n with
  | zero => exact ⟨h, rfl, rfl, rfl, fun l hl => absurd hl (Nat.not_lt_zero _)⟩
  | succ n ih =>
    obtain ⟨hcopy, hactive, hroles, hepoch, hshadow⟩ := ih (by omega)
    obtain ⟨hactive', hroles', hepoch', -⟩ := copyStep_frame (copyStep^[n] m)
    have hstep := copyStep_of_running (m := copyStep^[n] m) (k := ⟨n, by omega⟩) hcopy
    rw [Function.iterate_succ_apply']
    refine ⟨by rw [hstep], hactive'.trans hactive, hroles'.trans hroles, hepoch'.trans hepoch, fun l hl => ?_⟩
    rw [hstep, shadowBank_with_copy, shadowBank_setShadow, Tab.get_set, hactive]
    split
    · next heq => rw [heq]
    · next hne => exact hshadow l (by have : l.val ≠ n := fun h => hne (Fin.ext h); omega)

theorem fires_eq (isFirst : Bool) (p q : Num) (c : CommitRecord) :
    fires isFirst p q c =
      match c with
      | .none => false
      | .next => true
      | .frame f => decide (q = f) ||
          (!isFirst && decide (1 ≤ (q - p).toNat) && decide ((q - p).toNat ≤ 32767) && decide (1 ≤ (f - p).toNat) &&
            decide ((f - p).toNat ≤ (q - p).toNat)) := by
  cases c with
  | none => rfl
  | next => rfl
  | frame f =>
    simp only [fires, passes, ahead, distance, Config.windowLimit, Bool.and_assoc]
    rfl

/-- Settles O19. -/
theorem startFiresTheCommitAndStepsTheCopy : Obligations.StartFiresTheCommitAndStepsTheCopy := by
  unfold Obligations.StartFiresTheCommitAndStepsTheCopy
  refine ⟨fun m => ⟨rfl, rfl⟩, ?_, fun m hm => ?_⟩
  · rintro o b t fire m rfl hfire hm
    have hfires : firesAt o b = fire := by
      rw [hfire, firesAt, fires_eq, timing_eq]
      cases b.map.commit <;> simp
    have hfired : firedMap o b = m := by
      rw [hm, firedMap, hfires]
      rfl
    obtain ⟨hactive, hroles, hepoch, hcommit⟩ := copyStep_frame m
    rw [map_eq, hfired]
    refine ⟨fun h => ?_, hactive, hroles, hepoch, hcommit, fun h => ?_, fun k hk h16 => ?_, fun k hk => ?_⟩
    · have hnew : m.epoch = b.map.epoch + 1 := by rw [hm, if_pos h]
      rw [timing_eq, hnew]
      exact raised_start_commitDone o b (hfires.trans h)
    · exact copyStep_fixed (by simp [h])
    · exact copyStep_fixed fun j hj => by simp_all
    · rw [copyStep_of_running hk]
      exact ⟨rfl, by rw [shadowBank_with_copy, shadowBank_setShadow]⟩
  · obtain ⟨hcopy, hactive, hroles, hepoch, hshadow⟩ := copyStep_iterate hm 16 (Nat.le_refl 16)
    exact ⟨Tab.ext_get fun l => hshadow l l.isLt, hactive, hcopy, hroles, hepoch⟩

end Sys2Proof.StartStatements
end

section
/-! SUPPORT. The words of a master frame start: what is sent on each lane, the hold words, the generators, and the samples of
the checkers and of the survey. -/

namespace Sys2Proof.StartWords

open Sys2Proof.Machine Sys2Proof.Raising Sys2Proof.Starts Sys2Proof.StartNotices

/-! ### The 42 words of a frame -/

theorem frameWords_length (f : EgressFrame) : (frameWords f).length = 42 := by
  simp [frameWords, f.payload.size_eq]

theorem frameWords_marker (f : EgressFrame) : (frameWords f)[0]? = some f.marker := rfl

theorem frameWords_slot (f : EgressFrame) (slot : SlotId) :
    (frameWords f)[slot.val + 1]? = some (f.payload.get slot) := by
  have hslot : slot.val < f.payload.toList.length := by simp [f.payload.size_eq]
  simp [frameWords, List.getElem?_append_left hslot, Tab.get]

theorem frameWords_service (f : EgressFrame) : (frameWords f)[41]? = some f.service := by
  have hlength : f.payload.toList.length = 40 := f.payload.size_eq
  simp [frameWords, hlength]

/-! ### The words formed -/

variable (o : Option LaneId) (b : State)

theorem wordsState_frame :
    (wordsState o b).hold = b.hold ∧ (wordsState o b).generators = b.generators ∧ (wordsState o b).params = b.params ∧
      (wordsState o b).map = (masterFrameStart o b).map ∧
      (wordsState o b).timing.number = (masterFrameStart o b).timing.number := by
  simp [wordsState, masterFrameStart, reactToStart]

/-- The word formed at an egress position by the start, and whether it is a substitution. -/
def formedAt (k : LaneId) (slot : SlotId) : Word × Bool :=
  formWord (delivered b.stores) b.generators ((b.hold.get k).get slot)
    (((activeBank (masterFrameStart o b).map).get k).get slot)

theorem formAt_wordsState (k : LaneId) (slot : SlotId) :
    formAt (delivered b.stores) (wordsState o b) k slot = formedAt o b k slot := by
  obtain ⟨hhold, hgenerators, -, hmap, -⟩ := wordsState_frame o b
  rw [formAt, hhold, hgenerators, hmap, formedAt]

/-- The word an entry forms, spelled by its kind (R75 to R77). -/
theorem formWord_word (stores : Tab 16 Store) (gens : Tab 4 Generator) (held : Word) (entry : Entry) :
    (formWord (delivered stores) gens held entry).1 =
      match entry with
      | .fill w => w
      | .gen g => if (gens.get g).kind = none then 0 else (gens.get g).nextWord
      | .lane i st loss =>
        match deliveredBy (stores.get i) with
        | some r =>
          if (r.payload.get st).flagged then
            (match loss with
            | .fill w => w
            | .hold => held
            | .pass => (r.payload.get st).content)
          else (r.payload.get st).content
        | none =>
          match loss with
          | .fill w => w
          | .hold => held
          | .pass => 0 := by
  cases entry with
  | fill w => rfl
  | gen g => cases h : (gens.get g).kind <;> simp [formWord, presented, h]
  | lane i st loss =>
    simp only [formWord, sourceWord, delivered, Tab.get_ofFn]
    cases deliveredBy (stores.get i) with
    | none => cases loss <;> rfl
    | some r => cases h : (r.payload.get st).flagged <;> cases loss <;> simp [lossWord, h]

/-- The word held after an entry formed its word, spelled by the kind of the entry (R79). -/
theorem formWord_held (stores : Tab 16 Store) (gens : Tab 4 Generator) (held : Word) (entry : Entry) :
    (if (formWord (delivered stores) gens held entry).2 then held else (formWord (delivered stores) gens held entry).1) =
      match entry with
      | .fill w => w
      | .gen g => if (gens.get g).kind = none then 0 else (gens.get g).nextWord
      | .lane i st loss =>
        match deliveredBy (stores.get i) with
        | some r =>
          if (r.payload.get st).flagged ∧ loss ≠ .pass then held else (r.payload.get st).content
        | none => held := by
  cases entry with
  | fill w => rfl
  | gen g => cases h : (gens.get g).kind <;> simp [formWord, presented, h]
  | lane i st loss =>
    simp only [formWord, sourceWord, delivered, Tab.get_ofFn]
    cases deliveredBy (stores.get i) with
    | none => cases loss <;> simp [lossWord]
    | some r => cases h : (r.payload.get st).flagged <;> cases loss <;> simp [lossWord, h]

/-! ### The frames sent -/

theorem channelPart_number : (channelPart o b).2.timing.number = (masterFrameStart o b).timing.number := by
  rw [← (wordsState_frame o b).2.2.2.2]
  simp [channelPart, afterWords, updateHold]

/-- The set of frames that a start sends. -/
def sentSet : FrameSet :=
  frameSet (channelPart o b).1 (payloads (delivered b.stores) (wordsState o b)) (channelPart o b).2

/-- The frame that a start sends on an enabled lane. -/
def sentFrame (k : LaneId) : EgressFrame :=
  { marker := markerWord (masterFrameStart o b).timing.number
    payload := payloadOf (delivered b.stores) (wordsState o b) k
    service := if k = (masterFrameStart o b).channel.mgmtEgress then (channelPart o b).1.word else idleWord }

theorem sentSet_get (k : LaneId) :
    (sentSet o b).frames.get k = if inMask b.params.egressEnable k then some (sentFrame o b k) else none := by
  obtain ⟨-, -, hparams, -, -⟩ := wordsState_frame o b
  simp only [sentSet, frameSet, payloads, Tab.get_ofFn, hparams]
  split
  · simp only [Option.map_some, sentFrame, serviceFor, channelPart_number, channel_eq]
  · rfl

theorem sentFrame_payload (k : LaneId) (slot : SlotId) :
    (sentFrame o b k).payload.get slot = (formedAt o b k slot).1 := by
  rw [sentFrame, payloadOf, Tab.get_ofFn, formAt_wordsState]

theorem sending_eq : (masterFrameStart o b).egress.sending = b.egress.sending ++ [sentSet o b] := by
  rw [egress_eq, sentSet]

/-- Settles O20. -/
theorem startSendsOneFramePerEnabledLane : Obligations.StartSendsOneFramePerEnabledLane := by
  unfold Obligations.StartSendsOneFramePerEnabledLane
  rintro o b t rfl
  refine ⟨sentSet o b, sending_eq o b, fun k => ⟨?enabled, fun hoff => ?off, fun hon => ?on⟩⟩
  case enabled =>
    rw [egress_eq, Tab.get_ofFn, inMask]
  case off =>
    have hnone : (sentSet o b).frames.get k = none := by rw [sentSet_get, inMask, hoff]; rfl
    exact ⟨hnone, lineWords_of_none hnone⟩
  case on =>
    have hsome : (sentSet o b).frames.get k = some (sentFrame o b k) := by rw [sentSet_get, inMask, if_pos hon]
    rw [lineWords_of_some hsome]
    refine ⟨sentFrame o b k, hsome, rfl, frameWords_length _, frameWords_marker _, frameWords_service _,
      frameWords_slot _, fun hother => if_neg hother, fun slot => ?_⟩
    rw [sentFrame_payload, formedAt]
    generalize ((activeBank (masterFrameStart o b).map).get k).get slot = entry
    exact formWord_word b.stores b.generators _ entry

/-! ### Hold words and generators -/

theorem hold_get (k : LaneId) (slot : SlotId) :
    ((masterFrameStart o b).hold.get k).get slot =
      if inMask b.params.egressEnable k then
        (if (formedAt o b k slot).2 then (b.hold.get k).get slot else (formedAt o b k slot).1)
      else (b.hold.get k).get slot := by
  obtain ⟨hhold, -, hparams, -, -⟩ := wordsState_frame o b
  rw [hold_eq]
  simp only [updateHold, Tab.get_ofFn, hparams, hhold]
  split
  · simp only [heldAfter, Tab.get_ofFn, formAt_wordsState, hhold]
  · rfl

/-- Settles O21. -/
theorem startUpdatesHoldWordsAndGenerators : Obligations.StartUpdatesHoldWordsAndGenerators := by
  unfold Obligations.StartUpdatesHoldWordsAndGenerators
  rintro o b t rfl
  refine ⟨fun k slot => ?_, fun g => ?_⟩
  · rw [hold_get, formedAt, inMask]
    generalize ((activeBank (masterFrameStart o b).map).get k).get slot = entry
    exact if_congr Iff.rfl (formWord_held b.stores b.generators _ entry) rfl
  · rw [generators_get, advanced]
    cases h : (b.generators.get g).kind <;> simp

/-! ### Checkers and the survey -/

theorem checking_iff (k : Checker) : checking k = true ↔ k.state = .detect ∨ k.state = .track := by
  simp [checking]

theorem sampleChecker_watched (b : State) (k : Checker) :
    sampleChecker (watchedWord (delivered b.stores) k) k =
      if (k.state = .detect ∨ k.state = .track) ∧ k.remaining ≠ 0 then
        match deliveredBy (b.stores.get k.lane) with
        | none => { k with remaining := k.remaining - 1 }
        | some r =>
          if k.state = .detect then detectWord (r.payload.get k.slot).content { k with remaining := k.remaining - 1 }
          else trackWord (r.payload.get k.slot).content { k with remaining := k.remaining - 1 }
      else k := by
  simp only [sampleChecker, checking_iff, watchedWord, delivered, Tab.get_ofFn]
  split
  · next hrun =>
    cases deliveredBy (b.stores.get k.lane) with
    | none => rfl
    | some r => rcases hrun with ⟨h | h, -⟩ <;> simp [h]
  · rfl

theorem fillOf_afterRead (st : Store) :
    fillOf (afterRead st) = if st.state = .running then st.records.length - 1 else st.records.length := by
  cases hs : st.state <;> cases hr : st.records <;> simp [fillOf, afterRead, hs, hr]

/-- Settles O22. -/
theorem startSamplesCheckersAndTheSurvey : Obligations.StartSamplesCheckersAndTheSurvey := by
  unfold Obligations.StartSamplesCheckersAndTheSurvey
  rintro o b t rfl
  refine ⟨?checkers, fun c htrack hdetect => ?lost, ?survey⟩
  case checkers =>
    rintro c k rfl
    rw [checkers_get]
    exact sampleChecker_watched b _
  case lost =>
    exact raised_start_checkLost o b c (by simp [trackLost, htrack, hdetect])
  case survey =>
    rintro v st fill rfl rfl rfl
    have hnumber : numberOf o b = (masterFrameStart o b).timing.number := by rw [timing_eq]
    rw [survey_eq, hnumber, fillOf_afterRead]
    unfold sampleSurvey
    congr 1
    have hslips : (underSlips (b.stores.get b.survey.lane) = true) ↔
        (b.stores.get b.survey.lane).state = .running ∧ (b.stores.get b.survey.lane).records = [] := by
      simp [underSlips]
    congr 1
    case e_minFill => cases b.survey.minFill <;> rfl
    case e_maxFill => cases b.survey.maxFill <;> rfl
    case e_underSlips => simp only [hslips]
    case e_slotErrors =>
      cases deliveredBy (b.stores.get b.survey.lane) with
      | none => exact (Tab.ofFn_get _).symm
      | some r => rfl

end Sys2Proof.StartWords
end

section
/-! SUPPORT. What the parser and the arbiter leave as it was, and what they read: a property that each elementary update of
the service channel keeps is kept by both; and what they do to the channel depends on the channel, the ordinal of the start,
the address, the parameters and the restart mark alone. -/

namespace Sys2Proof.ParserKeeps

open Sys2Proof.Machine

/-! ### Properties kept by each elementary update -/

/-- A property of states that every elementary update of the parser keeps. -/
structure Elementary (P : State → Prop) : Prop where
  parser : ∀ p s, P s → P (setParser p s)
  push : ∀ w s, P s → P (pushWord w s)
  owe : ∀ s, P s → P (oweAbort s)
  overflow : ∀ s, P s → P (overflowWord s)
  stray : ∀ s, P s → P (strayWord s)
  bad : ∀ s, P s → P (countBadCheck s)
  dropGroup : ∀ s, P s → P (dropGroup s)
  dropRequest : ∀ s, P s → P (dropRequest s)
  append : ∀ m s, P s → P (appendIntake m s)
  answer : ∀ ws s, P s → P (placeMessage .answer ws s)

variable {P : State → Prop} (hP : Elementary P) {s : State} (h : P s)
include hP h

theorem placeAbort_keeps : P (placeAbort s) := by
  unfold placeAbort
  split
  · exact hP.owe s h
  · exact hP.push _ s h

theorem abandonMessage_keeps : P (abandonMessage s) := by
  unfold abandonMessage
  split
  · exact h
  · refine hP.parser _ _ ?_
    split
    · exact placeAbort_keeps hP h
    · exact h

theorem forwardHead_keeps (w : Word) : P (forwardHead w s) := by
  unfold forwardHead
  split
  · exact hP.overflow s h
  · exact hP.push w s h

theorem forwardLater_keeps (storing : Bool) (w : Word) : P (forwardLater storing w s) := by
  unfold forwardLater
  split
  · split
    · exact hP.owe _ (hP.overflow s h)
    · exact hP.push w s h
  · exact h

theorem openMessage_keeps (w : Word) : P (openMessage w s) := by
  unfold openMessage
  split
  · exact hP.parser _ s h
  · exact hP.parser _ _ (forwardHead_keeps hP h w)

theorem takeBody_keeps (w : Word) (m : OpenMessage) : P (takeBody w m s) := by
  unfold takeBody
  split
  · exact hP.parser _ _ (forwardLater_keeps hP h _ w)
  · refine hP.parser _ _ ?_
    split
    · exact placeAbort_keeps hP h
    · exact h

theorem answerOrDrop_keeps (ws : List Word) : P (answerOrDrop ws s) := by
  unfold answerOrDrop
  split
  · exact hP.answer ws s h
  · exact hP.dropRequest s h

theorem unicastArrives_keeps (m : IntakeMessage) : P (unicastArrives m s) := by
  obtain h' | ⟨ws, h'⟩ | ⟨-, h'⟩ := unicastArrives_cases s m <;> rw [h']
  · exact h
  · exact answerOrDrop_keeps hP h ws
  · exact hP.append m s h

theorem groupArrives_keeps (m : IntakeMessage) : P (groupArrives m s) := by
  obtain h' | h' | ⟨-, h'⟩ := groupArrives_cases s m <;> rw [h']
  · exact h
  · exact hP.dropGroup s h
  · exact hP.append m s h

theorem judgeMessage_keeps (m : OpenMessage) (w : Word) : P (judgeMessage m w s) := by
  unfold judgeMessage
  split
  · split
    · exact unicastArrives_keeps hP h _
    · exact groupArrives_keeps hP h _
    · exact h
  · exact hP.bad s h

theorem takeTail_keeps (w : Word) (m : OpenMessage) : P (takeTail w m s) :=
  judgeMessage_keeps hP (hP.parser _ _ (forwardLater_keeps hP h _ w)) m w

theorem parseWord_keeps (g : Heard) : P (parseWord g s) := by
  unfold parseWord
  split
  · exact h
  · exact openMessage_keeps hP h _
  · exact openMessage_keeps hP (abandonMessage_keeps hP h) _
  · exact takeBody_keeps hP h _ _
  · exact takeTail_keeps hP h _ _
  · exact hP.stray s h
  · exact hP.stray s h
  · exact hP.stray s h
  · exact h
  · exact abandonMessage_keeps hP h
  · exact abandonMessage_keeps hP h

theorem parserTakes_keeps (frames : Tab 16 (Option FrameRecord)) : P (parserTakes frames s) := by
  unfold parserTakes
  split
  · exact parseWord_keeps hP h _
  · exact h

end Sys2Proof.ParserKeeps

/-! ### The reply cache and the roles of the lanes -/

namespace Sys2Proof.ParserKeeps

open Sys2Proof.Machine

/-- Between `s` and `t` the reply cache and the management lanes stand. -/
structure RolesKept (s t : State) : Prop where
  cache : t.channel.cache = s.channel.cache
  ingress : t.channel.mgmtIngress = s.channel.mgmtIngress
  egress : t.channel.mgmtEgress = s.channel.mgmtEgress

theorem RolesKept.trans {s t u : State} (h : RolesKept s t) (h' : RolesKept t u) : RolesKept s u :=
  ⟨h'.cache.trans h.cache, h'.ingress.trans h.ingress, h'.egress.trans h.egress⟩

theorem rolesKept_elementary (b : State) : Elementary (RolesKept b) := by
  constructor <;> intros <;> refine RolesKept.trans (by assumption) ⟨?_, ?_, ?_⟩ <;> simp [overflowWord, dropRequest]

theorem parserTakes_roles (frames : Tab 16 (Option FrameRecord)) (s : State) : RolesKept s (parserTakes frames s) :=
  parserTakes_keeps (rolesKept_elementary s) ⟨rfl, rfl, rfl⟩ frames

theorem giveForward_roles (w : Word) (s : State) : RolesKept s (giveForward w s).2 := ⟨rfl, rfl, rfl⟩

theorem giveLocal_roles (s : State) : RolesKept s (giveLocal s).2 := by
  unfold giveLocal
  split <;> exact ⟨rfl, rfl, rfl⟩

theorem setPassOver_roles (n : Nat) (s : State) : RolesKept s (setPassOver n s) := ⟨rfl, rfl, rfl⟩

theorem chooseMessage_roles (s : State) : RolesKept s (chooseMessage s).2 := by
  unfold chooseMessage
  split
  · exact giveForward_roles _ s
  · exact (setPassOver_roles 0 s).trans (giveLocal_roles _)
  · split
    · exact (setPassOver_roles _ s).trans (giveForward_roles _ _)
    · exact (setPassOver_roles 0 s).trans (giveLocal_roles _)
  · exact ⟨rfl, rfl, rfl⟩

theorem arbiterGives_roles (s : State) : RolesKept s (arbiterGives s).2 := by
  unfold arbiterGives
  split
  · exact chooseMessage_roles s
  · split
    · exact giveForward_roles _ s
    · exact ⟨rfl, rfl, rfl⟩
  · exact giveLocal_roles s

theorem channelAtStart_roles (frames : Tab 16 (Option FrameRecord)) (s : State) :
    RolesKept s (channelAtStart frames s).2 := by
  have hdrawn : RolesKept s (drawn s) := ⟨rfl, rfl, rfl⟩
  unfold channelAtStart
  split
  · split
    · exact hdrawn.trans ((parserTakes_roles frames _).trans (arbiterGives_roles _))
    · exact hdrawn.trans ((arbiterGives_roles _).trans (parserTakes_roles frames _))
  · exact (parserTakes_roles frames s).trans (arbiterGives_roles _)

/-! ### What the parser and the arbiter read -/

/-- The states agree in what the parser and the arbiter read. -/
structure Alike (u v : State) : Prop where
  channel : u.channel = v.channel
  starts : u.starts = v.starts
  address : u.address = v.address
  params : u.params = v.params
  restart : u.dispatcher.restart = v.dispatcher.restart

namespace Alike

variable {u v : State} (h : Alike u v)
include h

theorem setParser (p : Option OpenMessage) : Alike (setParser p u) (setParser p v) := by
  constructor <;> simp [Machine.setParser, h.channel, h.starts, h.address, h.params, h.restart]

theorem pushWord (w : Word) : Alike (pushWord w u) (pushWord w v) := by
  constructor <;> simp [Machine.pushWord, h.channel, h.starts, h.address, h.params, h.restart]

theorem oweAbort : Alike (oweAbort u) (oweAbort v) := by
  constructor <;> simp [Machine.oweAbort, h.channel, h.starts, h.address, h.params, h.restart]

theorem overflowWord : Alike (overflowWord u) (overflowWord v) := by
  constructor <;> simp [Machine.overflowWord, h.channel, h.starts, h.address, h.params, h.restart]

theorem strayWord : Alike (strayWord u) (strayWord v) := by
  constructor <;> simp [Machine.strayWord, h.channel, h.starts, h.address, h.params, h.restart]

theorem countBadCheck : Alike (countBadCheck u) (countBadCheck v) := by
  constructor <;> simp [Machine.countBadCheck, h.channel, h.starts, h.address, h.params, h.restart]

theorem dropGroup : Alike (dropGroup u) (dropGroup v) := by
  constructor <;> simp [Machine.dropGroup, h.channel, h.starts, h.address, h.params, h.restart]

theorem dropRequest : Alike (dropRequest u) (dropRequest v) := by
  constructor <;> simp [Machine.dropRequest, h.channel, h.starts, h.address, h.params, h.restart]

theorem appendIntake (m : IntakeMessage) : Alike (appendIntake m u) (appendIntake m v) := by
  constructor <;> simp [Machine.appendIntake, h.channel, h.starts, h.address, h.params, h.restart]

theorem placeMessage (k : OutgoingKind) (ws : List Word) : Alike (placeMessage k ws u) (placeMessage k ws v) := by
  constructor <;> simp [Machine.placeMessage, h.channel, h.starts, h.address, h.params, h.restart]

theorem fifoFull : fifoFull u = fifoFull v := by simp only [Machine.fifoFull, h.channel]

theorem headRefused : headRefused u = headRefused v := by simp only [Machine.headRefused, h.fifoFull, h.channel]

theorem placeAbort : Alike (placeAbort u) (placeAbort v) := by
  simp only [Machine.placeAbort, h.fifoFull]
  split
  · exact h.oweAbort
  · exact h.pushWord _

theorem abandonMessage : Alike (abandonMessage u) (abandonMessage v) := by
  simp only [Machine.abandonMessage, h.channel]
  split
  · exact h
  · split
    · exact h.placeAbort.setParser _
    · exact h.setParser _

theorem forwardHead (w : Word) : Alike (forwardHead w u) (forwardHead w v) := by
  simp only [Machine.forwardHead, h.headRefused]
  split
  · exact h.overflowWord
  · exact h.pushWord w

theorem forwardLater (storing : Bool) (w : Word) : Alike (forwardLater storing w u) (forwardLater storing w v) := by
  simp only [Machine.forwardLater, h.fifoFull]
  split
  · split
    · exact h.overflowWord.oweAbort
    · exact h.pushWord w
  · exact h

theorem dispositionOf (d : Octet) : dispositionOf d u = dispositionOf d v := by
  simp only [Machine.dispositionOf, h.address, h.params]

theorem openMessage (w : Word) : Alike (openMessage w u) (openMessage w v) := by
  simp only [Machine.openMessage, openedMessage, h.dispositionOf, h.headRefused]
  split
  · exact h.setParser _
  · exact (h.forwardHead w).setParser _

theorem takeBody (w : Word) (m : OpenMessage) : Alike (takeBody w m u) (takeBody w m v) := by
  simp only [Machine.takeBody, stillStoring, h.fifoFull]
  split
  · exact (h.forwardLater _ w).setParser _
  · split
    · exact h.placeAbort.setParser _
    · exact h.setParser _

theorem answerOrDrop (ws : List Word) : Alike (answerOrDrop ws u) (answerOrDrop ws v) := by
  have hfree : slotFree 0 u = slotFree 0 v := by simp only [slotFree, h.channel]
  simp only [Machine.answerOrDrop, hfree]
  split
  · exact h.placeMessage _ ws
  · exact h.dropRequest

theorem unicastArrives (m : IntakeMessage) : Alike (unicastArrives m u) (unicastArrives m v) := by
  simp only [Machine.unicastArrives, h.channel, h.restart, h.address]
  split
  · exact h
  · split
    · exact h
    · split
      · exact h.answerOrDrop _
      · split
        · exact h.answerOrDrop _
        · exact h.appendIntake m

theorem groupArrives (m : IntakeMessage) : Alike (groupArrives m u) (groupArrives m v) := by
  simp only [Machine.groupArrives, h.channel, h.restart]
  split
  · exact h
  · split
    · exact h.dropGroup
    · exact h.appendIntake m

theorem takeTail (w : Word) (m : OpenMessage) : Alike (takeTail w m u) (takeTail w m v) := by
  have hclosed := (h.forwardLater m.storing w).setParser none
  unfold Machine.takeTail judgeMessage
  split
  · split
    · exact hclosed.unicastArrives _
    · exact hclosed.groupArrives _
    · exact hclosed
  · exact hclosed.countBadCheck

theorem parseWord (g : Heard) : Alike (parseWord g u) (parseWord g v) := by
  simp only [Machine.parseWord, h.channel]
  split
  · exact h
  · exact h.openMessage _
  · exact h.abandonMessage.openMessage _
  · exact h.takeBody _ _
  · exact h.takeTail _ _
  · exact h.strayWord
  · exact h.strayWord
  · exact h.strayWord
  · exact h
  · exact h.abandonMessage
  · exact h.abandonMessage

theorem parserTakes (frames : Tab 16 (Option FrameRecord)) : Alike (parserTakes frames u) (parserTakes frames v) := by
  simp only [Machine.parserTakes, h.channel]
  split
  · exact h.parseWord _
  · exact h

theorem setPassOver (n : Nat) : Alike (setPassOver n u) (setPassOver n v) := by
  constructor <;> simp [Machine.setPassOver, h.channel, h.starts, h.address, h.params, h.restart]

theorem giveForward (w : Word) : (giveForward w u).1 = (giveForward w v).1 ∧ Alike (giveForward w u).2 (giveForward w v).2 := by
  refine ⟨rfl, ?_⟩
  constructor <;> simp [Machine.giveForward, h.channel, h.starts, h.address, h.params, h.restart]

theorem giveLocal : (giveLocal u).1 = (giveLocal v).1 ∧ Alike (giveLocal u).2 (giveLocal v).2 := by
  simp only [Machine.giveLocal, unfinished, h.channel]
  split <;> exact ⟨rfl, by constructor <;> simp [h.starts, h.address, h.params, h.restart]⟩

theorem fifoReady : fifoReady u = fifoReady v := by simp only [Machine.fifoReady, h.channel, h.starts]

theorem localReady : localReady u = localReady v := by simp only [Machine.localReady, h.channel, h.starts]

theorem chooseMessage : (chooseMessage u).1 = (chooseMessage v).1 ∧ Alike (chooseMessage u).2 (chooseMessage v).2 := by
  simp only [Machine.chooseMessage, h.fifoReady, h.localReady, h.channel]
  split
  · exact h.giveForward _
  · exact (h.setPassOver 0).giveLocal
  · split
    · exact (h.setPassOver _).giveForward _
    · exact (h.setPassOver 0).giveLocal
  · exact ⟨rfl, h⟩

theorem arbiterGives : (arbiterGives u).1 = (arbiterGives v).1 ∧ Alike (arbiterGives u).2 (arbiterGives v).2 := by
  simp only [Machine.arbiterGives, h.fifoReady, h.channel]
  split
  · exact h.chooseMessage
  · split
    · exact h.giveForward _
    · exact ⟨rfl, h⟩
  · exact h.giveLocal

end Alike

end Sys2Proof.ParserKeeps
end

section
/-! SUPPORT. The service channel's part in a master frame start, and what a start counts and keeps. -/

namespace Sys2Proof.StartChannel

open Sys2Proof.Machine Sys2Proof.Raising Sys2Proof.Starts Sys2Proof.StartNotices Sys2Proof.ParserKeeps

variable (o : Option LaneId) (b : State)

/-! ### The lane change that a start takes -/

/-- A lane change is due at the start (R122). -/
def changeDue : Bool :=
  match b.dispatcher.change with
  | some c => changeEffective c b
  | none => false

/-- The management ingress lane under a change, taken or not. -/
def newIngress : LaneId := (b.dispatcher.change.bind fun c => c.ingress).getD b.channel.mgmtIngress

/-- The management egress lane under a change, taken or not. -/
def newEgress : LaneId := (b.dispatcher.change.bind fun c => c.egress).getD b.channel.mgmtEgress

theorem abandonMessage_eq (s : State) : abandonMessage s = { s with channel := channelAbandoned s.starts s.channel } := by
  unfold abandonMessage channelAbandoned
  cases s.channel.parser with
  | none => rfl
  | some m =>
    cases hs : m.storing with
    | false => simp [setParser, hs]
    | true =>
      by_cases hf : s.channel.fifo.length < 128
      · simp [hs, hf, placeAbort, fifoFull, Config.fifoDepth, Nat.not_le.2 hf, setParser, pushWord]
        rfl
      · simp [hs, hf, placeAbort, fifoFull, Config.fifoDepth, Nat.not_lt.1 hf, setParser, oweAbort]

/-- The management lanes put into force, with the message open on an old ingress lane abandoned (R122). -/
theorem changeLanes_eq (c : LaneChange) (s : State) :
    changeLanes c s =
      { s with
        channel :=
          { (if c.ingress.getD s.channel.mgmtIngress = s.channel.mgmtIngress then s.channel
              else channelAbandoned s.starts s.channel) with
            mgmtIngress := c.ingress.getD s.channel.mgmtIngress, mgmtEgress := c.egress.getD s.channel.mgmtEgress } } := by
  unfold changeLanes
  split
  · rfl
  · rw [abandonMessage_eq]
    rfl

/-- The start as the lane change leaves it (R122). -/
theorem beginStart_eq :
    beginStart b =
      { b with
        starts := b.starts + 1
        dispatcher := { b.dispatcher with change := if changeDue b then none else b.dispatcher.change }
        channel :=
          if changeDue b = true ∧ b.params.ingressEnable.getLsbD (newIngress b).val = true then
            { (if newIngress b = b.channel.mgmtIngress then b.channel
                else channelAbandoned (b.starts + 1) b.channel) with
              mgmtIngress := newIngress b, mgmtEgress := newEgress b }
          else b.channel } := by
  unfold beginStart takeLaneChange
  cases hc : b.dispatcher.change with
  | none =>
    have hdue : changeDue b = false := by rw [changeDue, hc]
    simp only [hdue, Bool.false_eq_true, false_and, if_false, ← hc]
  | some c =>
    have hdue : changeDue b = changeEffective c { b with starts := b.starts + 1 } := by
      rw [changeDue, hc]
      rfl
    have hi : newIngress b = c.ingress.getD b.channel.mgmtIngress := by rw [newIngress, hc]; rfl
    have he : newEgress b = c.egress.getD b.channel.mgmtEgress := by rw [newEgress, hc]; rfl
    simp only [← hdue, changeLanes_eq, ← hi, ← he, inMask]
    cases changeDue b with
    | false => simp only [Bool.false_eq_true, false_and, if_false, ← hc]
    | true =>
      by_cases hmask : b.params.ingressEnable.getLsbD (newIngress b).val = true
      · simp only [hmask, if_true, true_and]
        rfl
      · simp only [hmask, if_true, true_and]
        rfl

/-! ### The words of parser and arbiter -/

/-- What the parser and the arbiter read is that of the start as the lane change leaves it. -/
theorem wordsState_alike : Alike (afterWords (delivered b.stores) (wordsState o b)) (beginStart b) := by
  constructor <;> simp [afterWords, wordsState]

theorem channelPart_cases :
    ∃ g : Given × State,
      (g = arbiterGives (parserTakes (delivered b.stores) (beginStart b)) ∨
        (126 < (beginStart b).channel.fifo.length ∧
          g = ((arbiterGives (beginStart b)).1, parserTakes (delivered b.stores) (arbiterGives (beginStart b)).2))) ∧
      (channelPart o b).1 = g.1 ∧ (channelPart o b).2.channel = g.2.channel := by
  have hw := wordsState_alike o b
  have htight : ∀ u, Alike u (beginStart b) → fifoTight u = true → 126 < (beginStart b).channel.fifo.length := by
    intro u hu h
    simp only [fifoTight, hu.channel, Config.fifoDepth, decide_eq_true_eq] at h
    omega
  have hdrawn : Alike (drawn (afterWords (delivered b.stores) (wordsState o b))) (beginStart b) :=
    ⟨hw.channel, hw.starts, hw.address, hw.params, hw.restart⟩
  have hfirst : ∀ u, Alike u (beginStart b) →
      (parserThenArbiter (delivered b.stores) u).1 = (parserThenArbiter (delivered b.stores) (beginStart b)).1 ∧
        (parserThenArbiter (delivered b.stores) u).2.channel =
          (parserThenArbiter (delivered b.stores) (beginStart b)).2.channel := fun u hu =>
    ⟨(hu.parserTakes _).arbiterGives.1, (hu.parserTakes _).arbiterGives.2.channel⟩
  unfold channelPart channelAtStart
  split
  · next h =>
    split
    · exact ⟨_, .inl rfl, hfirst _ hdrawn⟩
    · exact ⟨_, .inr ⟨htight _ hw h, rfl⟩, hdrawn.arbiterGives.1, (hdrawn.arbiterGives.2.parserTakes _).channel⟩
  · exact ⟨_, .inl rfl, hfirst _ hw⟩

/-- Parser and arbiter leave the reply cache and the management lanes of the start. -/
theorem masterFrameStart_roles : RolesKept (beginStart b) (masterFrameStart o b) := by
  have hchannel := channelAtStart_roles (delivered b.stores) (afterWords (delivered b.stores) (wordsState o b))
  have halike := wordsState_alike o b
  refine ⟨?_, ?_, ?_⟩ <;> rw [channel_eq, ← halike.channel]
  · exact hchannel.cache
  · exact hchannel.ingress
  · exact hchannel.egress

theorem beginStart_cache : (beginStart b).channel.cache = b.channel.cache := by
  have habandoned : (channelAbandoned (b.starts + 1) b.channel).cache = b.channel.cache := by
    unfold channelAbandoned
    (repeat' split) <;> rfl
  rw [beginStart_eq]
  simp only
  split
  · split
    · rfl
    · exact habandoned
  · rfl

/-- The service word of the management egress lane is the arbiter's. -/
theorem sentSet_service (fr : EgressFrame)
    (h : (frameSet (channelPart o b).1 (payloads (delivered b.stores) (wordsState o b)) (channelPart o b).2).frames.get
        (masterFrameStart o b).channel.mgmtEgress = some fr) :
    fr.service = (channelPart o b).1.word := by
  simp only [frameSet, Tab.get_ofFn, Option.map_eq_some_iff] at h
  obtain ⟨p, -, rfl⟩ := h
  simp [serviceFor, channel_eq]

/-- Settles O23. -/
theorem startGivesTheChannelItsWords : Obligations.StartGivesTheChannelItsWords := by
  unfold Obligations.StartGivesTheChannelItsWords
  rintro o b t v due ingress egress take rfl htake hdue rfl rfl hv
  have hduetrue : due = changeDue b := by
    rw [hdue, changeDue]
    cases b.dispatcher.change with
    | none => rfl
    | some c => cases hc : c.holder <;> simp [changeEffective, hc]
  have hbegin : v = beginStart b := by
    rw [hv, beginStart_eq, hduetrue]
    rfl
  have hparser : ∀ u, take u = parserTakes (delivered b.stores) u := by
    intro u
    rw [htake]
    simp only [parserTakes, delivered, Tab.get_ofFn] <;> rfl
  have hroles := masterFrameStart_roles o b
  obtain ⟨g, hg, hgiven, hchannel⟩ := channelPart_cases o b
  rw [hbegin]
  simp only [hparser]
  refine ⟨dispatcher_eq o b, hroles.ingress, hroles.egress, g, _, hg, (channel_eq o b).trans hchannel,
    by rw [egress_eq], by rw [← hgiven]; rfl, fun fr hfr => ?_⟩
  rw [← hgiven]
  exact sentSet_service o b fr hfr

/-! ### The rest of the part -/

/-- What `OnlyRaised` speaks of. -/
theorem onlyRaised_congr {may : NoticeKind → Subject → Bool} {b b' t t' : State} (h : OnlyRaised may b t)
    (hlist : b'.notices.list = b.notices.list) (halert : b'.notices.alert = b.notices.alert)
    (hlost : b'.notices.lost = b.notices.lost) (hmask : b'.params.noticeMask = b.params.noticeMask)
    (hlist' : t'.notices.list = t.notices.list) (halert' : t'.notices.alert = t.notices.alert)
    (hlost' : t'.notices.lost = t.notices.lost) (hnumber : t'.timing.number = t.timing.number) :
    OnlyRaised may b' t' := by
  obtain ⟨h₁, h₂, h₃, h₄, h₅⟩ := h
  constructor <;> simpa only [hlist, halert, hlost, hmask, hlist', halert', hlost', hnumber]

theorem channelAtStart_draws (frames : Tab 16 (Option FrameRecord)) (s : State) :
    (channelAtStart frames s).2.draws = s.draws ∨ (channelAtStart frames s).2.draws = s.draws + 1 := by
  unfold channelAtStart parserThenArbiter arbiterThenParser
  split
  · split <;> exact .inr (by simp [drawn])
  · exact .inl (by simp)

theorem masterFrameStart_draws :
    (masterFrameStart o b).draws = b.draws ∨ (masterFrameStart o b).draws = b.draws + 1 := by
  have h := channelAtStart_draws (delivered b.stores) (afterWords (delivered b.stores) (wordsState o b))
  simpa [masterFrameStart, reactToStart, switchAndSend, sendFrames, countStart, wordsState, afterWords] using h

/-- Settles O24. -/
theorem startCountsTimersAndKeepsTheRest : Obligations.StartCountsTimersAndKeepsTheRest := by
  unfold Obligations.StartCountsTimersAndKeepsTheRest
  rintro o b t rfl
  have hpart := start_part o b
  have htick : (masterFrameStart o b).notices =
      { (announced o b).notices with timer := (announced o b).notices.timer.map fun r => if r = 0 then 0 else r - 1 } := by
    rw [masterFrameStart_eq, countStart, tickTimer_eq]
  have hkept : (announced o b).notices =
      { b.notices with list := (announced o b).notices.list, alert := (announced o b).notices.alert,
                       lost := (announced o b).notices.lost } := by
    rw [← renumbered_notices o b]
    exact hpart.kept.1
  have hloader : (masterFrameStart o b).loader = tickLoader b.loader := loader_eq o b
  have htiming := timing_eq o b
  refine ⟨?_, ?_, ?_, by simp, by simp, by simp, by simp, ?_, ?_, ?_, by rw [htiming], by rw [htiming], by rw [htiming],
    by rw [htiming], by rw [htiming], by simp, masterFrameStart_draws o b⟩
  · rw [htick, hkept]
  · refine onlyRaised_congr hpart.kept.2 ?_ ?_ ?_ (renumbered_mask o b).symm ?_ ?_ ?_ ?_
    · rw [renumbered_notices]
    · rw [renumbered_notices]
    · rw [renumbered_notices]
    · rw [htick]
    · rw [htick]
    · rw [htick]
    · rw [masterFrameStart_eq]
      rfl
  · rw [hloader, tickLoader]
  · rw [dispatcher_eq, beginStart_eq]
  · rw [dispatcher_eq, beginStart_eq]
  · rw [(masterFrameStart_roles o b).cache, beginStart_cache]

end Sys2Proof.StartChannel
end

section
/-! SUPPORT. How a property of states is carried through a step of the part: what each item of a request can do to the state,
an execution from its pieces, the steps that are due from the single ones, and a command from the events. -/

namespace Sys2Proof.Closure

open Sys2Proof.Machine

/-! ### What an item can do -/

/-- What an item can make of the state `s`: nothing, or the effect of one that acts, with what its tests have shown. -/
inductive ItemEffect (serial : Nat) (s : State) : State → Prop where
  | none : ItemEffect serial s s
  | param (p : Param) (v : Num) (hrange : paramInRange p v = true)
      (hingress : p = .ingressEnable → inMask v s.channel.mgmtIngress = true)
      (hegress : p = .egressEnable → keepsEgress v s = true) : ItemEffect serial s (storeParam p v s)
  | ingress (lane : Option LaneId) (helse : changeElsewhere serial s = false) :
      ItemEffect serial s (holdChange { ownChange serial s with ingress := lane } s)
  | egress (lane : Option LaneId) (helse : changeElsewhere serial s = false)
      (hlane : ∀ l, lane = some l → inMask s.params.egressEnable l = true) :
      ItemEffect serial s (holdChange { ownChange serial s with egress := lane } s)
  | mapWrite (run : Run) : ItemEffect serial s { s with map := setShadow (writeRun run (shadowBank s.map)) s.map }
  | mapCopy (hfree : commitPending s = false) (hidle : shadowBusy s = false) :
      ItemEffect serial s { s with map := { s.map with copy := some 0 } }
  | commit (target : CommitRecord) (hfree : commitPending s = false) (hidle : shadowBusy s = false) :
      ItemEffect serial s { s with map := { s.map with commit := target } }
  | cancel (hpending : commitPending s = true) : ItemEffect serial s { s with map := { s.map with commit := .none } }
  | laneReset (l : LaneId) : ItemEffect serial s (resetLane l s)
  | countsClear (mask : Num) (channelToo : Bool) : ItemEffect serial s (clearCounts mask channelToo s)
  | checkStart (c : CheckerId) (l : LaneId) (t : SlotId) (frames : Num) (hframes : frames ≠ 0) :
      ItemEffect serial s (setChecker c (startedChecker l t frames) s)
  | checkStop (c : CheckerId) : ItemEffect serial s (endChecker c .stopped s)
  | surveyStart (l : LaneId) (frames : Num) (hframes : frames ≠ 0) :
      ItemEffect serial s { s with survey := startedSurvey l frames }
  | acknowledge : ItemEffect serial s (acknowledge s)
  | reload (hfree : commitPending s = false) (hidle : shadowBusy s = false) :
      ItemEffect serial s { s with loader := reloadBegun s.loader }
  | restart : ItemEffect serial s
      { s with
        dispatcher := { s.dispatcher with
          restart := some serial
          change := s.dispatcher.change.filter fun c => decide (c.holder ≠ .request serial) } }

section
variable (group : Bool) (serial : Nat) (s : State)

theorem fails_effect (st : ItemStatus) : ItemEffect serial s (fails st s).after := .none

theorem reads_effect (data : List Octet) : ItemEffect serial s (reads data s).after := .none

theorem writeMgmtIngress_effect (l : LaneId) : ItemEffect serial s (writeMgmtIngress serial l s).2 := by
  unfold writeMgmtIngress
  split_ifs with helse
  · exact .none
  · exact .ingress Option.none (by simpa using helse)
  · exact .ingress (some l) (by simpa using helse)
  · exact .none

theorem writeMgmtEgress_effect (l : LaneId) : ItemEffect serial s (writeMgmtEgress serial l s).2 := by
  unfold writeMgmtEgress
  split_ifs with helse _ hmask
  · exact .none
  · exact .egress Option.none (by simpa using helse) (by simp)
  · exact .egress (some l) (by simpa using helse) (by simpa using hmask)
  · exact .none

theorem writeParam_effect (p : Param) (v : Num) : ItemEffect serial s (writeParam group serial p v s).2 := by
  unfold writeParam
  split
  · exact .none
  split
  · exact .none
  next hrange =>
  split
  · exact .none
  have hrange : paramInRange p v = true := by simpa using hrange
  split
  · split_ifs with h
    · exact .param _ v hrange (fun _ => h) (by simp)
    · exact .none
  · split_ifs with h
    · exact .param _ v hrange (by simp) (fun _ => h)
    · exact .none
  · split
    · exact writeMgmtIngress_effect serial s _
    · exact .none
  · split
    · exact writeMgmtEgress_effect serial s _
    · exact .none
  · next hi he _ _ => exact .param p v hrange (fun h => absurd h hi) (fun h => absurd h he)

theorem itemParamWrite_effect (args : List Octet) : ItemEffect serial s (itemParamWrite group serial args s).after := by
  unfold itemParamWrite
  split
  · split
    · exact writeParam_effect group serial s _ _
    · exact .none
  · exact .none

theorem itemParamRead_effect (args : List Octet) : ItemEffect serial s (itemParamRead args s).after := by
  unfold itemParamRead
  split
  · split <;> exact .none
  · exact .none

theorem itemMapWrite_effect (args : List Octet) : ItemEffect serial s (itemMapWrite args s).after := by
  obtain ⟨-, h⟩ | ⟨raw, -, ⟨-, h⟩ | ⟨run, -, ⟨-, h⟩ | ⟨-, -, h⟩ | ⟨-, -, h⟩⟩⟩ := itemMapWrite_cases s args <;> rw [h]
  · exact .none
  · exact .none
  · exact .none
  · exact .none
  · exact .mapWrite run

theorem itemMapRead_effect (args : List Octet) : ItemEffect serial s (itemMapRead args s).after := by
  unfold itemMapRead
  (repeat' split) <;> exact .none

theorem itemMapCopy_effect : ItemEffect serial s (itemMapCopy s).after := by
  unfold itemMapCopy
  split_ifs with hpending hbusy
  · exact .none
  · exact .none
  · exact .mapCopy (by simpa using hpending) (by simpa using hbusy)

theorem itemCommit_effect (args : List Octet) : ItemEffect serial s (itemCommit args s).after := by
  unfold itemCommit
  split
  · exact .none
  · split_ifs with hpending hbusy
    · exact .none
    · exact .none
    · exact .commit _ (by simpa using hpending) (by simpa using hbusy)
    · exact .none

theorem itemCommitCancel_effect : ItemEffect serial s (itemCommitCancel s).after := by
  unfold itemCommitCancel
  split_ifs with h
  · exact .cancel h
  · exact .none

theorem itemLaneReset_effect (args : List Octet) : ItemEffect serial s (itemLaneReset args s).after := by
  unfold itemLaneReset
  split
  · split
    · split_ifs
      · exact .none
      · exact .laneReset _
    · exact .none
  · exact .none

theorem itemCountsClear_effect (args : List Octet) : ItemEffect serial s (itemCountsClear args s).after := by
  unfold itemCountsClear
  split
  · split_ifs
    · exact .countsClear _ _
    · exact .none
  · exact .none

theorem itemCheckStart_effect (args : List Octet) : ItemEffect serial s (itemCheckStart args s).after := by
  unfold itemCheckStart
  split
  · split
    · split_ifs with hframes
      · exact .none
      · exact .none
      · exact .none
      · exact .checkStart _ _ _ _ hframes
    · exact .none
  · exact .none

theorem itemCheckStop_effect (args : List Octet) : ItemEffect serial s (itemCheckStop args s).after := by
  unfold itemCheckStop
  split
  · split
    · split_ifs
      · exact .checkStop _
      · exact .none
    · exact .none
  · exact .none

theorem itemSurveyStart_effect (args : List Octet) : ItemEffect serial s (itemSurveyStart args s).after := by
  unfold itemSurveyStart
  split
  · split
    · split_ifs with hframes
      · exact .none
      · exact .none
      · exact .none
      · exact .surveyStart _ _ hframes
    · exact .none
  · exact .none

theorem itemNoticeAck_effect (args : List Octet) : ItemEffect serial s (itemNoticeAck args s).after := by
  unfold itemNoticeAck
  split
  · split
    · split_ifs
      · exact .acknowledge
      · exact .none
    · exact .none
  · exact .none

theorem itemImageReload_effect : ItemEffect serial s (itemImageReload s).after := by
  unfold itemImageReload
  split_ifs with hpending hbusy
  · exact .none
  · exact .none
  · exact .reload (by simpa using hpending) (by simpa using hbusy)

theorem runItem_effect (k : ItemKind) (args : List Octet) : ItemEffect serial s (runItem group serial k args s).after := by
  cases k with
  | paramRead => exact itemParamRead_effect serial s args
  | paramWrite => exact itemParamWrite_effect group serial s args
  | mapWrite => exact itemMapWrite_effect serial s args
  | mapRead => exact itemMapRead_effect serial s args
  | mapCopy => exact itemMapCopy_effect serial s
  | commit => exact itemCommit_effect serial s args
  | commitCancel => exact itemCommitCancel_effect serial s
  | laneReset => exact itemLaneReset_effect serial s args
  | countsClear => exact itemCountsClear_effect serial s args
  | checkStart => exact itemCheckStart_effect serial s args
  | checkStop => exact itemCheckStop_effect serial s args
  | surveyStart => exact itemSurveyStart_effect serial s args
  | noticeAck => exact itemNoticeAck_effect serial s args
  | imageReload => exact itemImageReload_effect serial s
  | restart => exact .restart
  | echo => exact .none
  | status => exact .none
  | groupRead => exact .none
  | laneRead =>
    simp only [runItem, itemLaneRead]
    (repeat' split) <;> exact .none
  | checkRead =>
    simp only [runItem, itemCheckRead]
    (repeat' split) <;> exact .none
  | surveyRead =>
    simp only [runItem, itemSurveyRead]
    (repeat' split) <;> exact .none

theorem judgeItem_effect (raw : RawItem) : ItemEffect serial s (judgeItem group serial raw s).after := by
  obtain ⟨-, h⟩ | ⟨k, -, ⟨-, h⟩ | ⟨-, -, -, h⟩ | ⟨-, -, h⟩⟩ := judgeItem_cases s group serial raw <;> rw [h]
  · exact .none
  · exact .none
  · exact .none
  · exact runItem_effect group serial s k raw.args

end

/-! ### Execution -/

theorem operating_congr {s t : State} (h : t.loader = s.loader) : operating t = operating s := by
  simp only [operating, h]

/-- Only an IMAGE_RELOAD touches the loader, and it does not take the part back to STARTING. -/
theorem operating_of_effect {serial : Nat} {s t : State} (h : ItemEffect serial s t) (hop : operating s = true) :
    operating t = true := by
  cases h with
  | reload => rfl
  | param p v => exact (operating_congr (by simp)).trans hop
  | _ => exact (operating_congr (by simp)).trans hop

/-- A property that every piece of an execution keeps. -/
structure ByExecution (P : State → Prop) : Prop where
  pop : ∀ s, P s → P (popIntake s)
  serial : ∀ s, P s → P (takeSerial s)
  report : ∀ s, P s → P { s with notices := reported s.notices }
  build : ∀ r s, P s → P (buildNotice r s)
  place : ∀ r s, P s → P (placeCopy r s)
  item : ∀ n s t, operating s = true → ItemEffect n s t → P s → P t
  reply : ∀ n ws s, P s → P (placeMessage (.reply n) ws s)
  cache : ∀ e s, P s → P (cacheReply e s)
  dropGroup : ∀ s, P s → P (dropGroup s)
  record : ∀ m f rs s, P s → P (recordGroup m f rs s)

section
variable {P : State → Prop}

theorem noticeMoment_keeps (hbuild : ∀ r s, P s → P (buildNotice r s)) (hplace : ∀ r s, P s → P (placeCopy r s)) (r : Nat)
    (s : State) (h : P s) : P (noticeMoment r s) :=
  hbuild r _ (hplace r s h)

/-- The items of a request, and the Notice Unit's moment after each, the reply slots that are held counted. -/
theorem takeAll_keeps (group : Bool) (hitem : ∀ n s t, operating s = true → ItemEffect n s t → P s → P t)
    (hmoment : ∀ s, P s → P (noticeMoment (reservedSlots group) s)) (serial : Nat) (items : List RawItem) :
    ∀ used s, operating s = true → P s → P (takeAll group serial items used s).2 := by
  induction items with
  | nil => exact fun _ _ _ h => h
  | cons raw rest ih =>
    intro used s hop h
    have hstep : operating (takeItem group serial used rest.length raw s).after = true ∧
        P (takeItem group serial used rest.length raw s).after := by
      obtain h' | h' := takeItem_cases s group serial used rest.length raw <;> rw [h']
      · have heffect := judgeItem_effect group serial s raw
        exact ⟨operating_of_effect heffect hop, hitem serial s _ hop heffect h⟩
      · exact ⟨hop, h⟩
    have hmomentOp : operating (noticeMoment (reservedSlots group)
        (takeItem group serial used rest.length raw s).after) = true :=
      (operating_congr (by simp)).trans hstep.1
    simp only [takeAll]
    split
    · exact ih _ _ hmomentOp (hmoment _ hstep.2)
    · exact hmoment _ hstep.2

variable (hP : ByExecution P)
include hP

theorem executeRequest_keeps (s : State) (h : P s) : P (executeRequest s) := by
  unfold executeRequest
  split
  · split
    · have hbegun : P (beginExecution s) :=
        noticeMoment_keeps hP.build hP.place 1 _ (hP.report _ (hP.serial _ (hP.pop s h)))
      unfold answerRequest
      split
      · exact hP.reply _ _ _ hbegun
      · next hop =>
        split
        · exact hP.reply _ _ _ hbegun
        · exact hP.cache _ _ (hP.reply _ _ _ (takeAll_keeps false hP.item (noticeMoment_keeps hP.build hP.place _) _ _ _ _
            (by simpa using hop) hbegun))
    · exact h
  · exact h

theorem executeGroup_keeps (s : State) (h : P s) : P (executeGroup s) := by
  unfold executeGroup
  split
  · split
    · unfold answerGroup
      split
      · exact hP.dropGroup _ (hP.pop s h)
      · next hop =>
        split
        · exact hP.dropGroup _ (hP.pop s h)
        · exact hP.record _ _ _ _ (takeAll_keeps true hP.item (noticeMoment_keeps hP.build hP.place _) _ _ _ _
            (by simpa using hop) (hP.pop s h))
    · exact h
  · exact h

end

/-! ### The steps that are due -/

/-- A property that each step the part takes itself keeps. -/
structure ByOwnSteps (P : State → Prop) : Prop where
  copyEnd : ∀ s, P s → P (takeCopyEnd s)
  checkEnd : ∀ c s, P s → P (takeCheckEnd c s)
  surveyEnd : ∀ s, P s → P (takeSurveyEnd s)
  expiry : ∀ s, P s → P (takeExpiry s)
  attempt : ∀ s, P s → P (beginAttempt s)
  abort : ∀ s, P s → P (storeOwedAbort s)
  build : ∀ s, P s → P (buildNotice 0 s)
  place : ∀ s, P s → P (placeCopy 0 s)
  request : ∀ s, P s → P (executeRequest s)
  group : ∀ s, P s → P (executeGroup s)

section
variable {P : State → Prop} (hP : ByOwnSteps P)
include hP

theorem takeCheckEnds_keeps (cs : List CheckerId) :
    ∀ s, P s → P (cs.foldl (fun s c => takeCheckEnd c s) s) := by
  induction cs with
  | nil => exact fun _ h => h
  | cons c cs ih => exact fun s h => ih _ (hP.checkEnd c s h)

theorem finishStart_keeps (s : State) (h : P s) : P (finishStart s) :=
  hP.attempt _ (hP.expiry _ (hP.surveyEnd _ (takeCheckEnds_keeps hP _ _ (hP.copyEnd s h))))

theorem moment_keeps (s : State) (h : P s) : P (noticeMoment 0 s) := hP.build _ (hP.place s h)

theorem serveIntake_keeps (s : State) (h : P s) : P (serveIntake s) := by
  refine moment_keeps hP _ ?_
  unfold executeHead
  split
  · exact hP.group s h
  · exact hP.request s h

theorem settle_keeps (s : State) (h : P s) : P (settle s) :=
  serveIntake_keeps hP _ (serveIntake_keeps hP _ (moment_keeps hP _ (hP.abort _ (finishStart_keeps hP s h))))

end

/-! ### Commands -/

/-- Each event on the part's lines takes a state of `P` to one of `Q`. -/
structure ByEvents (P Q : State → Prop) : Prop where
  reset : ∀ c straps s, P s → Q (resetPart c straps s)
  word : ∀ l h s, P s → Q (arriveWord l h s)
  signal : ∀ l s, P s → Q (loseSignal l s)
  timer : ∀ s, P s → Q (timerExpires s)
  pulse : ∀ early s, P s → Q (takePulse early s)
  miss : ∀ s, P s → Q (takeMiss s)
  emitted : ∀ s, P s → Q (emitServiceWord s)
  attemptEnd : ∀ octets s, P s → Q (attemptEnds octets s)

section
variable {P Q : State → Prop} (hown : ByOwnSteps P)
include hown

/-- A command: what is due is taken, then the event. -/
theorem exec_leads (hevents : ByEvents P Q) (hPQ : ∀ s, P s → Q s) {c : Instr} {s t : State} (h : exec c s = .next t)
    (hs : P s) : Q t := by
  have hsettled := settle_keeps hown s hs
  have hfinished := finishStart_keeps hown s hs
  cases c with
  | powerOnReset straps => exact Host.Outcome.next.inj h ▸ hevents.reset _ straps s hs
  | wordArrival l w f => exact Host.Outcome.next.inj h ▸ hevents.word l ⟨w, f⟩ _ hsettled
  | signalAbsence l => exact Host.Outcome.next.inj h ▸ hevents.signal l _ hsettled
  | localFrameTimerExpiry => exact Host.Outcome.next.inj h ▸ hevents.timer _ hsettled
  | refinPulse early => exact Host.Outcome.next.inj h ▸ hevents.pulse early _ hsettled
  | refinMiss => exact Host.Outcome.next.inj h ▸ hevents.miss _ hsettled
  | serviceWordEmitted => exact Host.Outcome.next.inj h ▸ hevents.emitted _ hsettled
  | imageAttemptEnd octets => exact Host.Outcome.next.inj h ▸ hevents.attemptEnd octets _ hsettled
  | copyDone => exact Host.Outcome.next.inj h ▸ hPQ _ (hown.copyEnd s hs)
  | checkDone c => exact Host.Outcome.next.inj h ▸ hPQ _ (hown.checkEnd c s hs)
  | surveyDone => exact Host.Outcome.next.inj h ▸ hPQ _ (hown.surveyEnd s hs)
  | owedAbortStored => exact Host.Outcome.next.inj h ▸ hPQ _ (hown.abort s hs)
  | requestExecution => exact Host.Outcome.next.inj h ▸ hPQ _ (hown.request _ hfinished)
  | groupCopyExecution => exact Host.Outcome.next.inj h ▸ hPQ _ (hown.group _ hfinished)
  | noticeMessageBuild => exact Host.Outcome.next.inj h ▸ hPQ _ (hown.build s hs)
  | noticeCopyPlacement => exact Host.Outcome.next.inj h ▸ hPQ _ (hown.place s hs)
  | retransmissionTimerExpiry => exact Host.Outcome.next.inj h ▸ hPQ _ (hown.expiry s hs)
  | imageAttemptBegin => exact Host.Outcome.next.inj h ▸ hPQ _ (hown.attempt s hs)

/-- A step of the part keeps what its own steps and the events keep, the queue having no part in it. -/
theorem step_keeps (hevents : ByEvents P P) (hpending : ∀ q s, P s → P { s with pending := q }) {s t : State}
    (h : step s = .next t) (hs : P s) : P t := by
  unfold step at h
  split at h
  · exact Host.Outcome.next.inj h ▸ settle_keeps hown s hs
  · exact exec_leads hown hevents (fun _ h => h) h (hpending _ s hs)

end

/-- The report of a TAIL, from what it can do. -/
theorem reportTail_keeps {P : State → Prop} (hreset : ∀ c straps s, P s → P (resetPart c straps s))
    (harm : ∀ n s, P s → P (armChange n s))
    (hnotice : ∀ s, P s → P { s with notices := noticeEmitted s.params.noticeWait s.notices }) (m : OutgoingMessage)
    (s : State) (h : P s) : P (reportTail m s) := by
  unfold reportTail
  split
  · split
    · exact hreset _ _ s h
    · exact harm _ s h
  · exact h
  · exact hnotice s h

/-- An emitted service word, from what its report can do. -/
theorem emitServiceWord_keeps {P : State → Prop} (hreset : ∀ c straps s, P s → P (resetPart c straps s))
    (harm : ∀ n s, P s → P (armChange n s))
    (hnotice : ∀ s, P s → P { s with notices := noticeEmitted s.params.noticeWait s.notices })
    (hpop : ∀ s, P s → P (popOutgoing s)) (hsending : ∀ q s, P s → P { s with egress := { s.egress with sending := q } })
    (s : State) (h : P s) : P (emitServiceWord s) := by
  unfold emitServiceWord
  split
  · exact h
  · next f rest _ =>
    have hrest := hsending rest s h
    split
    · unfold messageEmitted
      split
      · exact reportTail_keeps hreset harm hnotice _ _ (hpop _ hrest)
      · exact hrest
    · exact hrest

end Sys2Proof.Closure
end

section
/-! SUPPORT. What the lanes, the stores, the measuring units and the Frame Timing Unit do between two starts: no other block
changes but by notices, and by an abandonment of the message open on the management ingress lane. -/

namespace Sys2Proof.CalmEvents

open Sys2Proof.Machine Sys2Proof.Raising Sys2Proof.StartChannel Sys2Proof.Closure

/-- Between `s` and `t` no start was made, nothing but lanes, stores, survey, timing and checkers changed, a checker but by the
end of its run, the service channel but by an abandonment, the Notice Unit but by notices. -/
structure Calm (s t : State) : Prop where
  kept : OtherBlocksKept s t
  checkers : ∀ c, t.checkers.get c = s.checkers.get c ∨ ∃ r, t.checkers.get c = endedChecker r (s.checkers.get c)
  channel : t.channel = s.channel ∨ t.channel = channelAbandoned s.starts s.channel
  notices : Entered s.notices t.notices
  number : t.timing.number = s.timing.number
  steps : t.timing.steps = s.timing.steps

theorem channelAbandoned_of_closed {n : Nat} {c : Channel} (h : c.parser = none) : channelAbandoned n c = c := by
  unfold channelAbandoned
  rw [h]

theorem channelAbandoned_parser (n : Nat) (c : Channel) : (channelAbandoned n c).parser = none := by
  unfold channelAbandoned
  split
  · assumption
  · (repeat' split) <;> rfl

theorem channelAbandoned_twice (n : Nat) (c : Channel) : channelAbandoned n (channelAbandoned n c) = channelAbandoned n c :=
  channelAbandoned_of_closed (channelAbandoned_parser n c)

variable {s t u : State}

theorem Calm.refl (s : State) : Calm s s :=
  ⟨⟨rfl, rfl, rfl, rfl, rfl, rfl, rfl, rfl, rfl, rfl, rfl, rfl⟩, fun _ => .inl rfl, .inl rfl, .none, rfl, rfl⟩

theorem Calm.trans (h : Calm s t) (h' : Calm t u) : Calm s u := by
  obtain ⟨⟨a₁, a₂, a₃, a₄, a₅, a₆, a₇, a₈, a₉, a₁₀, a₁₁, a₁₂⟩, hk, hc, hn, hnum, hsteps⟩ := h
  obtain ⟨⟨b₁, b₂, b₃, b₄, b₅, b₆, b₇, b₈, b₉, b₁₀, b₁₁, b₁₂⟩, hk', hc', hn', hnum', hsteps'⟩ := h'
  refine ⟨⟨b₁.trans a₁, b₂.trans a₂, b₃.trans a₃, b₄.trans a₄, b₅.trans a₅, b₆.trans a₆, b₇.trans a₇, b₈.trans a₈,
    b₉.trans a₉, b₁₀.trans a₁₀, b₁₁.trans a₁₁, b₁₂.trans a₁₂⟩, fun c => ?_, ?_, hn.trans hn', hnum'.trans hnum, hsteps'.trans hsteps⟩
  · obtain hk' | ⟨r', hk'⟩ := hk' c <;> rw [hk']
    · exact hk c
    · obtain hk | ⟨r, hk⟩ := hk c <;> rw [hk] <;> exact .inr ⟨r', rfl⟩
  · rw [a₁₀] at hc'
    rcases hc with hc | hc <;> rcases hc' with hc' | hc' <;> rw [hc'] <;> simp [hc, channelAbandoned_twice]

/-- An update of lanes, stores, survey or timing alone. -/
theorem Calm.of_eq (kept : OtherBlocksKept s t) (checkers : t.checkers = s.checkers) (channel : t.channel = s.channel) (notices : t.notices = s.notices)
    (number : t.timing.number = s.timing.number) (steps : t.timing.steps = s.timing.steps) : Calm s t :=
  ⟨kept, fun _ => .inl (by rw [checkers]), .inl channel, notices ▸ .none, number, steps⟩

theorem raise_calm {k : NoticeKind} (hk : k ≠ .startUp) (x : Subject) (d : List Octet) (s : State) :
    Calm s (raise k x d s) :=
  ⟨by simp [OtherBlocksKept], by simp, by simp, entered_raise hk x d s, by simp, by simp⟩

theorem setLane_calm (l : LaneId) (r : Lane) (s : State) : Calm s (setLane l r s) :=
  .of_eq (by simp [OtherBlocksKept]) (by simp) (by simp) (by simp) (by simp) (by simp)

theorem setStore_calm (l : LaneId) (r : Store) (s : State) : Calm s (setStore l r s) :=
  .of_eq (by simp [OtherBlocksKept]) (by simp) (by simp) (by simp) (by simp) (by simp)

theorem endRun_calm (c : CheckerId) (r : CheckResult) (s : State) :
    Calm s (setChecker c (endedChecker r (s.checkers.get c)) s) := by
  refine ⟨by simp [OtherBlocksKept], fun d => ?_, by simp, .none, by simp, by simp⟩
  rw [setChecker_checkers, Tab.get_set]
  split
  · next h => exact .inr ⟨r, by rw [h]⟩
  · exact .inl rfl

theorem setSurvey_calm (v : Survey) (s : State) : Calm s { s with survey := v } :=
  .of_eq (by simp [OtherBlocksKept]) rfl rfl rfl rfl rfl

theorem setTiming_calm {tm : Timing} {s : State} (hnumber : tm.number = s.timing.number) (hsteps : tm.steps = s.timing.steps) :
    Calm s { s with timing := tm } :=
  .of_eq (by simp [OtherBlocksKept]) rfl rfl rfl hnumber hsteps

theorem abandonMessage_calm (s : State) : Calm s (abandonMessage s) := by
  rw [abandonMessage_eq]
  exact ⟨by simp [OtherBlocksKept], fun _ => .inl rfl, .inr rfl, .none, rfl, rfl⟩

/-- A fold of calm steps is calm. -/
theorem foldl_calm {ι : Type} {f : State → ι → State} (hf : ∀ i s, Calm s (f s i)) (is : List ι) :
    ∀ s, Calm s (is.foldl f s) := by
  induction is with
  | nil => exact Calm.refl
  | cons i is ih => exact fun s => (hf i s).trans (ih _)

/-! ### Measuring units -/

theorem endChecker_calm (c : CheckerId) (r : CheckResult) (s : State) : Calm s (endChecker c r s) :=
  (endRun_calm c r s).trans (raise_calm (by decide) _ _ _)

theorem takeCheckEnd_calm (c : CheckerId) (s : State) : Calm s (takeCheckEnd c s) := by
  unfold takeCheckEnd
  split
  · exact endChecker_calm c _ s
  · exact .refl s

theorem loseChecker_calm (l : LaneId) (c : CheckerId) (s : State) : Calm s (loseChecker l c s) := by
  unfold loseChecker
  split
  · exact endChecker_calm c _ s
  · exact .refl s

theorem loseCheckers_calm (l : LaneId) (s : State) : Calm s (loseCheckers l s) :=
  foldl_calm (loseChecker_calm l) _ s

theorem takeSurveyEnd_calm (s : State) : Calm s (takeSurveyEnd s) := by
  unfold takeSurveyEnd
  split
  · exact (setSurvey_calm _ s).trans (raise_calm (by decide) _ _ _)
  · exact .refl s

theorem abortSurvey_calm (l : LaneId) (s : State) : Calm s (abortSurvey l s) := by
  unfold abortSurvey
  split
  · exact (setSurvey_calm _ s).trans (raise_calm (by decide) _ _ _)
  · exact .refl s

theorem surveyOverSlip_calm (l : LaneId) (s : State) : Calm s (surveyOverSlip l s) := by
  unfold surveyOverSlip
  split
  · exact setSurvey_calm _ s
  · exact .refl s

theorem surveySyncLoss_calm (l : LaneId) (s : State) : Calm s (surveySyncLoss l s) := by
  unfold surveySyncLoss
  split
  · exact setSurvey_calm _ s
  · exact .refl s

theorem surveyMarkerMiss_calm (l : LaneId) (s : State) : Calm s (surveyMarkerMiss l s) := by
  unfold surveyMarkerMiss
  split
  · exact setSurvey_calm _ s
  · exact .refl s

/-! ### Stores and timing -/

theorem recentreEntered_calm (before after : Option Source) (s : State) : Calm s (recentreEntered before after s) := by
  unfold recentreEntered
  split
  · split
    · exact .refl s
    · exact setStore_calm _ _ s
  · exact .refl s

theorem moveTiming_calm (c : TimingState × Option Source) (s : State) : Calm s (moveTiming c s) := by
  unfold moveTiming
  split
  · exact .refl s
  · refine .trans (.trans ?_ (raise_calm (by decide) .none (timingData c) _)) (recentreEntered_calm _ c.2 _)
    exact setTiming_calm rfl rfl

theorem loseSource_calm (s : State) : Calm s (loseSource s) := moveTiming_calm _ s

theorem disqualifyLane_calm (l : LaneId) (s : State) : Calm s (disqualifyLane l s) := by
  unfold disqualifyLane
  split
  · refine .trans ?_ (loseSource_calm _)
    exact setTiming_calm rfl rfl
  · exact setTiming_calm rfl rfl

theorem checkMissRun_calm (s : State) : Calm s (checkMissRun s) := by
  unfold checkMissRun
  split
  · split
    · refine .trans ?_ (loseSource_calm _)
      exact setTiming_calm rfl rfl
    · exact setTiming_calm rfl rfl
  · exact .refl s

theorem creditLane_calm (l : LaneId) (s : State) : Calm s (creditLane l s) := setTiming_calm rfl rfl

theorem requalifyAll_calm (s : State) : Calm s (requalifyAll s) := setTiming_calm rfl rfl

theorem writeStore_calm (l : LaneId) (r : FrameRecord) (s : State) : Calm s (writeStore l r s) := by
  unfold writeStore
  split
  · exact ((setStore_calm l _ s).trans (surveyOverSlip_calm l _)).trans (raise_calm (by decide) _ _ _)
  · exact setStore_calm l _ s

/-! ### Lanes -/

theorem laneGone_calm (l : LaneId) (s : State) : Calm s (laneGone l s) :=
  ((setStore_calm l _ s).trans (disqualifyLane_calm l _)).trans (loseCheckers_calm l _)

theorem parserLosesLane_calm (l : LaneId) (s : State) : Calm s (parserLosesLane l s) := by
  unfold parserLosesLane
  split
  · exact abandonMessage_calm s
  · exact .refl s

theorem loseAlignment_calm (l : LaneId) (cause : Octet) (s : State) : Calm s (loseAlignment l cause s) :=
  ((((setLane_calm l _ s).trans (raise_calm (by decide) _ _ _)).trans (surveySyncLoss_calm l _)).trans
    (laneGone_calm l _)).trans (parserLosesLane_calm l _)

theorem abandonConfirm_calm (l : LaneId) (s : State) : Calm s (abandonConfirm l s) :=
  (setLane_calm l _ s).trans (laneGone_calm l _)

theorem loseSignal_calm (l : LaneId) (s : State) : Calm s (loseSignal l s) := by
  unfold loseSignal
  split
  · exact .refl s
  · exact .refl s
  · exact abandonConfirm_calm l s
  · exact loseAlignment_calm l _ s
  · exact loseAlignment_calm l _ s

theorem resetLane_calm (l : LaneId) (s : State) : Calm s (resetLane l s) := by
  unfold resetLane
  split
  · exact .refl s
  · exact (laneGone_calm l s).trans (abortSurvey_calm l _)
  · exact (abandonConfirm_calm l s).trans (abortSurvey_calm l _)
  · exact (loseAlignment_calm l _ s).trans (abortSurvey_calm l _)
  · exact (loseAlignment_calm l _ s).trans (abortSurvey_calm l _)

theorem disableLane_calm (l : LaneId) (s : State) : Calm s (disableLane l s) :=
  ((setLane_calm l _ s).trans (laneGone_calm l _)).trans (abortSurvey_calm l _)

theorem enableLane_calm (l : LaneId) (s : State) : Calm s (enableLane l s) := by
  unfold enableLane
  split
  · exact setLane_calm l _ s
  · exact .refl s

theorem switchLane_calm (before after : Num) (l : LaneId) (s : State) : Calm s (switchLane before after s l) := by
  unfold switchLane
  split
  · exact disableLane_calm l s
  · exact enableLane_calm l s
  · exact .refl s

/-- A write of INGRESS_ENABLE is calm but for the parameter. -/
theorem writeIngressEnable_calm (v : Num) (s : State) :
    Calm { s with params := { s.params with ingressEnable := v } } (writeIngressEnable v s) :=
  foldl_calm (fun l s => switchLane_calm _ v l s) _ _

theorem gainSync_calm (l : LaneId) (h : Heard) (s : State) : Calm s (gainSync l h s) :=
  ((setLane_calm l _ s).trans (setStore_calm l _ _)).trans (raise_calm (by decide) _ _ _)

theorem confirmMarker_calm (l : LaneId) (h : Heard) (s : State) : Calm s (confirmMarker l h s) := by
  unfold confirmMarker
  split
  · split
    · split
      · exact gainSync_calm l h s
      · exact setLane_calm l _ s
    · exact setLane_calm l _ s
  · exact abandonConfirm_calm l s

theorem missMarker_calm (l : LaneId) (s : State) : Calm s (missMarker l s) := by
  unfold missMarker
  have hcounted := (setLane_calm l (missCounted (s.lanes.get l)) s).trans (surveyMarkerMiss_calm l _)
  simp only
  split
  · exact hcounted.trans (loseAlignment_calm l _ _)
  · exact hcounted.trans (setLane_calm l _ _)

theorem alignedMarker_calm (l : LaneId) (h : Heard) (s : State) : Calm s (alignedMarker l h s) := by
  unfold alignedMarker
  split
  · exact setLane_calm l _ s
  · exact missMarker_calm l s

/-! ### Events of the lines -/

/-- Between `s` and `t` at most one start was made, everything before and behind it being calm. -/
inductive AtMostOneStart (s t : State) : Prop where
  | calm (h : Calm s t)
  | start (o : Option LaneId) {u : State} (h : Calm s u) (h' : Calm (masterFrameStart o u) t)

theorem completeFrame_starts (l : LaneId) (h : Heard) (s : State) : AtMostOneStart s (completeFrame l h s) := by
  unfold completeFrame
  split
  · have hwritten := fun r u => (creditLane_calm l u).trans (writeStore_calm l r _)
    unfold writeRecord
    split
    · exact .start (some l) ((setLane_calm l _ s).trans (hwritten _ _)) (.refl _)
    · exact .calm ((setLane_calm l _ s).trans (hwritten _ _))
  · exact .calm (.refl s)

theorem AtMostOneStart.after_calm (h : Calm s t) (h' : AtMostOneStart t u) : AtMostOneStart s u := by
  cases h' with
  | calm h' => exact .calm (h.trans h')
  | start o h' h'' => exact .start o (h.trans h') h''

theorem seekWord_calm (l : LaneId) (h : Heard) (s : State) : Calm s (seekWord l h s) := by
  unfold seekWord
  split
  · exact setLane_calm l _ s
  · exact .refl s

theorem confirmWord_calm (l : LaneId) (p : Fin 42) (h : Heard) (s : State) : Calm s (confirmWord l p h s) := by
  unfold confirmWord
  split
  · exact confirmMarker_calm l h s
  · exact .refl s

theorem arriveWord_starts (l : LaneId) (h : Heard) (s : State) : AtMostOneStart s (arriveWord l h s) := by
  have haligned : ∀ p r, AtMostOneStart s (alignedWord l p h (setLane l r s)) := by
    intro p r
    refine .after_calm (setLane_calm l r s) ?_
    unfold alignedWord
    split
    · exact .calm (alignedMarker_calm l h _)
    · split
      · exact completeFrame_starts l h _
      · exact .calm (setLane_calm l _ _)
  unfold arriveWord
  split
  · exact .calm (.refl s)
  · exact .calm ((setLane_calm l _ s).trans (seekWord_calm l h _))
  · exact .calm ((setLane_calm l _ s).trans (confirmWord_calm l _ h _))
  · exact haligned _ _
  · exact haligned _ _

theorem timerExpires_starts (s : State) : AtMostOneStart s (timerExpires s) := by
  unfold timerExpires
  split
  · exact .start none (.refl s) (.refl _)
  · exact .calm (setTiming_calm rfl rfl)

theorem refinStart_starts (s : State) : refinStart s = s ∨ refinStart s = masterFrameStart none s := by
  unfold refinStart
  split
  · exact .inr rfl
  · exact .inl rfl

theorem takePulse_starts (early : Bool) (s : State) : AtMostOneStart s (takePulse early s) := by
  unfold takePulse
  split
  · exact .calm (.refl s)
  · have hpulse : Calm s { s with timing := pulseAccepted s.params.qualifyFrames s.timing } := setTiming_calm rfl rfl
    obtain h | h := refinStart_starts { s with timing := pulseAccepted s.params.qualifyFrames s.timing } <;> rw [h]
    · exact .calm hpulse
    · exact .start none hpulse (.refl _)

theorem missTaken_calm (s : State) : Calm s { s with timing := missTaken s.timing } := by
  refine setTiming_calm ?_ ?_ <;> unfold missTaken <;> split <;> rfl

theorem takeMiss_starts (s : State) : AtMostOneStart s (takeMiss s) := by
  unfold takeMiss
  split
  · exact .calm (.refl s)
  · obtain h | h := refinStart_starts { s with timing := missTaken s.timing } <;> rw [h]
    · exact .calm ((missTaken_calm s).trans (checkMissRun_calm _))
    · exact .start none (missTaken_calm s) (checkMissRun_calm _)

/-- What is kept by everything calm and by a start is kept by an event that makes at most one. -/
theorem AtMostOneStart.keeps {P : State → Prop} (hcalm : ∀ s t, Calm s t → P s → P t)
    (hstart : ∀ o s, P s → P (masterFrameStart o s)) (h : AtMostOneStart s t) (hs : P s) : P t := by
  cases h with
  | calm h => exact hcalm _ _ h hs
  | start o h h' => exact hcalm _ _ h' (hstart o _ (hcalm _ _ h hs))

end Sys2Proof.CalmEvents
end

section
/-! SUPPORT. The roles of the banks, the claims on the SHADOW bank and the read engine through every step. -/

namespace Sys2Proof.MapKept

open Sys2Proof.Machine Sys2Proof.Closure Sys2Proof.CalmEvents Sys2Proof.Starts

/-! ### The end of an attempt -/

/-- The state in which the octets of an attempt have been read. -/
def readState (octets : List Octet) (s : State) : State := { s with loader := readImage octets s.loader }

/-- Every end of an attempt (R163 to R168). -/
inductive AttemptOutcome (octets : List Octet) (s : State) : State → Prop where
  | none (h : attemptRunning s = false) : AttemptOutcome octets s s
  | waits (h : attemptRunning s = true) (hfew : s.loader.attempts < Config.attemptLimit) :
      AttemptOutcome octets s { readState octets s with loader := loaderWaits (readState octets s).loader }
  | reloadEmpty (h : attemptRunning s = true) (r : LoadResult) (hr : reloading s = true) :
      AttemptOutcome octets s (endReload r (readState octets s))
  | loadEmpty (h : attemptRunning s = true) (r : LoadResult) (hr : reloading s = false) :
      AttemptOutcome octets s (endLoadEmpty r (readState octets s))
  | reloaded (h : attemptRunning s = true) (im : Image) (hr : reloading s = true)
      (hverdict : judgeImage octets = .verified im) :
      AttemptOutcome octets s (endReload .loaded (writeRuns im (readState octets s)))
  | loaded (h : attemptRunning s = true) (im : Image) (hr : reloading s = false)
      (hverdict : judgeImage octets = .verified im) : AttemptOutcome octets s (applyImage im (readState octets s))

/-- A read changes the engine and the octets taken alone. -/
theorem readState_loader (octets : List Octet) (s : State) :
    (readState octets s).loader =
      { s.loader with
        engine := s.loader.engine.map fun _ => s.loader.taken.length + readStop octets - 1
        taken := s.loader.taken ++ flashOctets octets 0 (readStop octets) } := readImage_eq octets s.loader

@[simp] theorem readState_map (octets : List Octet) (s : State) : (readState octets s).map = s.map := rfl

theorem readState_reloading (octets : List Octet) (s : State) : reloading (readState octets s) = reloading s := by
  simp [reloading, readState_loader]

theorem endEmpty_outcome {octets : List Octet} {s : State} (h : attemptRunning s = true) (r : LoadResult) :
    AttemptOutcome octets s (endEmpty r (readState octets s)) := by
  unfold endEmpty
  rw [readState_reloading]
  split
  · next hr => exact .reloadEmpty h r hr
  · next hr => exact .loadEmpty h r (by simpa using hr)

theorem attemptEnds_outcome (octets : List Octet) (s : State) : AttemptOutcome octets s (attemptEnds octets s) := by
  unfold attemptEnds
  split
  case isFalse h => exact .none (by simpa using h)
  case isTrue h =>
    show AttemptOutcome octets s (concludeAttempt (judgeImage octets) (readState octets s))
    cases hverdict : judgeImage octets with
    | absent => exact endEmpty_outcome h .absent
    | failed =>
      simp only [concludeAttempt]
      split
      · next hfew => exact .waits h (by simpa [readState_loader] using hfew)
      · exact endEmpty_outcome h .failed
    | verified im =>
      simp only [concludeAttempt, readState_reloading]
      split
      · next hr => exact .reloaded h im hr hverdict
      · next hr => exact .loaded h im (by simpa using hr) hverdict

/-- An attempt reads no more than the image's total length. -/
theorem recordsStop_le (n : Nat) (seen : List Octet) (a : Nat) (area : List Octet) :
    recordsStop n seen a area ≤ a + area.length + 2 := by
  fun_induction recordsStop n seen a area <;> grind

theorem readStop_le (octets : List Octet) : readStop octets ≤ Config.imageLimit := by
  unfold readStop
  split_ifs with _ _ hheader
  · decide
  · decide
  · decide
  · have hstop := recordsStop_le (flashOctet octets 3).toNat [] 6 (flashOctets octets 6 (imageLength octets - 8))
    simp only [headerPasses, Bool.not_eq_true', Bool.not_eq_false, Bool.and_eq_true, decide_eq_true_eq] at hheader
    simp only [flashOctets, List.length_map, List.length_range] at hstop ⊢
    omega

/-! ### The settings of an image -/

/-- What the settings of an image leave as it was. -/
theorem applySettings_frame (im : Image) (s : State) :
    (applySettings im s).map = s.map ∧ (applySettings im s).hold = s.hold ∧ (applySettings im s).egress = s.egress ∧
      (applySettings im s).channel = s.channel ∧ (applySettings im s).loader = s.loader ∧
      (applySettings im s).straps = s.straps ∧ (applySettings im s).starts = s.starts ∧
      (applySettings im s).draws = s.draws ∧ (applySettings im s).pending = s.pending ∧
      (applySettings im s).dispatcher = { s.dispatcher with change := imageChange im s } ∧
      (applySettings im s).address = appliedAddress im s := by
  have keep : ∀ {β : Type} (g : State → β), (∀ p v s, g (storeParam p v s) = g s) → ∀ s,
      g (imageParams.foldl (applyParam im) s) = g s := by
    intro β g hg s
    refine foldl_leaves g _ (fun s p => ?_) _ s
    unfold applyParam
    split
    · exact hg _ _ s
    · rfl
  unfold applySettings
  simp only [keep State.map (by simp), keep State.hold (by simp), keep State.egress (by simp), keep State.channel (by simp),
    keep State.loader (by simp), keep State.straps (by simp), keep State.starts (by simp), keep State.draws (by simp),
    keep State.pending (by simp), keep State.dispatcher (by simp), keep State.address (by simp)]
  simp [setChange]

/-- The state on which the parameters of an image take effect. -/
def settingsBase (im : Image) (s : State) : State := { setChange (imageChange im s) s with address := appliedAddress im s }

/-- What each parameter of an image keeps, its settings keep. -/
theorem applySettings_keeps {P : State → Prop} (im : Image) (s : State)
    (hparam : ∀ p ∈ imageParams, ∀ u, P u → P (applyParam im u p)) (hbase : P (settingsBase im s)) :
    P (applySettings im s) := by
  have hfold : ∀ ps : List Param, (∀ p ∈ ps, ∀ u, P u → P (applyParam im u p)) → ∀ u, P u → P (ps.foldl (applyParam im) u) := by
    intro ps
    induction ps with
    | nil => exact fun _ _ h => h
    | cons p ps ih => exact fun hps u h => ih (fun q hq => hps q (by simp [hq])) _ (hps p (by simp) u h)
  exact hfold imageParams hparam _ hbase

/-! ### The map and the loader -/

/-- `MapLegal` by the fields of the map and of the loader. -/
structure MapOk (m : ConnectionMap) (n : Loader) : Prop where
  roles : m.active = .b ↔ m.epoch.getLsbD 0 = true
  copyAlone : m.copy.isSome = true → m.commit = .none ∧ n.state ≠ .reloading ∧ n.state ≠ .loading
  commitAlone : m.commit ≠ .none → n.state ≠ .reloading ∧ n.state ≠ .loading
  engine : n.engine.isSome = true ∨ n.next ≠ .none → n.state = .loading ∨ n.state = .reloading
  resume : n.state = .reloading → n.resume = .loaded ∨ n.resume = .defaults
  begun : n.engine.isSome = true → n.engine = some 0 ∧ n.taken = []
  taken : n.taken.length ≤ Config.imageLimit

theorem mapLegal_iff (s : State) : MapLegal s ↔ MapOk s.map s.loader := by
  have hclaims : (claims s ≤ 1 ∧ (operating s = false → claims s = 0)) ↔
      (s.map.copy.isSome = true → s.map.commit = .none ∧ s.loader.state ≠ .reloading ∧ s.loader.state ≠ .loading) ∧
        (s.map.commit ≠ .none → s.loader.state ≠ .reloading ∧ s.loader.state ≠ .loading) := by
    unfold claims copying commitPending reloading operating
    cases s.map.copy <;> by_cases hc : s.map.commit = .none <;> cases s.loader.state <;> simp [hc]
  have hoperating : operating s = false ↔ s.loader.state = .loading := by simp [operating]
  have hreloading : reloading s = true ↔ s.loader.state = .reloading := by simp [reloading]
  constructor
  · rintro ⟨hroles, hle, hnone, hengine, hresume, hbegun, htaken⟩
    obtain ⟨hcopy, hcommit⟩ := hclaims.1 ⟨hle, hnone⟩
    rw [hoperating, hreloading] at hengine
    rw [hreloading] at hresume
    exact ⟨hroles, hcopy, hcommit, hengine, hresume, hbegun, htaken⟩
  · rintro ⟨hroles, hcopy, hcommit, hengine, hresume, hbegun, htaken⟩
    obtain ⟨hle, hnone⟩ := hclaims.2 ⟨hcopy, hcommit⟩
    rw [← hoperating, ← hreloading] at hengine
    rw [← hreloading] at hresume
    exact ⟨hroles, hle, hnone, hengine, hresume, hbegun, htaken⟩

theorem mapLegal_congr {s t : State} (h : MapLegal s) (hmap : t.map = s.map) (hloader : t.loader = s.loader) :
    MapLegal t := by
  rw [mapLegal_iff] at h ⊢
  rwa [hmap, hloader]

theorem epoch_parity (e : Num) : (e + 1).getLsbD 0 = !e.getLsbD 0 := by
  simp only [BitVec.getLsbD, Nat.testBit_zero, BitVec.toNat_add]
  rw [Bool.eq_iff_iff]
  simp only [decide_eq_true_eq, Bool.not_eq_true', decide_eq_false_iff_not]
  simp only [BitVec.ofNat_eq_ofNat, BitVec.toNat_ofNat]
  omega

theorem mapOk_committed {m : ConnectionMap} {n : Loader} (h : MapOk m n) (hc : m.commit ≠ .none) : MapOk (committed m) n := by
  refine { h with roles := ?_, copyAlone := fun hcopy => absurd (h.copyAlone hcopy).1 hc, commitAlone := fun hn => absurd rfl hn }
  have hroles := h.roles
  rw [committed]
  simp only [epoch_parity]
  cases hm : m.active <;> simp_all [otherBank]

theorem mapOk_copyStep {m : ConnectionMap} {n : Loader} (h : MapOk m n) : MapOk (copyStep m) n := by
  obtain ⟨h', -⟩ | ⟨k, hk, h'⟩ := copyStep_cases m <;> rw [h']
  · exact h
  · have hcopy := h.copyAlone (by simp [hk])
    exact { h with
      roles := by simpa using h.roles, copyAlone := fun _ => by simpa using hcopy
      commitAlone := by simpa using h.commitAlone }

theorem tickLoader_frame (n : Loader) :
    (tickLoader n).state = n.state ∧ (tickLoader n).engine = n.engine ∧ (tickLoader n).resume = n.resume ∧
      (tickLoader n).taken = n.taken ∧ (tickLoader n).attempts = n.attempts ∧ (tickLoader n).cause = n.cause ∧
      (tickLoader n).result = n.result ∧ ((tickLoader n).next ≠ .none ↔ n.next ≠ .none) := by
  unfold tickLoader
  split
  · next h => simp [h]
  · simp

theorem mapOk_tickLoader {m : ConnectionMap} {n : Loader} (h : MapOk m n) : MapOk m (tickLoader n) := by
  obtain ⟨hstate, hengine, hresume, htaken, -, -, -, hnext⟩ := tickLoader_frame n
  obtain ⟨roles, copyAlone, commitAlone, engine, resume, begun, taken⟩ := h
  constructor <;> simpa only [hstate, hengine, hresume, htaken, hnext]

theorem mapOk_readBegun {m : ConnectionMap} {n : Loader} (h : MapOk m n) (hn : n.state = .loading ∨ n.state = .reloading) :
    MapOk m (readBegun n) :=
  { h with engine := fun _ => hn, begun := fun _ => ⟨rfl, rfl⟩, taken := Nat.zero_le _ }

/-- The loader with its engine idle. -/
theorem mapOk_stopped {m : ConnectionMap} {n n' : Loader} (h : MapOk m n) (hstate : n'.state ≠ .loading ∧ n'.state ≠ .reloading)
    (hengine : n'.engine = none) (hnext : n'.next = .none) (htaken : n'.taken.length ≤ Config.imageLimit) : MapOk m n' where
  roles := h.roles
  copyAlone hc := ⟨(h.copyAlone hc).1, hstate.2, hstate.1⟩
  commitAlone _ := ⟨hstate.2, hstate.1⟩
  engine := by simp [hengine, hnext]
  resume hr := absurd hr hstate.2
  begun := by simp [hengine]
  taken := htaken

/-! ### Starts and calm steps -/

theorem mapLegal_of_calm (s t : State) (hst : Calm s t) (h : MapLegal s) : MapLegal t := by
  obtain ⟨hmap, -, -, -, -, hloader, -⟩ := hst.kept
  exact mapLegal_congr h hmap hloader

theorem commit_of_fires {o : Option LaneId} {b : State} (h : firesAt o b = true) : b.map.commit ≠ .none := by
  intro hc
  simp [firesAt, fires, hc] at h

theorem mapLegal_start (o : Option LaneId) (s : State) (h : MapLegal s) : MapLegal (masterFrameStart o s) := by
  rw [mapLegal_iff] at h ⊢
  rw [map_eq, loader_eq]
  refine mapOk_tickLoader (mapOk_copyStep ?_)
  rw [firedMap]
  split
  · next hf => exact mapOk_committed h (commit_of_fires hf)
  · exact h

/-! ### Items -/

theorem mapLegal_item (n : Nat) (s t : State) (hop : operating s = true) (he : ItemEffect n s t) (h : MapLegal s) :
    MapLegal t := by
  have hloading : s.loader.state ≠ .loading := by simpa [operating] using hop
  have hfreed : ∀ {s : State}, shadowBusy s = false → s.map.copy = none ∧ s.loader.state ≠ .reloading := by
    intro s hb
    simpa [shadowBusy, copying, reloading] using hb
  have hcommit : ∀ {s : State}, commitPending s = false → s.map.commit = .none := by
    intro s hp
    simpa [commitPending] using hp
  cases he with
  | mapWrite run =>
    rw [mapLegal_iff] at h ⊢
    exact { h with
      roles := by simpa using h.roles, copyAlone := by simpa using h.copyAlone
      commitAlone := by simpa using h.commitAlone }
  | mapCopy hfree hidle =>
    rw [mapLegal_iff] at h ⊢
    exact { h with copyAlone := fun _ => ⟨hcommit hfree, (hfreed hidle).2, hloading⟩ }
  | commit target hfree hidle =>
    rw [mapLegal_iff] at h ⊢
    exact { h with
      copyAlone := fun hc => by simp [(hfreed hidle).1] at hc
      commitAlone := fun _ => ⟨(hfreed hidle).2, hloading⟩ }
  | cancel hpending =>
    rw [mapLegal_iff] at h ⊢
    exact { h with copyAlone := fun hc => ⟨rfl, (h.copyAlone hc).2⟩, commitAlone := fun hn => absurd rfl hn }
  | reload hfree hidle =>
    rw [mapLegal_iff] at h ⊢
    have hresume : s.loader.state = .loaded ∨ s.loader.state = .defaults := by
      have hreloading := (hfreed hidle).2
      cases hs : s.loader.state <;> simp_all
    exact
      { roles := h.roles
        copyAlone := fun hc => by simp [(hfreed hidle).1] at hc
        commitAlone := fun hn => absurd (hcommit hfree) hn
        engine := fun _ => .inr rfl
        resume := fun _ => hresume
        begun := fun _ => ⟨rfl, rfl⟩
        taken := Nat.zero_le _ }
  | _ => exact mapLegal_congr h (by simp) (by simp)

theorem mapLegal_byExecution : ByExecution MapLegal where
  pop _ h := mapLegal_congr h (by simp) (by simp)
  serial _ h := mapLegal_congr h (by simp) (by simp)
  report _ h := mapLegal_congr h rfl rfl
  build _ _ h := mapLegal_congr h (by simp) (by simp)
  place _ _ h := mapLegal_congr h (by simp) (by simp)
  item := mapLegal_item
  reply _ _ _ h := mapLegal_congr h (by simp) (by simp)
  cache _ _ h := mapLegal_congr h (by simp) (by simp)
  dropGroup _ h := mapLegal_congr h (by simp) (by simp)
  record _ _ _ _ h := mapLegal_congr h rfl rfl

/-! ### Own steps and events -/

theorem mapLegal_copyEnd (s : State) (h : MapLegal s) : MapLegal (takeCopyEnd s) := by
  unfold takeCopyEnd
  split
  · refine mapLegal_congr (s := { s with map := { s.map with copy := none } }) ?_ (by simp) (by simp)
    rw [mapLegal_iff] at h ⊢
    exact { h with copyAlone := fun hc => by simp at hc }
  · exact h

theorem mapLegal_beginAttempt (s : State) (h : MapLegal s) : MapLegal (beginAttempt s) := by
  unfold beginAttempt
  split
  · next hdue =>
    rw [mapLegal_iff] at h ⊢
    have hnext : s.loader.next = .due := by simpa [attemptDue] using hdue
    have hstate := h.engine (.inr (by simp [hnext]))
    exact mapOk_readBegun { h with engine := fun _ => hstate } hstate
  · exact h

theorem mapLegal_byOwnSteps : ByOwnSteps MapLegal where
  copyEnd := mapLegal_copyEnd
  checkEnd c s h := mapLegal_of_calm s _ (takeCheckEnd_calm c s) h
  surveyEnd s h := mapLegal_of_calm s _ (takeSurveyEnd_calm s) h
  expiry _ h := mapLegal_congr h (by simp) (by simp)
  attempt := mapLegal_beginAttempt
  abort s h := mapLegal_congr h (by unfold storeOwedAbort; split <;> simp) (by unfold storeOwedAbort; split <;> simp)
  build _ h := mapLegal_congr h (by simp) (by simp)
  place _ h := mapLegal_congr h (by simp) (by simp)
  request := executeRequest_keeps mapLegal_byExecution
  group := executeGroup_keeps mapLegal_byExecution

theorem flashOctets_length (octets : List Octet) (a n : Nat) : (flashOctets octets a n).length = n := by
  simp [flashOctets]

/-- After the read of an attempt, all of `MapOk` but where the engine stands. -/
theorem taken_readState {octets : List Octet} {s : State} (h : MapOk s.map s.loader) (hrun : attemptRunning s = true) :
    (readState octets s).loader.taken.length ≤ Config.imageLimit := by
  have hbegun := (h.begun hrun).2
  rw [readState_loader, hbegun]
  simpa [flashOctets_length] using readStop_le octets

theorem mapLegal_reloadEnded {octets : List Octet} {s u : State} (h : MapOk s.map s.loader) (hrun : attemptRunning s = true)
    (r : LoadResult) (hr : reloading s = true) (hu : MapOk u.map s.loader)
    (hloader : u.loader = (readState octets s).loader) : MapLegal (endReload r u) := by
  refine mapLegal_congr (s := { u with loader := loaderEnded u.loader.resume r u.loader }) ?_
    (by simp [endReload]) (by simp [endReload])
  rw [mapLegal_iff]
  have hstate : s.loader.state = .reloading := by simpa [reloading] using hr
  have hresume : u.loader.resume = s.loader.resume := by rw [hloader, readState_loader]
  refine mapOk_stopped hu ?_ rfl rfl ?_
  · have hback := h.resume hstate
    simp only [loaderEnded, hresume]
    rcases hback with hback | hback <;> simp [hback]
  · simpa [loaderEnded, hloader] using taken_readState h hrun

theorem mapLegal_attemptEnds (octets : List Octet) (s : State) (h : MapLegal s) : MapLegal (attemptEnds octets s) := by
  have houtcome := attemptEnds_outcome octets s
  have hlegal := h
  rw [mapLegal_iff] at h
  have hrunning : attemptRunning s = true → reloading s = false → s.loader.state = .loading := by
    intro hrun hr
    have hstate := h.engine (.inl hrun)
    simp only [reloading, decide_eq_false_iff_not] at hr
    exact hstate.resolve_right hr
  generalize attemptEnds octets s = t at houtcome ⊢
  cases houtcome with
  | none _ => exact hlegal
  | waits hrun hfew =>
    rw [mapLegal_iff]
    have hstate := h.engine (.inl hrun)
    exact
      { roles := h.roles
        copyAlone := by simpa [loaderWaits, readState_loader] using h.copyAlone
        commitAlone := by simpa [loaderWaits, readState_loader] using h.commitAlone
        engine := fun _ => by simpa [loaderWaits, readState_loader] using hstate
        resume := by simpa [loaderWaits, readState_loader] using h.resume
        begun := by simp [loaderWaits]
        taken := by simpa [loaderWaits] using taken_readState h hrun }
  | reloadEmpty hrun r hr => exact mapLegal_reloadEnded (octets := octets) h hrun r hr h rfl
  | reloaded hrun im hr =>
    refine mapLegal_reloadEnded (octets := octets) h hrun .loaded hr ?_ rfl
    exact { h with
      roles := by simpa [writeRuns] using h.roles
      copyAlone := by simpa [writeRuns] using h.copyAlone
      commitAlone := by simpa [writeRuns] using h.commitAlone }
  | loadEmpty hrun r hr =>
    refine mapLegal_congr (s := { readState octets s with loader := loaderEnded .defaults r (readState octets s).loader }) ?_
      rfl rfl
    rw [mapLegal_iff]
    exact mapOk_stopped h (by simp [loaderEnded]) rfl rfl (taken_readState h hrun)
  | loaded hrun im hr =>
    have hstate := hrunning hrun hr
    obtain ⟨hmap, -, -, -, hloader, -⟩ := applySettings_frame im (readState octets s)
    have hcopy : s.map.copy = none := by
      cases hc : s.map.copy with
      | none => rfl
      | some k => exact absurd hstate (h.copyAlone (by simp [hc])).2.2
    rw [mapLegal_iff]
    have hfinal : (applyImage im (readState octets s)).map =
        { setShadow (im.runs.foldl (fun b r => writeRun r b) (shadowBank s.map)) s.map with commit := .next } := by
      simp [applyImage, raiseStartUp, requestCommit, writeRuns, hmap]
    have hended : (applyImage im (readState octets s)).loader = loaderEnded .loaded .loaded (readState octets s).loader := by
      simp [applyImage, raiseStartUp, requestCommit, writeRuns, hloader]
    rw [hfinal, hended]
    refine mapOk_stopped (n := { s.loader with state := .loaded, engine := none, next := .none, taken := [] }) ?_
      (by simp [loaderEnded]) rfl rfl (taken_readState h hrun)
    exact
      { roles := by simpa using h.roles
        copyAlone := by simp [hcopy]
        commitAlone := by simp
        engine := by simp
        resume := by simp
        begun := by simp
        taken := Nat.zero_le _ }

theorem reset_loader_mapLegal (c : Cause) (straps : BitVec 5) (s : State) : MapLegal (resetPart c straps s) := by
  rw [mapLegal_iff]
  constructor <;> simp [resetPart, State.reset, ConnectionMap.reset, Loader.reset]

theorem mapLegal_emitServiceWord (s : State) (h : MapLegal s) : MapLegal (emitServiceWord s) :=
  emitServiceWord_keeps (fun c straps s _ => reset_loader_mapLegal c straps s)
    (fun n s h => mapLegal_congr h (by unfold armChange; (repeat' split) <;> simp)
      (by unfold armChange; (repeat' split) <;> simp))
    (fun _ h => mapLegal_congr h rfl rfl) (fun _ h => mapLegal_congr h rfl rfl) (fun _ _ h => mapLegal_congr h rfl rfl) s h

theorem mapLegal_byEvents : ByEvents MapLegal MapLegal where
  reset c straps s _ := reset_loader_mapLegal c straps s
  word l w s h := (arriveWord_starts l w s).keeps mapLegal_of_calm mapLegal_start h
  signal l s h := mapLegal_of_calm s _ (loseSignal_calm l s) h
  timer s h := (timerExpires_starts s).keeps mapLegal_of_calm mapLegal_start h
  pulse early s h := (takePulse_starts early s).keeps mapLegal_of_calm mapLegal_start h
  miss s h := (takeMiss_starts s).keeps mapLegal_of_calm mapLegal_start h
  emitted := mapLegal_emitServiceWord
  attemptEnd := mapLegal_attemptEnds

/-- Settles O54: each piece of a step keeps the fields of `MapOk`. -/
theorem everyStepKeepsTheMapLegal : Obligations.EveryStepKeepsTheMapLegal := by
  unfold Obligations.EveryStepKeepsTheMapLegal
  exact fun s t h hstep => step_keeps mapLegal_byOwnSteps mapLegal_byEvents (fun _ _ h => mapLegal_congr h rfl rfl) hstep h

end Sys2Proof.MapKept
end

section
/-! SUPPORT. Between two starts the ACTIVE bank, the roles, the hold words and the numbering of starts stand. -/

namespace Sys2Proof.SteadyParts

open Sys2Proof.Machine Sys2Proof.Closure Sys2Proof.CalmEvents Sys2Proof.MapKept

/-- What only a start moves is in `t` as in `s`. -/
structure Steady (s t : State) : Prop where
  starts : t.starts = s.starts
  roles : t.map.active = s.map.active
  epoch : t.map.epoch = s.map.epoch
  bank : activeBank t.map = activeBank s.map
  hold : t.hold = s.hold
  number : t.timing.number = s.timing.number
  steps : t.timing.steps = s.timing.steps

variable {s t u : State}

theorem Steady.refl (s : State) : Steady s s := ⟨rfl, rfl, rfl, rfl, rfl, rfl, rfl⟩

theorem Steady.trans (h : Steady s t) (h' : Steady t u) : Steady s u :=
  ⟨h'.starts.trans h.starts, h'.roles.trans h.roles, h'.epoch.trans h.epoch, h'.bank.trans h.bank, h'.hold.trans h.hold,
    h'.number.trans h.number, h'.steps.trans h.steps⟩

theorem Steady.of_eq (hstarts : t.starts = s.starts) (hmap : t.map = s.map) (hhold : t.hold = s.hold)
    (htiming : t.timing = s.timing) : Steady s t :=
  ⟨hstarts, by rw [hmap], by rw [hmap], by rw [hmap], hhold, by rw [htiming], by rw [htiming]⟩

theorem Steady.of_calm (h : Calm s t) : Steady s t := by
  obtain ⟨hmap, hhold, -, -, -, -, -, -, -, hstarts, -⟩ := h.kept
  exact ⟨hstarts, by rw [hmap], by rw [hmap], by rw [hmap], hhold, h.number, h.steps⟩

theorem storeParam_steady (p : Param) (v : Num) (s : State) : Steady s (storeParam p v s) := by
  have htiming : (storeParam p v s).timing.number = s.timing.number ∧ (storeParam p v s).timing.steps = s.timing.steps := by
    cases p with
    | ingressEnable =>
      have h := writeIngressEnable_calm v s
      exact ⟨h.number, h.steps⟩
    | _ => exact ⟨rfl, rfl⟩
  exact ⟨by simp, by simp, by simp, by simp, by simp, htiming.1, htiming.2⟩

theorem item_steady (n : Nat) (he : ItemEffect n s t) : Steady s t := by
  cases he with
  | param p v => exact storeParam_steady p v s
  | mapWrite run => exact ⟨rfl, by simp, by simp, by simp, rfl, rfl, rfl⟩
  | mapCopy => exact ⟨rfl, rfl, rfl, rfl, rfl, rfl, rfl⟩
  | commit => exact ⟨rfl, rfl, rfl, rfl, rfl, rfl, rfl⟩
  | cancel => exact ⟨rfl, rfl, rfl, rfl, rfl, rfl, rfl⟩
  | laneReset l => exact .of_calm (resetLane_calm l s)
  | checkStop c => exact .of_calm (endChecker_calm c _ s)
  | _ => exact .of_eq (by simp) (by simp) (by simp) (by simp)

theorem steady_byExecution (b : State) : ByExecution (Steady b) where
  pop _ h := h.trans (.of_eq (by simp) (by simp) (by simp) (by simp))
  serial _ h := h.trans (.of_eq (by simp) (by simp) (by simp) (by simp))
  report _ h := h.trans (.of_eq rfl rfl rfl rfl)
  build _ _ h := h.trans (.of_eq (by simp) (by simp) (by simp) (by simp))
  place _ _ h := h.trans (.of_eq (by simp) (by simp) (by simp) (by simp))
  item n _ _ _ he h := h.trans (item_steady n he)
  reply _ _ _ h := h.trans (.of_eq (by simp) (by simp) (by simp) (by simp))
  cache _ _ h := h.trans (.of_eq (by simp) (by simp) (by simp) (by simp))
  dropGroup _ h := h.trans (.of_eq (by simp) (by simp) (by simp) (by simp))
  record _ _ _ _ h := h.trans (.of_eq rfl rfl rfl rfl)

theorem takeCopyEnd_steady (s : State) : Steady s (takeCopyEnd s) := by
  unfold takeCopyEnd
  split
  · exact .trans (t := { s with map := { s.map with copy := none } }) ⟨rfl, rfl, rfl, rfl, rfl, rfl, rfl⟩
      (.of_calm (raise_calm (by decide) _ _ _))
  · exact .refl s

theorem storeOwedAbort_steady (s : State) : Steady s (storeOwedAbort s) := by
  unfold storeOwedAbort
  split
  · exact .of_eq (by simp) (by simp) (by simp) (by simp)
  · exact .refl s

theorem steady_byOwnSteps (b : State) : ByOwnSteps (Steady b) where
  copyEnd s h := h.trans (takeCopyEnd_steady s)
  checkEnd c s h := h.trans (.of_calm (takeCheckEnd_calm c s))
  surveyEnd s h := h.trans (.of_calm (takeSurveyEnd_calm s))
  expiry _ h := h.trans (.of_eq (by simp) (by simp) (by simp) (by simp))
  attempt _ h := h.trans (.of_eq (by simp) (by simp) (by simp) (by simp))
  abort s h := h.trans (storeOwedAbort_steady s)
  build _ h := h.trans (.of_eq (by simp) (by simp) (by simp) (by simp))
  place _ h := h.trans (.of_eq (by simp) (by simp) (by simp) (by simp))
  request := executeRequest_keeps (steady_byExecution b)
  group := executeGroup_keeps (steady_byExecution b)

/-! ### Events -/

/-- Where the ordinal of starts is unchanged and not 0, what only a start moves stands. -/
def Unmoved (s t : State) : Prop := t.starts = s.starts → s.starts ≠ 0 → Steady s t

theorem atMostOneStart_unmoved (hs : Steady s t) (h : AtMostOneStart t u) : Unmoved s u := by
  cases h with
  | calm h => exact fun _ _ => hs.trans (.of_calm h)
  | start o h h' =>
    intro hstarts
    have hbefore := (hs.trans (.of_calm h)).starts
    have hafter := (Steady.of_calm h').starts
    rw [masterFrameStart_starts] at hafter
    omega

theorem applySettings_steady (im : Image) (s : State) : Steady s (applySettings im s) := by
  refine applySettings_keeps im s (fun p _ u h => h.trans ?_) (.of_eq rfl rfl rfl rfl)
  unfold applyParam
  split
  · exact storeParam_steady _ _ u
  · exact .refl u

theorem writeRuns_steady (im : Image) (s : State) : Steady s (writeRuns im s) :=
  ⟨rfl, by simp [writeRuns], by simp [writeRuns], by simp [writeRuns], rfl, rfl, rfl⟩

theorem endReload_steady (r : LoadResult) (s : State) : Steady s (endReload r s) :=
  .trans (t := { s with loader := loaderEnded s.loader.resume r s.loader }) (.of_eq rfl rfl rfl rfl)
    (.of_calm (raise_calm (by decide) _ _ _))

theorem attemptEnds_steady (octets : List Octet) (s : State) : Steady s (attemptEnds octets s) := by
  have hread : Steady s (readState octets s) := .of_eq rfl rfl rfl rfl
  have houtcome := attemptEnds_outcome octets s
  generalize attemptEnds octets s = t at houtcome ⊢
  cases houtcome with
  | none _ => exact .refl s
  | waits => exact .of_eq rfl rfl rfl rfl
  | reloadEmpty _ r => exact hread.trans (endReload_steady r _)
  | loadEmpty _ r => exact .of_eq rfl rfl rfl rfl
  | reloaded _ im => exact (hread.trans (writeRuns_steady im _)).trans (endReload_steady _ _)
  | loaded _ im =>
    have hruns := (hread.trans (applySettings_steady im _)).trans (writeRuns_steady im _)
    exact hruns.trans ⟨rfl, rfl, rfl, rfl, rfl, rfl, rfl⟩

theorem armChange_steady (n : Nat) (s : State) : Steady s (armChange n s) := by
  unfold armChange
  (repeat' split) <;> exact .of_eq (by simp) (by simp) (by simp) (by simp)

theorem emitServiceWord_unmoved (b s : State) (h : Steady b s) : Unmoved b (emitServiceWord s) := by
  have hevent : Steady b (emitServiceWord s) ∨ (emitServiceWord s).starts = 0 := by
    refine emitServiceWord_keeps (P := fun u => Steady b u ∨ u.starts = 0) (fun _ _ _ _ => .inr rfl) ?_ ?_ ?_ ?_ s (.inl h)
    · exact fun n u hu => hu.imp (fun hu => hu.trans (armChange_steady n u)) fun hu => (armChange_steady n u).starts.trans hu
    · exact fun u hu => hu.imp (fun hu => hu.trans (.of_eq rfl rfl rfl rfl)) fun hu => hu
    · exact fun u hu => hu.imp (fun hu => hu.trans (.of_eq rfl rfl rfl rfl)) fun hu => hu
    · exact fun _ u hu => hu.imp (fun hu => hu.trans (.of_eq rfl rfl rfl rfl)) fun hu => hu
  intro hstarts hne
  exact hevent.resolve_right fun h0 => hne (hstarts ▸ h0)

theorem steady_byEvents (b : State) : ByEvents (Steady b) (Unmoved b) where
  reset _ _ _ _ := fun hstarts hne => absurd hstarts.symm hne
  word l w s h := atMostOneStart_unmoved h (arriveWord_starts l w s)
  signal l s h := fun _ _ => h.trans (.of_calm (loseSignal_calm l s))
  timer s h := atMostOneStart_unmoved h (timerExpires_starts s)
  pulse early s h := atMostOneStart_unmoved h (takePulse_starts early s)
  miss s h := atMostOneStart_unmoved h (takeMiss_starts s)
  emitted s h := emitServiceWord_unmoved b s h
  attemptEnd octets s h := fun _ _ => h.trans (attemptEnds_steady octets s)

/-- Settles O25: every piece of a command but a start and a reset is steady. -/
theorem onlyAStartMovesTheActiveMap : Obligations.OnlyAStartMovesTheActiveMap := by
  unfold Obligations.OnlyAStartMovesTheActiveMap
  intro c s t h hstarts hne
  have hunmoved : Unmoved s t :=
    exec_leads (steady_byOwnSteps s) (steady_byEvents s) (fun _ h _ _ => h) h (.refl s)
  obtain ⟨-, hroles, hepoch, hbank, hhold, hnumber, hsteps⟩ := hunmoved hstarts hne
  exact ⟨hroles, hepoch, hbank, hhold, hnumber, hsteps⟩

end Sys2Proof.SteadyParts
end

section
/-! SUPPORT. What the events of the part do to the service channel, and how a property of the service channel alone is carried
through them. -/

namespace Sys2Proof.ChannelEvents

open Sys2Proof.Machine Sys2Proof.Closure Sys2Proof.CalmEvents Sys2Proof.MapKept Sys2Proof.Starts Sys2Proof.StartChannel

theorem attemptEnds_channel (octets : List Octet) (s : State) : (attemptEnds octets s).channel = s.channel := by
  have houtcome := attemptEnds_outcome octets s
  generalize attemptEnds octets s = t at houtcome ⊢
  cases houtcome with
  | none _ => rfl
  | waits => rfl
  | reloadEmpty _ r => simp [endReload, readState]
  | loadEmpty _ r => rfl
  | reloaded _ im => simp [endReload, writeRuns, readState]
  | loaded _ im =>
    obtain ⟨-, -, -, hchannel, -⟩ := applySettings_frame im (readState octets s)
    exact hchannel

theorem armChange_channel (n : Nat) (s : State) : (armChange n s).channel = s.channel := by
  unfold armChange
  (repeat' split) <;> simp

theorem takeCopyEnd_channel (s : State) : (takeCopyEnd s).channel = s.channel := by
  unfold takeCopyEnd
  split <;> simp

/-- What an item can do to the service channel. -/
theorem item_channel {n : Nat} {s t : State} (he : ItemEffect n s t) :
    t.channel = s.channel ∨ t.channel = channelAbandoned s.starts s.channel ∨
      t.channel = { s.channel with outgoing := withdrawn s.channel.outgoing } ∨ t.channel = clearedChannel s.channel := by
  cases he with
  | laneReset l => exact (resetLane_calm l s).channel.imp id .inl
  | checkStop c => exact (endChecker_calm c _ s).channel.imp id .inl
  | countsClear mask too =>
    cases too
    · exact .inl rfl
    · exact .inr (.inr (.inr rfl))
  | acknowledge => exact .inr (.inr (.inl rfl))
  | _ => exact .inl (by simp)

/-! ### Properties of the channel alone -/

section
variable {Q : Channel → Prop}

/-- A start: the lane change is taken, then parser and arbiter act, in one order or the other. -/
theorem start_keeps_channel (hbegin : ∀ s, Q s.channel → Q (beginStart s).channel)
    (hparser : ∀ d s, Q s.channel → Q (parserTakes d s).channel) (harbiter : ∀ s, Q s.channel → Q (arbiterGives s).2.channel)
    (o : Option LaneId) (s : State) (h : Q s.channel) : Q (masterFrameStart o s).channel := by
  obtain ⟨g, hg, -, hchannel⟩ := channelPart_cases o s
  rw [channel_eq, hchannel]
  have hbegun := hbegin s h
  rcases hg with rfl | ⟨-, rfl⟩
  · exact harbiter _ (hparser _ _ hbegun)
  · exact hparser _ _ (harbiter _ hbegun)

/-- The lane change of a start: nothing, or new management lanes, with or without an abandonment. -/
theorem beginStart_keeps_channel (habandon : ∀ n c, Q c → Q (channelAbandoned n c))
    (hlanes : ∀ c i e, Q c → Q { c with mgmtIngress := i, mgmtEgress := e }) (s : State) (h : Q s.channel) :
    Q (beginStart s).channel := by
  rw [beginStart_eq]
  simp only
  split
  · split
    · exact hlanes _ _ _ h
    · exact hlanes _ _ _ (habandon _ _ h)
  · exact h

theorem calm_keeps_channel (habandon : ∀ n c, Q c → Q (channelAbandoned n c)) (s t : State) (hst : Calm s t)
    (h : Q s.channel) : Q t.channel := by
  obtain hc | hc := hst.channel <;> rw [hc]
  · exact h
  · exact habandon _ _ h

/-- The events, from what a calm step, a start and a report do. -/
theorem channel_byEvents (habandon : ∀ n c, Q c → Q (channelAbandoned n c)) (hreset : Q Channel.reset)
    (hstart : ∀ o s, Q s.channel → Q (masterFrameStart o s).channel)
    (hpop : ∀ c, Q c → Q { c with outgoing := c.outgoing.tail }) :
    ByEvents (fun s => Q s.channel) (fun s => Q s.channel) where
  reset _ _ _ _ := hreset
  word l w s h := (arriveWord_starts l w s).keeps (calm_keeps_channel habandon) hstart h
  signal l s h := calm_keeps_channel habandon s _ (loseSignal_calm l s) h
  timer s h := (timerExpires_starts s).keeps (calm_keeps_channel habandon) hstart h
  pulse early s h := (takePulse_starts early s).keeps (calm_keeps_channel habandon) hstart h
  miss s h := (takeMiss_starts s).keeps (calm_keeps_channel habandon) hstart h
  emitted s h := by
    refine emitServiceWord_keeps (P := fun s => Q s.channel) (fun _ _ _ _ => hreset) (fun n s h => ?_) (fun _ h => h)
      (fun s h => hpop _ h) (fun _ _ h => h) s h
    rwa [armChange_channel]
  attemptEnd octets s h := by
    rw [attemptEnds_channel]
    exact h

end

end Sys2Proof.ChannelEvents
end

section
/-! SUPPORT. The words of forwarded messages in the FIFO through every step (R111, R119). -/

namespace Sys2Proof.ForwardKept

open Sys2Proof.Machine Sys2Proof.Closure Sys2Proof.CalmEvents Sys2Proof.ChannelEvents

/-! ### The scan -/

theorem scanForward_append (ws vs : List Word) :
    ∀ inside, scanForward inside (ws ++ vs) = (scanForward inside ws).bind fun i => scanForward i vs := by
  induction ws with
  | nil => intro inside; cases inside <;> rfl
  | cons w ws ih =>
    intro inside
    cases inside <;> cases hk : wordKind w <;> simp [scanForward, hk, ih]

theorem scan_head {w : Word} (h : wordKind w = .head) : scanForward false [w] = some true := by simp [scanForward, h]

theorem scan_body {w : Word} (h : wordKind w = .body) : scanForward true [w] = some true := by simp [scanForward, h]

theorem scan_end {w : Word} (h : wordKind w = .tail ∨ wordKind w = .abort) : scanForward true [w] = some false := by
  rcases h with h | h <;> simp [scanForward, h]

theorem wordKind_abortWord : wordKind abortWord = .abort := by decide

/-- Where the scan of the FIFO ends. -/
def scanned (c : Channel) : Option Bool :=
  scanForward (decide (c.arbiter = .sendingForward)) (c.fifo.map fun f => f.word)

/-- The channel's forwarded words are in form. -/
def InForm (c : Channel) : Prop :=
  scanned c = some (parserStoring c || c.abortOwed) ∧ (parserStoring c && c.abortOwed) = false

theorem scanned_push {c c' : Channel} {i j : Bool} {w : Word} {n : Nat} (h : scanned c = some i)
    (hw : scanForward i [w] = some j) (hfifo : c'.fifo = c.fifo ++ [{ word := w, entered := n }])
    (harbiter : c'.arbiter = c.arbiter) : scanned c' = some j := by
  unfold scanned at h ⊢
  rw [harbiter, hfifo, List.map_append, scanForward_append, h]
  exact hw

/-- Of the channel only FIFO, arbiter, parser and the owed ABORT matter. -/
theorem InForm.congr {c c' : Channel} (h : InForm c) (hfifo : c'.fifo = c.fifo)
    (harbiter : c'.arbiter = .sendingForward ↔ c.arbiter = .sendingForward) (hparser : parserStoring c' = parserStoring c)
    (howed : c'.abortOwed = c.abortOwed) : InForm c' := by
  unfold InForm scanned at h ⊢
  simpa only [hfifo, harbiter, hparser, howed] using h

/-- No copy is being stored, and no ABORT is owed. -/
theorem InForm.of_ended {c : Channel} (hscan : scanned c = some false) (hstoring : parserStoring c = false)
    (howed : c.abortOwed = false) : InForm c := by
  simp [InForm, hscan, hstoring, howed]

/-- No copy is being stored, and an ABORT is owed. -/
theorem InForm.of_owed {c : Channel} (hscan : scanned c = some true) (hstoring : parserStoring c = false)
    (howed : c.abortOwed = true) : InForm c := by
  simp [InForm, hscan, hstoring, howed]

/-- A copy is being stored. -/
theorem InForm.of_storing {c : Channel} (hscan : scanned c = some true) (hstoring : parserStoring c = true)
    (howed : c.abortOwed = false) : InForm c := by
  simp [InForm, hscan, hstoring, howed]

theorem InForm.storing {c : Channel} (h : InForm c) (hs : parserStoring c = true) :
    scanned c = some true ∧ c.abortOwed = false := by
  obtain ⟨hscan, hnot⟩ := h
  simp_all

theorem InForm.owed {c : Channel} (h : InForm c) (ho : c.abortOwed = true) :
    scanned c = some true ∧ parserStoring c = false := by
  obtain ⟨hscan, hnot⟩ := h
  simp_all

theorem InForm.ended {c : Channel} (h : InForm c) (hs : parserStoring c = false) (ho : c.abortOwed = false) :
    scanned c = some false := by
  obtain ⟨hscan, -⟩ := h
  simp_all

/-! ### The parser -/

theorem inForm_abandoned (n : Nat) (c : Channel) (h : InForm c) : InForm (channelAbandoned n c) := by
  unfold channelAbandoned
  cases hp : c.parser with
  | none => exact h
  | some m =>
    cases hm : m.storing with
    | false =>
      simp only [hm, if_true]
      exact h.congr rfl Iff.rfl (by simp [parserStoring, hp, hm]) rfl
    | true =>
      obtain ⟨hscan, howed⟩ := h.storing (by simp [parserStoring, hp, hm])
      simp only [hm, Bool.true_eq_false, if_false]
      split
      · exact .of_ended (scanned_push hscan (scan_end (.inr wordKind_abortWord)) rfl rfl) rfl howed
      · exact .of_owed hscan rfl rfl

theorem inForm_abandonMessage (s : State) (h : InForm s.channel) : InForm (abandonMessage s).channel := by
  rw [StartChannel.abandonMessage_eq]
  exact inForm_abandoned _ _ h

/-- A HEAD taken in BETWEEN. -/
theorem inForm_openMessage (w : Word) (s : State) (h : InForm s.channel) (hclosed : s.channel.parser = none)
    (hw : wordKind w = .head) : InForm (openMessage w s).channel := by
  have hidle : parserStoring s.channel = false := by simp [parserStoring, hclosed]
  unfold openMessage
  split
  · next hconsume => exact h.congr rfl Iff.rfl (by simp [parserStoring, openedMessage, hconsume, hclosed]) rfl
  · next hforward =>
    unfold forwardHead
    cases hr : headRefused s with
    | true =>
      exact h.congr (by simp [overflowWord]) (by simp [overflowWord])
        (by simp [parserStoring, openedMessage, hr, hclosed]) (by simp [overflowWord])
    | false =>
      have howed : s.channel.abortOwed = false := by
        rw [headRefused, Bool.or_eq_false_iff] at hr
        exact hr.2
      refine .of_storing (scanned_push (h.ended hidle howed) (scan_head hw) rfl rfl) ?_ howed
      simp [parserStoring, openedMessage, hr, hforward]

/-- A later word of the open message, behind which the parser is in `p`. -/
theorem inForm_forwardLater {m : OpenMessage} {p : Option OpenMessage} {w : Word} {i : Bool} (s : State)
    (h : InForm s.channel) (hopen : s.channel.parser = some m) (hw : scanForward true [w] = some i)
    (hp : ∀ c : Channel, parserStoring { c with parser := p } = (i && stillStoring m.storing s)) :
    InForm (setParser p (forwardLater m.storing w s)).channel := by
  unfold forwardLater
  unfold stillStoring at hp
  cases hm : m.storing with
  | false => exact h.congr rfl Iff.rfl ((hp _).trans (by simp [hm, parserStoring, hopen])) rfl
  | true =>
    obtain ⟨hscan, howed⟩ := h.storing (by simp [parserStoring, hopen, hm])
    cases hf : fifoFull s with
    | true =>
      refine .of_owed ?_ ((hp _).trans (by simp [hf])) rfl
      simpa [scanned, overflowWord] using hscan
    | false =>
      have hscan' := scanned_push (c' := (setParser p (pushWord w s)).channel) hscan hw rfl rfl
      cases i with
      | true => exact .of_storing hscan' ((hp _).trans (by simp [hm, hf])) howed
      | false => exact .of_ended hscan' ((hp _).trans (by simp)) howed

/-- The open message is closed, a copy being stored ended by an ABORT. -/
theorem inForm_closed {m : OpenMessage} (s : State) (h : InForm s.channel) (hopen : s.channel.parser = some m) :
    InForm (setParser none (if m.storing then placeAbort s else s)).channel := by
  have hclosed : abandonMessage s = setParser none (if m.storing then placeAbort s else s) := by
    unfold abandonMessage
    rw [hopen]
  rw [← hclosed]
  exact inForm_abandonMessage s h

theorem inForm_takeBody (w : Word) (m : OpenMessage) (s : State) (h : InForm s.channel) (hopen : s.channel.parser = some m)
    (hw : wordKind w = .body) : InForm (takeBody w m s).channel := by
  unfold takeBody
  split
  · exact inForm_forwardLater s h hopen (scan_body hw) fun _ => by simp [parserStoring]
  · exact inForm_closed s h hopen

/-- Arrivals at the intake touch neither FIFO, arbiter, parser nor the owed ABORT. -/
theorem judgeMessage_form (m : OpenMessage) (w : Word) (s : State) :
    (judgeMessage m w s).channel.fifo = s.channel.fifo ∧ (judgeMessage m w s).channel.arbiter = s.channel.arbiter ∧
      (judgeMessage m w s).channel.parser = s.channel.parser ∧
      (judgeMessage m w s).channel.abortOwed = s.channel.abortOwed := by
  unfold judgeMessage unicastArrives groupArrives answerOrDrop dropRequest
  (repeat' split) <;> simp

theorem inForm_takeTail (w : Word) (m : OpenMessage) (s : State) (h : InForm s.channel) (hopen : s.channel.parser = some m)
    (hw : wordKind w = .tail) : InForm (takeTail w m s).channel := by
  have hclosed : InForm (setParser none (forwardLater m.storing w s)).channel :=
    inForm_forwardLater s h hopen (scan_end (.inl hw)) fun _ => rfl
  obtain ⟨hfifo, harbiter, hparser, howed⟩ := judgeMessage_form m w (setParser none (forwardLater m.storing w s))
  exact hclosed.congr hfifo (by rw [takeTail, harbiter]) (by rw [takeTail, parserStoring, hparser]; rfl) howed

theorem wordKind_of_heardKind {g : Heard} {k : WordKind} (h : heardKind g = k) (hk : k ≠ .malformed) :
    wordKind g.content = k := by
  unfold heardKind at h
  split at h
  · exact absurd h.symm hk
  · exact h

theorem inForm_parseWord (g : Heard) (s : State) (h : InForm s.channel) : InForm (parseWord g s).channel := by
  have hkind : ∀ {k : WordKind}, heardKind g = k → k ≠ .malformed → wordKind g.content = k := wordKind_of_heardKind
  have hstray : InForm (strayWord s).channel := h.congr rfl Iff.rfl rfl rfl
  unfold parseWord
  split
  · exact h
  · next hk hp => exact inForm_openMessage _ s h hp (hkind hk (by decide))
  · next hk _ =>
    exact inForm_openMessage _ _ (inForm_abandonMessage s h) (abandonMessage_parser s) (hkind hk (by decide))
  · next hk hp => exact inForm_takeBody _ _ s h hp (hkind hk (by decide))
  · next hk hp => exact inForm_takeTail _ _ s h hp (hkind hk (by decide))
  · exact hstray
  · exact hstray
  · exact hstray
  · exact h
  · exact inForm_abandonMessage s h
  · exact inForm_abandonMessage s h

theorem inForm_parserTakes (d : Tab 16 (Option FrameRecord)) (s : State) (h : InForm s.channel) :
    InForm (parserTakes d s).channel := by
  unfold parserTakes
  split
  · exact inForm_parseWord _ s h
  · exact h

/-! ### The arbiter -/

/-- The head of the FIFO is given: it begins a message in BETWEEN and goes on with one in SENDING from FORWARD. -/
theorem inForm_giveForward {w : Word} (s : State) (h : InForm s.channel) (hw : fifoReady s = some w) :
    InForm (giveForward w s).2.channel := by
  unfold fifoReady at hw
  split at hw
  case h_2 => cases hw
  case h_1 f rest hfifo =>
    split at hw
    · obtain rfl := Option.some.inj hw
      unfold InForm scanned at h ⊢
      obtain ⟨hscan, hnot⟩ := h
      refine ⟨?_, hnot⟩
      change _ = some (parserStoring s.channel || s.channel.abortOwed)
      rw [← hscan, hfifo]
      simp only [giveForward, hfifo, List.tail_cons, List.map_cons]
      rw [hfifo, List.map_cons] at hscan
      by_cases ha : s.channel.arbiter = .sendingForward <;> cases hk : wordKind f.word <;>
        simp_all [scanForward]
    · cases hw

/-- A local message is given: the arbiter is not in SENDING from FORWARD, before or after. -/
theorem inForm_giveLocal (s : State) (h : InForm s.channel) (ha : s.channel.arbiter ≠ .sendingForward) :
    InForm (giveLocal s).2.channel := by
  unfold giveLocal
  split
  · exact h.congr rfl (by simp [ha]) rfl rfl
  · refine h.congr rfl ?_ rfl rfl
    simp only [ha, iff_false]
    split <;> simp

theorem inForm_setPassOver (n : Nat) (s : State) (h : InForm s.channel) : InForm (setPassOver n s).channel :=
  h.congr rfl Iff.rfl rfl rfl

theorem inForm_arbiterGives (s : State) (h : InForm s.channel) : InForm (arbiterGives s).2.channel := by
  unfold arbiterGives
  split
  · next ha =>
    have hlocal : ∀ n, InForm (giveLocal (setPassOver n s)).2.channel := fun n =>
      inForm_giveLocal _ (inForm_setPassOver n s h) (by simp [ha])
    unfold chooseMessage
    split
    · next hw _ => exact inForm_giveForward s h hw
    · exact hlocal 0
    · next hw _ =>
      split
      · exact inForm_giveForward _ (inForm_setPassOver _ s h) hw
      · exact hlocal 0
    · exact h
  · split
    · next hw => exact inForm_giveForward s h hw
    · exact h
  · next ha => exact inForm_giveLocal s h (by simp [ha])

theorem inForm_start (o : Option LaneId) (s : State) (h : InForm s.channel) : InForm (masterFrameStart o s).channel :=
  start_keeps_channel (beginStart_keeps_channel inForm_abandoned fun _ _ _ h => h.congr rfl Iff.rfl rfl rfl)
    inForm_parserTakes inForm_arbiterGives o s h

/-! ### Steps -/

theorem inForm_item (n : Nat) (s t : State) (he : ItemEffect n s t) (h : InForm s.channel) : InForm t.channel := by
  obtain hc | hc | hc | hc := item_channel he <;> rw [hc]
  · exact h
  · exact inForm_abandoned _ _ h
  · exact h.congr rfl Iff.rfl rfl rfl
  · exact h.congr rfl Iff.rfl rfl rfl

theorem inForm_byExecution : ByExecution fun s => InForm s.channel where
  pop _ h := h.congr rfl Iff.rfl rfl rfl
  serial _ h := h.congr rfl Iff.rfl rfl rfl
  report _ h := h
  build r s h := by
    obtain ⟨-, h'⟩ | ⟨-, h'⟩ := buildNotice_cases s r <;> rw [h']
    · exact h
    · exact h.congr rfl Iff.rfl rfl rfl
  place r s h := by
    obtain ⟨-, h'⟩ | ⟨-, m, -, h'⟩ := placeCopy_cases s r <;> rw [h']
    · exact h
    · exact h.congr rfl Iff.rfl rfl rfl
  item n s t _ he h := inForm_item n s t he h
  reply _ _ _ h := h.congr rfl Iff.rfl rfl rfl
  cache _ _ h := h.congr rfl Iff.rfl rfl rfl
  dropGroup _ h := h.congr rfl Iff.rfl rfl rfl
  record _ _ _ _ h := h.congr rfl Iff.rfl rfl rfl

theorem inForm_storeOwedAbort (s : State) (h : InForm s.channel) : InForm (storeOwedAbort s).channel := by
  unfold storeOwedAbort
  split
  · next hdue =>
    rw [abortDue, Bool.and_eq_true] at hdue
    obtain ⟨hscan, hstoring⟩ := h.owed hdue.1
    exact .of_ended (scanned_push hscan (scan_end (.inr wordKind_abortWord)) rfl rfl) hstoring rfl
  · exact h

theorem inForm_byOwnSteps : ByOwnSteps fun s => InForm s.channel where
  copyEnd s h := by
    rw [takeCopyEnd_channel]
    exact h
  checkEnd c s h := calm_keeps_channel inForm_abandoned s _ (takeCheckEnd_calm c s) h
  surveyEnd s h := calm_keeps_channel inForm_abandoned s _ (takeSurveyEnd_calm s) h
  expiry s h := by simpa using h
  attempt s h := by simpa using h
  abort := inForm_storeOwedAbort
  build := inForm_byExecution.build 0
  place := inForm_byExecution.place 0
  request := executeRequest_keeps inForm_byExecution
  group := executeGroup_keeps inForm_byExecution

theorem inForm_byEvents : ByEvents (fun s => InForm s.channel) (fun s => InForm s.channel) :=
  channel_byEvents inForm_abandoned (.of_ended rfl rfl rfl) inForm_start fun _ h => h.congr rfl Iff.rfl rfl rfl

/-- Settles O55: the scan of the FIFO through every piece of a step. -/
theorem everyStepKeepsForwardedMessagesWhole : Obligations.EveryStepKeepsForwardedMessagesWhole := by
  unfold Obligations.EveryStepKeepsForwardedMessagesWhole
  intro s t h hstep
  exact step_keeps inForm_byOwnSteps inForm_byEvents (fun _ _ h => h) hstep h

end Sys2Proof.ForwardKept
end

section
/-! SUPPORT. What the write of a parameter does to the parameters and to the generators. -/

namespace Sys2Proof.ParamStores

open Sys2Proof.Machine Sys2Proof.CalmEvents

/-- The parameters after one is written. -/
def storedParams (p : Param) (v : Num) (q : Params) : Params :=
  match p with
  | .deviceAddress | .mgmtIngress | .mgmtEgress | .genKind _ => q
  | .timingPrimary => { q with timingPrimary := v }
  | .timingSecondary => { q with timingSecondary := v }
  | .timingRevert => { q with timingRevert := v }
  | .qualifyFrames => { q with qualifyFrames := v }
  | .refinMiss => { q with refinMiss := v }
  | .ingressEnable => { q with ingressEnable := v }
  | .egressEnable => { q with egressEnable := v }
  | .confirmCount => { q with confirmCount := v }
  | .missLimit => { q with missLimit := v }
  | .noticeMask => { q with noticeMask := heldMask v }
  | .noticeWait => { q with noticeWait := v }
  | .noticeRetries => { q with noticeRetries := v }
  | .group i => { q with groups := q.groups.set i v }

/-- The generators after a parameter is written. -/
def storedGenerators (p : Param) (v : Num) (g : Tab 4 Generator) : Tab 4 Generator :=
  match p with
  | .genKind i => g.set i (seeded ((genKindOf v).getD none))
  | _ => g

theorem writeIngressEnable_params (v : Num) (s : State) :
    (writeIngressEnable v s).params = { s.params with ingressEnable := v } := by
  obtain ⟨-, -, -, -, -, -, hparams, -⟩ := (writeIngressEnable_calm v s).kept
  exact hparams

theorem writeIngressEnable_generators (v : Num) (s : State) : (writeIngressEnable v s).generators = s.generators := by
  obtain ⟨-, -, -, hgenerators, -⟩ := (writeIngressEnable_calm v s).kept
  exact hgenerators

theorem storeParam_params (p : Param) (v : Num) (s : State) :
    (storeParam p v s).params = storedParams p v s.params := by
  cases p with
  | ingressEnable => exact writeIngressEnable_params v s
  | _ => rfl

theorem storeParam_generators (p : Param) (v : Num) (s : State) :
    (storeParam p v s).generators = storedGenerators p v s.generators := by
  cases p with
  | ingressEnable => exact writeIngressEnable_generators v s
  | _ => rfl

end Sys2Proof.ParamStores
end

section
/-! SUPPORT. The enable bits of the management lanes through every step (R17, R85, R122, R139). -/

namespace Sys2Proof.ManagementKept

open Sys2Proof.Machine Sys2Proof.Closure Sys2Proof.CalmEvents Sys2Proof.MapKept Sys2Proof.ChannelEvents
open Sys2Proof.Starts Sys2Proof.StartChannel Sys2Proof.ParamStores

theorem keepsEgress_iff (v : Num) (s : State) :
    keepsEgress v s = true ↔
      inMask v s.channel.mgmtEgress = true ∧
        ∀ l, (s.dispatcher.change.bind fun c => c.egress) = some l → inMask v l = true := by
  unfold keepsEgress
  cases s.dispatcher.change with
  | none => simp
  | some c => cases h : c.egress <;> simp [h]

/-- Of the state only the enables, the management lanes, the pending new egress lane and the device state matter. -/
theorem management_congr {s t : State} (h : ManagementEnabled s) (hingress : t.params.ingressEnable = s.params.ingressEnable)
    (hegress : t.params.egressEnable = s.params.egressEnable) (hin : t.channel.mgmtIngress = s.channel.mgmtIngress)
    (hout : t.channel.mgmtEgress = s.channel.mgmtEgress)
    (hchange : ∀ l, (t.dispatcher.change.bind fun c => c.egress) = some l →
      (s.dispatcher.change.bind fun c => c.egress) = some l)
    (hloading : operating t = false → operating s = false) : ManagementEnabled t := by
  obtain ⟨h₁, h₂, h₃⟩ := h
  rw [keepsEgress_iff] at h₂
  refine ⟨by rwa [hingress, hin], (keepsEgress_iff _ _).2 ?_, fun hop => by rw [hegress]; exact h₃ (hloading hop)⟩
  rw [hegress, hout]
  exact ⟨h₂.1, fun l hl => h₂.2 l (hchange l hl)⟩

theorem management_of_eq {s t : State} (h : ManagementEnabled s) (hparams : t.params = s.params)
    (hin : t.channel.mgmtIngress = s.channel.mgmtIngress) (hout : t.channel.mgmtEgress = s.channel.mgmtEgress)
    (hdispatcher : t.dispatcher.change = s.dispatcher.change) (hloader : t.loader.state = s.loader.state) :
    ManagementEnabled t :=
  management_congr h (by rw [hparams]) (by rw [hparams]) hin hout (fun l hl => by rwa [hdispatcher] at hl)
    (fun hop => by simpa only [operating, hloader] using hop)

theorem channelAbandoned_lanes (n : Nat) (c : Channel) :
    (channelAbandoned n c).mgmtIngress = c.mgmtIngress ∧ (channelAbandoned n c).mgmtEgress = c.mgmtEgress := by
  unfold channelAbandoned
  (repeat' split) <;> simp

theorem management_of_calm (s t : State) (hst : Calm s t) (h : ManagementEnabled s) : ManagementEnabled t := by
  obtain ⟨-, -, -, -, hdispatcher, hloader, hparams, -⟩ := hst.kept
  have hlanes : t.channel.mgmtIngress = s.channel.mgmtIngress ∧ t.channel.mgmtEgress = s.channel.mgmtEgress := by
    obtain hc | hc := hst.channel <;> rw [hc]
    · exact ⟨rfl, rfl⟩
    · exact channelAbandoned_lanes _ _
  exact management_of_eq h hparams hlanes.1 hlanes.2 (by rw [hdispatcher]) (by rw [hloader])

/-! ### A start -/

theorem management_beginStart (s : State) (h : ManagementEnabled s) : ManagementEnabled (beginStart s) := by
  obtain ⟨hingress, hegress, hloading⟩ := h
  obtain ⟨hout, hnew⟩ := (keepsEgress_iff _ _).1 hegress
  have hnewEgress : inMask s.params.egressEnable (newEgress s) = true := by
    unfold newEgress
    cases hc : s.dispatcher.change.bind fun c => c.egress with
    | none => exact hout
    | some l => exact hnew l hc
  rw [beginStart_eq]
  refine ⟨?_, (keepsEgress_iff _ _).2 ⟨?_, fun l hl => ?_⟩, hloading⟩
  · simp only
    split
    · next hdue => exact hdue.2
    · exact hingress
  · simp only
    split
    · exact hnewEgress
    · exact hout
  · simp only at hl
    split at hl
    · simp at hl
    · exact hnew l hl

theorem management_start (o : Option LaneId) (s : State) (h : ManagementEnabled s) :
    ManagementEnabled (masterFrameStart o s) := by
  have hroles := masterFrameStart_roles o s
  refine management_of_eq (management_beginStart s h) (by simp) hroles.ingress hroles.egress (by rw [dispatcher_eq]) ?_
  rw [loader_eq, (tickLoader_frame _).1, beginStart_eq]

/-! ### Items -/

theorem ownChange_egress (n : Nat) (s : State) :
    (ownChange n s).egress = s.dispatcher.change.bind fun c => c.egress := by
  unfold ownChange
  cases s.dispatcher.change <;> rfl

theorem holdChange_egress {c : LaneChange} {s : State} {l : LaneId}
    (h : ((holdChange c s).dispatcher.change.bind fun c => c.egress) = some l) : c.egress = some l := by
  unfold holdChange setChange at h
  simp only at h
  split at h
  · simp at h
  · exact h

theorem management_item (n : Nat) (s t : State) (hop : operating s = true) (he : ItemEffect n s t)
    (h : ManagementEnabled s) : ManagementEnabled t := by
  have hrunning := operating_of_effect he hop
  cases he with
  | param p v hrange hin hout =>
    obtain ⟨h₁, h₂, -⟩ := h
    refine ⟨?_, ?_, fun hloading => by simp [hrunning] at hloading⟩
    · rw [storeParam_params, (storeParam_frame s p v).2.2.2.1]
      cases p with
      | ingressEnable => exact hin rfl
      | _ => exact h₁
    · rw [keepsEgress_iff] at h₂ ⊢
      rw [storeParam_params, (storeParam_frame s p v).2.2.2.1, (storeParam_frame s p v).2.2.2.2.1]
      cases p with
      | egressEnable => exact (keepsEgress_iff _ _).1 (hout rfl)
      | _ => exact h₂
  | ingress lane helse =>
    refine management_congr h (by simp) (by simp) (by simp) (by simp) (fun l hl => ?_) (by simp [operating])
    rw [← ownChange_egress n s]
    exact holdChange_egress (c := { ownChange n s with ingress := lane }) hl
  | egress lane helse hlane =>
    obtain ⟨h₁, h₂, h₃⟩ := h
    rw [keepsEgress_iff] at h₂
    refine ⟨by simpa using h₁, (keepsEgress_iff _ _).2 ⟨by simpa using h₂.1, fun l hl => ?_⟩, by simpa [operating] using h₃⟩
    simpa using hlane l (holdChange_egress hl)
  | laneReset l => exact management_of_calm _ _ (resetLane_calm l s) h
  | countsClear mask too =>
    refine management_of_eq h rfl ?_ ?_ rfl rfl <;> cases too <;> rfl
  | checkStop c => exact management_of_calm _ _ (endChecker_calm c _ s) h
  | reload => exact management_congr h rfl rfl rfl rfl (fun _ hl => hl) (fun hl => by simp [hrunning] at hl)
  | restart =>
    refine management_congr h rfl rfl rfl rfl (fun l hl => ?_) (fun hl => hl)
    cases hc : s.dispatcher.change with
    | none => simp [hc] at hl
    | some c =>
      simp only [hc, Option.filter] at hl
      split at hl
      · exact hl
      · simp at hl
  | _ => exact management_of_eq h rfl rfl rfl rfl rfl

theorem management_byExecution : ByExecution ManagementEnabled where
  pop _ h := management_of_eq h rfl rfl rfl rfl rfl
  serial _ h := management_of_eq h rfl rfl rfl rfl rfl
  report _ h := management_of_eq h rfl rfl rfl rfl rfl
  build r s h := by
    obtain ⟨-, h'⟩ | ⟨-, h'⟩ := buildNotice_cases s r <;> rw [h']
    · exact h
    · exact management_of_eq h rfl rfl rfl rfl rfl
  place r s h := by
    obtain ⟨-, h'⟩ | ⟨-, m, -, h'⟩ := placeCopy_cases s r <;> rw [h']
    · exact h
    · exact management_of_eq h rfl rfl rfl rfl rfl
  item := management_item
  reply _ _ _ h := management_of_eq h rfl rfl rfl rfl rfl
  cache _ _ h := management_of_eq h rfl rfl rfl rfl rfl
  dropGroup _ h := management_of_eq h rfl rfl rfl rfl rfl
  record _ _ _ _ h := management_of_eq h rfl rfl rfl rfl rfl

/-! ### Own steps and events -/

theorem takeCopyEnd_loader (s : State) : (takeCopyEnd s).loader = s.loader := by
  unfold takeCopyEnd
  split <;> simp

theorem takeCopyEnd_management (s : State) (h : ManagementEnabled s) : ManagementEnabled (takeCopyEnd s) := by
  unfold takeCopyEnd
  split
  · exact management_of_eq h (by simp) (by simp) (by simp) (by simp) (by simp)
  · exact h

theorem beginAttempt_management (s : State) (h : ManagementEnabled s) : ManagementEnabled (beginAttempt s) := by
  unfold beginAttempt
  split
  · exact management_of_eq h rfl rfl rfl rfl rfl
  · exact h

theorem storeOwedAbort_management (s : State) (h : ManagementEnabled s) : ManagementEnabled (storeOwedAbort s) := by
  unfold storeOwedAbort
  split
  · exact management_of_eq h rfl rfl rfl rfl rfl
  · exact h

theorem management_byOwnSteps : ByOwnSteps fun s => MapLegal s ∧ ManagementEnabled s where
  copyEnd s h := ⟨mapLegal_copyEnd s h.1, takeCopyEnd_management s h.2⟩
  checkEnd c s h := ⟨mapLegal_byOwnSteps.checkEnd c s h.1, management_of_calm s _ (takeCheckEnd_calm c s) h.2⟩
  surveyEnd s h := ⟨mapLegal_byOwnSteps.surveyEnd s h.1, management_of_calm s _ (takeSurveyEnd_calm s) h.2⟩
  expiry s h :=
    ⟨mapLegal_byOwnSteps.expiry s h.1, management_of_eq h.2 (by simp) (by simp) (by simp) (by simp) (by simp)⟩
  attempt s h := ⟨mapLegal_byOwnSteps.attempt s h.1, beginAttempt_management s h.2⟩
  abort s h := ⟨mapLegal_byOwnSteps.abort s h.1, storeOwedAbort_management s h.2⟩
  build s h := ⟨mapLegal_byOwnSteps.build s h.1, management_byExecution.build 0 s h.2⟩
  place s h := ⟨mapLegal_byOwnSteps.place s h.1, management_byExecution.place 0 s h.2⟩
  request s h := ⟨mapLegal_byOwnSteps.request s h.1, executeRequest_keeps management_byExecution s h.2⟩
  group s h := ⟨mapLegal_byOwnSteps.group s h.1, executeGroup_keeps management_byExecution s h.2⟩

theorem inMask_withLane (v : Num) (l k : LaneId) : inMask (withLane v l) k = (inMask v k || decide (k = l)) := by
  have hk : k.val < 16 := k.isLt
  have hbit : (1#16 <<< l.val).getLsbD k.val = decide (k = l) := by
    simp only [BitVec.getLsbD_shiftLeft, Fin.ext_iff]
    by_cases h : k.val = l.val
    · simp [h]
    · by_cases hlt : k.val < l.val
      · simp [hlt, h]
      · have hpos : k.val - l.val ≠ 0 := by omega
        simp [h, hlt, BitVec.getLsbD_one, hpos]
  rw [inMask, withLane, BitVec.getLsbD_or, hbit]
  rfl

theorem inMask_forcedMask (v : Num) (current : LaneId) (named : Option LaneId) :
    inMask (forcedMask v current named) current = true ∧
      ∀ l, named = some l → inMask (forcedMask v current named) l = true := by
  cases named with
  | none => simp [forcedMask, inMask_withLane]
  | some k => simp [forcedMask, inMask_withLane]

/-- What the settings of an image keep of the management lanes' enables: the lanes in force and the egress lane named. -/
structure Forced (im : Image) (s u : State) : Prop where
  channel : u.channel = s.channel
  ingress : inMask u.params.ingressEnable s.channel.mgmtIngress = true
  egress : inMask u.params.egressEnable s.channel.mgmtEgress = true
  named : ∀ l, imageLane .mgmtEgress s.channel.mgmtEgress im = some l → inMask u.params.egressEnable l = true

theorem applyParam_forced {im : Image} {s u : State} (p : Param) (h : Forced im s u) : Forced im s (applyParam im u p) := by
  unfold applyParam
  split
  case h_2 => exact h
  case h_1 v hv =>
    have hchannel : (storeParam p v u).channel = s.channel := by rw [(storeParam_frame u p v).2.2.2.1, h.channel]
    cases p with
    | ingressEnable =>
      simp only [appliedValue, h.channel, Option.map_eq_some_iff] at hv
      obtain ⟨w, -, rfl⟩ := hv
      exact ⟨hchannel, by rw [storeParam_params]; exact (inMask_forcedMask _ _ _).1, by rw [storeParam_params]; exact h.egress,
        by rw [storeParam_params]; exact h.named⟩
    | egressEnable =>
      simp only [appliedValue, h.channel, Option.map_eq_some_iff] at hv
      obtain ⟨w, -, rfl⟩ := hv
      exact ⟨hchannel, by rw [storeParam_params]; exact h.ingress, by rw [storeParam_params]; exact (inMask_forcedMask _ _ _).1,
        by rw [storeParam_params]; exact (inMask_forcedMask _ _ _).2⟩
    | _ =>
      exact ⟨hchannel, by rw [storeParam_params]; exact h.ingress, by rw [storeParam_params]; exact h.egress,
        by rw [storeParam_params]; exact h.named⟩

theorem applySettings_forced (im : Image) (s : State) (h : ManagementEnabled s)
    (hall : s.params.egressEnable = 0xFFFF#16) : Forced im s (applySettings im s) := by
  have hevery : ∀ l : LaneId, inMask 0xFFFF#16 l = true := by decide
  refine applySettings_keeps im s (fun p _ u hu => applyParam_forced p hu) ⟨rfl, h.1, ?_, fun l _ => ?_⟩
  · exact ((keepsEgress_iff _ _).1 h.2.1).1
  · change inMask s.params.egressEnable l = true
    rw [hall]
    exact hevery l

theorem management_applyImage (im : Image) (s : State) (h : ManagementEnabled s) (hloading : operating s = false) :
    ManagementEnabled (applyImage im s) := by
  have hforced := applySettings_forced im s h (h.2.2 hloading)
  obtain ⟨-, -, -, -, -, -, -, -, -, hdispatcher, -⟩ := applySettings_frame im s
  have hchange : (imageChange im s).bind (fun c => c.egress) = imageLane .mgmtEgress s.channel.mgmtEgress im := by
    unfold imageChange
    split
    · next hnone => simpa using (Option.isNone_iff_eq_none.1 hnone.2).symm
    · rfl
  refine ⟨?_, (keepsEgress_iff _ _).2 ⟨?_, fun l hl => ?_⟩, ?_⟩
  · change inMask (applySettings im s).params.ingressEnable (applySettings im s).channel.mgmtIngress = true
    rw [hforced.channel]
    exact hforced.ingress
  · change inMask (applySettings im s).params.egressEnable (applySettings im s).channel.mgmtEgress = true
    rw [hforced.channel]
    exact hforced.egress
  · change ((applySettings im s).dispatcher.change.bind fun c => c.egress) = some l at hl
    rw [hdispatcher] at hl
    exact hforced.named l (hchange ▸ hl)
  · exact fun hop => by simp [applyImage, raiseStartUp, loaderEnded, operating] at hop

theorem management_attemptEnds (octets : List Octet) (s : State) (hmap : MapLegal s) (h : ManagementEnabled s) :
    ManagementEnabled (attemptEnds octets s) := by
  rw [mapLegal_iff] at hmap
  have hread : ManagementEnabled (readState octets s) :=
    management_of_eq h rfl rfl rfl rfl (by rw [readState_loader])
  have hresume : reloading s = true → ∀ u : State, u.params = s.params → u.channel = s.channel →
      u.dispatcher = s.dispatcher → u.loader = (readState octets s).loader → ∀ r, ManagementEnabled (endReload r u) := by
    intro hr u hparams hchannel hdispatcher hloader r
    have hback := hmap.resume (by simpa [reloading] using hr)
    refine management_congr h (by simp [endReload, hparams]) (by simp [endReload, hparams]) (by simp [endReload, hchannel])
      (by simp [endReload, hchannel]) (fun l hl => by simpa [endReload, hdispatcher] using hl) fun hop => ?_
    have hresumed : u.loader.resume = s.loader.resume := by rw [hloader, readState_loader]
    rcases hback with hback | hback <;> simp [operating, endReload, loaderEnded, hresumed, hback] at hop
  have houtcome := attemptEnds_outcome octets s
  generalize attemptEnds octets s = t at houtcome ⊢
  cases houtcome with
  | none _ => exact h
  | waits => exact management_of_eq hread rfl rfl rfl rfl rfl
  | reloadEmpty _ r hr => exact hresume hr (readState octets s) rfl rfl rfl rfl r
  | loadEmpty _ r =>
    exact management_congr hread rfl rfl rfl rfl (fun _ hl => hl)
      (fun hop => by simp [operating, endLoadEmpty, raiseStartUp, loaderEnded] at hop)
  | reloaded _ im hr => exact hresume hr (writeRuns im (readState octets s)) rfl rfl rfl rfl _
  | loaded hrun im hr =>
    have hstate : s.loader.state = .loading :=
      (hmap.engine (.inl hrun)).resolve_right (by simpa [reloading] using hr)
    exact management_applyImage im _ hread (by simp [operating, readState_loader, hstate])

theorem management_reset (c : Cause) (straps : BitVec 5) (s : State) : ManagementEnabled (resetPart c straps s) :=
   management_of_eq Resets.reset_managementEnabled rfl rfl rfl rfl rfl

theorem armChange_management (n : Nat) (s : State) (h : ManagementEnabled s) : ManagementEnabled (armChange n s) := by
  unfold armChange
  split
  · next c hc =>
    split
    · exact management_congr h rfl rfl rfl rfl (fun l hl => by simpa [hc] using hl) (fun hop => hop)
    · exact h
  · exact h

theorem management_emitServiceWord (s : State) (h : ManagementEnabled s) : ManagementEnabled (emitServiceWord s) :=
  emitServiceWord_keeps (fun c straps s _ => management_reset c straps s) armChange_management
    (fun _ h => management_of_eq h rfl rfl rfl rfl rfl) (fun _ h => management_of_eq h rfl rfl rfl rfl rfl)
    (fun _ _ h => management_of_eq h rfl rfl rfl rfl rfl) s h

theorem management_byEvents :
    ByEvents (fun s => MapLegal s ∧ ManagementEnabled s) fun s => MapLegal s ∧ ManagementEnabled s where
  reset c straps s _ := ⟨reset_loader_mapLegal c straps s, management_reset c straps s⟩
  word l w s h := ⟨mapLegal_byEvents.word l w s h.1, (arriveWord_starts l w s).keeps management_of_calm management_start h.2⟩
  signal l s h := ⟨mapLegal_byEvents.signal l s h.1, management_of_calm s _ (loseSignal_calm l s) h.2⟩
  timer s h := ⟨mapLegal_byEvents.timer s h.1, (timerExpires_starts s).keeps management_of_calm management_start h.2⟩
  pulse early s h :=
    ⟨mapLegal_byEvents.pulse early s h.1, (takePulse_starts early s).keeps management_of_calm management_start h.2⟩
  miss s h := ⟨mapLegal_byEvents.miss s h.1, (takeMiss_starts s).keeps management_of_calm management_start h.2⟩
  emitted s h := ⟨mapLegal_emitServiceWord s h.1, management_emitServiceWord s h.2⟩
  attemptEnd octets s h := ⟨mapLegal_attemptEnds octets s h.1, management_attemptEnds octets s h.1 h.2⟩

/-- Settles O57, beside the invariant of O54: a reload returns to LOADED or DEFAULTS, a load is applied in LOADING. -/
theorem everyStepKeepsTheManagementLanesEnabled : Obligations.EveryStepKeepsTheManagementLanesEnabled := by
  unfold Obligations.EveryStepKeepsTheManagementLanesEnabled
  intro s t hmap h hstep
  exact (step_keeps management_byOwnSteps management_byEvents
    (fun _ _ h => ⟨mapLegal_congr h.1 rfl rfl, management_of_eq h.2 rfl rfl rfl rfl rfl⟩) hstep ⟨hmap, h⟩).2

end Sys2Proof.ManagementKept
end

section
/-! SUPPORT. The capacities of the Service Channel Unit and the uniqueness of its keys through every step. -/

namespace Sys2Proof.BoundsKept

open Sys2Proof.Machine Sys2Proof.Closure Sys2Proof.CalmEvents Sys2Proof.ChannelEvents

/-- How many messages of the queue are notice messages. -/
def noticeMessages (ms : List OutgoingMessage) : Nat := ms.countP fun m => decide (m.kind = .notice)

/-- The bounds with `room` slots of the queue left free, and no key of `held` among those of intake and cache. -/
structure Bounded (room : Nat) (held : List (Octet × Num)) (c : Channel) : Prop where
  fifo : c.fifo.length ≤ Config.fifoDepth
  intake : c.intake.length ≤ Config.intakeDepth
  outgoing : c.outgoing.length + room ≤ Config.queueDepth
  notices : noticeMessages c.outgoing ≤ 1
  cache : c.cache.length ≤ Config.cacheDepth
  keys : (held ++ (intakeKeys c ++ cacheKeys c)).Nodup
  passOver : c.passOver ≤ Config.passOverLimit

theorem channelBounded_iff (s : State) : ChannelBounded s ↔ Bounded 0 [] s.channel :=
  ⟨fun ⟨h₁, h₂, h₃, h₄, h₅, h₆, h₇⟩ => ⟨h₁, h₂, h₃, h₄, h₅, h₆, h₇⟩,
    fun ⟨h₁, h₂, h₃, h₄, h₅, h₆, h₇⟩ => ⟨h₁, h₂, h₃, h₄, h₅, h₆, h₇⟩⟩

variable {room : Nat} {held : List (Octet × Num)} {c : Channel} {s : State}

/-! ### Forwarding -/

theorem bounded_push (h : Bounded room held c) (hroom : c.fifo.length < Config.fifoDepth) (f : ForwardWord) :
    Bounded room held { c with fifo := c.fifo ++ [f] } :=
  { h with fifo := by simpa using hroom }

theorem bounded_abandoned (n : Nat) (c : Channel) (h : Bounded room held c) : Bounded room held (channelAbandoned n c) := by
  unfold channelAbandoned
  split
  · exact h
  · split
    · exact { h with }
    · split
      · next hroom => exact { bounded_push h hroom _ with }
      · exact { h with }

theorem bounded_abandonMessage (s : State) (h : Bounded room held s.channel) : Bounded room held (abandonMessage s).channel := by
  rw [StartChannel.abandonMessage_eq]
  exact bounded_abandoned _ _ h

theorem bounded_pushWord (w : Word) (h : Bounded room held s.channel) (hroom : fifoFull s = false) :
    Bounded room held (pushWord w s).channel :=
  bounded_push h (by simpa [fifoFull] using hroom) _

theorem bounded_overflowWord (h : Bounded room held s.channel) : Bounded room held (overflowWord s).channel := by
  simp only [overflowWord, raise_frame]
  exact { h with }

theorem bounded_setParser (p : Option OpenMessage) (h : Bounded room held s.channel) :
    Bounded room held (setParser p s).channel := { h with }

theorem bounded_openMessage (w : Word) (h : Bounded room held s.channel) : Bounded room held (openMessage w s).channel := by
  unfold openMessage
  split
  · exact bounded_setParser _ h
  · unfold forwardHead
    split
    · exact bounded_setParser _ (bounded_overflowWord h)
    · next hr => exact bounded_setParser _ (bounded_pushWord w h (by simp_all [headRefused]))

theorem bounded_forwardLater (storing : Bool) (w : Word) (h : Bounded room held s.channel) :
    Bounded room held (forwardLater storing w s).channel := by
  unfold forwardLater
  split
  · split
    · exact { bounded_overflowWord h with }
    · next hf => exact bounded_pushWord w h (by simpa using hf)
  · exact h

theorem bounded_takeBody (w : Word) (m : OpenMessage) (h : Bounded room held s.channel) :
    Bounded room held (takeBody w m s).channel := by
  unfold takeBody
  split
  · exact bounded_setParser _ (bounded_forwardLater _ w h)
  · split
    · refine bounded_setParser _ ?_
      unfold placeAbort
      split
      · exact { h with }
      · next hf => exact bounded_pushWord _ h (by simpa using hf)
    · exact bounded_setParser _ h

/-! ### Arrivals -/

theorem bounded_place (k : OutgoingKind) (ws : List Word) (h : Bounded room held s.channel)
    (hfree : s.channel.outgoing.length + (room + 1) ≤ Config.queueDepth)
    (hkind : k = .notice → noticeMessages s.channel.outgoing = 0) : Bounded room held (placeMessage k ws s).channel := by
  refine { h with outgoing := ?_, notices := ?_ }
  · simp only [placeMessage, List.length_append, List.length_singleton]
    omega
  · have hold := h.notices
    simp only [noticeMessages, placeMessage, List.countP_append, List.countP_singleton] at hold hkind ⊢
    by_cases hk : k = .notice
    · simp [hk, hkind hk]
    · simpa [hk] using hold

theorem bounded_answerOrDrop (ws : List Word) (h : Bounded 0 held s.channel) :
    Bounded 0 held (answerOrDrop ws s).channel := by
  obtain ⟨hfree, h'⟩ | ⟨-, h'⟩ := answerOrDrop_cases s ws <;> rw [h']
  · exact bounded_place _ ws h (by omega) (by simp)
  · simp only [dropRequest, raise_frame]
    exact { h with }

theorem intakeKeys_append (c : Channel) (m : IntakeMessage) :
    intakeKeys { c with intake := c.intake ++ [m] } =
      intakeKeys c ++ if m.group then [] else [(requestTag m.octets, m.check)] := by
  unfold intakeKeys
  rw [List.filterMap_append]
  cases hm : m.group <;> simp [hm]

/-- A request whose key neither intake nor cache holds. -/
theorem key_fresh {m : IntakeMessage} (hintake : s.channel.intake.any (sameKey (requestTag m.octets) m.check) = false)
    (hcache : cached (requestTag m.octets) m.check s.channel.cache = none) :
    (requestTag m.octets, m.check) ∉ intakeKeys s.channel ++ cacheKeys s.channel := by
  rw [List.mem_append, not_or]
  constructor
  · simp only [intakeKeys, List.mem_filterMap, not_exists, not_and]
    intro m' hm' hkey
    have hsame := List.any_eq_false.1 hintake m' hm'
    cases hg : m'.group
    · simp only [hg, Bool.false_eq_true, if_false, Option.some.injEq, Prod.mk.injEq] at hkey
      simp [sameKey, hg, hkey] at hsame
    · simp [hg] at hkey
  · simp only [cacheKeys, List.mem_map, not_exists, not_and]
    intro e he hkey
    have hno := List.find?_eq_none.1 hcache e he
    simp only [Prod.mk.injEq] at hkey
    simp [hkey] at hno

theorem bounded_unicastArrives (m : IntakeMessage) (h : Bounded 0 [] s.channel) :
    Bounded 0 [] (unicastArrives m s).channel := by
  unfold unicastArrives
  split
  · exact h
  · split
    · exact h
    · next hintake =>
      split
      · exact bounded_answerOrDrop _ h
      · next hcache =>
        split
        · exact bounded_answerOrDrop _ h
        · next hroom =>
          have hfresh := key_fresh (Bool.eq_false_iff.2 hintake) hcache
          have hkeys := h.keys
          refine { h with intake := ?_, keys := ?_ }
          · simp only [appendIntake, List.length_append, List.length_singleton]
            omega
          · change ([] ++ (intakeKeys { s.channel with intake := s.channel.intake ++ [m] } ++ cacheKeys s.channel)).Nodup
            rw [intakeKeys_append]
            split
            · simpa using hkeys
            · simp only [List.nil_append, List.append_assoc, List.singleton_append] at hkeys ⊢
              exact (List.nodup_middle.2 (List.nodup_cons.2 ⟨hfresh, hkeys⟩))

theorem bounded_groupArrives (m : IntakeMessage) (hm : m.group = true) (h : Bounded 0 [] s.channel) :
    Bounded 0 [] (groupArrives m s).channel := by
  obtain h' | h' | ⟨hroom, h'⟩ := groupArrives_cases s m <;> rw [h']
  · exact h
  · exact { h with }
  · have hkeys := h.keys
    refine { h with intake := ?_, keys := ?_ }
    · simp only [appendIntake, List.length_append, List.length_singleton]
      omega
    · change ([] ++ (intakeKeys { s.channel with intake := s.channel.intake ++ [m] } ++ cacheKeys s.channel)).Nodup
      rw [intakeKeys_append]
      simpa [hm] using hkeys

theorem bounded_takeTail (w : Word) (m : OpenMessage) (h : Bounded 0 [] s.channel) :
    Bounded 0 [] (takeTail w m s).channel := by
  have hclosed : Bounded 0 [] (setParser none (forwardLater m.storing w s)).channel :=
    bounded_setParser _ (bounded_forwardLater _ w h)
  unfold takeTail judgeMessage
  split
  · split
    · exact bounded_unicastArrives _ hclosed
    · next hd => exact bounded_groupArrives _ (by simp [consumedCopy, hd]) hclosed
    · exact hclosed
  · exact { hclosed with }

theorem bounded_parseWord (g : Heard) (s : State) (h : Bounded 0 [] s.channel) : Bounded 0 [] (parseWord g s).channel := by
  have hstray : Bounded 0 [] (strayWord s).channel := { h with }
  unfold parseWord
  split
  · exact h
  · exact bounded_openMessage _ h
  · exact bounded_openMessage _ (bounded_abandonMessage s h)
  · exact bounded_takeBody _ _ h
  · exact bounded_takeTail _ _ h
  · exact hstray
  · exact hstray
  · exact hstray
  · exact h
  · exact bounded_abandonMessage s h
  · exact bounded_abandonMessage s h

theorem bounded_parserTakes (d : Tab 16 (Option FrameRecord)) (s : State) (h : Bounded 0 [] s.channel) :
    Bounded 0 [] (parserTakes d s).channel := by
  unfold parserTakes
  split
  · exact bounded_parseWord _ s h
  · exact h

/-! ### The arbiter -/

theorem bounded_giveForward (w : Word) (s : State) (h : Bounded room held s.channel) :
    Bounded room held (giveForward w s).2.channel := by
  refine { h with fifo := ?_ }
  have := h.fifo
  simp only [giveForward, List.length_tail]
  omega

theorem giveInQueue_length (ms : List OutgoingMessage) : (giveInQueue ms).length = ms.length := by
  induction ms with
  | nil => rfl
  | cons m ms ih =>
    unfold giveInQueue
    split <;> simp [ih]

theorem giveInQueue_notices (ms : List OutgoingMessage) : noticeMessages (giveInQueue ms) = noticeMessages ms := by
  unfold noticeMessages
  induction ms with
  | nil => rfl
  | cons m ms ih =>
    unfold giveInQueue
    split <;> simp [List.countP_cons, ih]

theorem bounded_giveLocal (s : State) (h : Bounded room held s.channel) : Bounded room held (giveLocal s).2.channel := by
  unfold giveLocal
  split
  · exact { h with }
  · exact { h with
      outgoing := by simpa [giveInQueue_length] using h.outgoing
      notices := by simpa [giveInQueue_notices] using h.notices }

theorem bounded_setPassOver {n : Nat} (h : Bounded room held s.channel) (hn : n ≤ Config.passOverLimit) :
    Bounded room held (setPassOver n s).channel := { h with passOver := hn }

theorem bounded_arbiterGives (s : State) (h : Bounded room held s.channel) :
    Bounded room held (arbiterGives s).2.channel := by
  have hlocal : Bounded room held (giveLocal (setPassOver 0 s)).2.channel :=
    bounded_giveLocal _ (bounded_setPassOver h (Nat.zero_le _))
  unfold arbiterGives
  split
  · unfold chooseMessage
    split
    · exact bounded_giveForward _ s h
    · exact hlocal
    · split
      · next hpass => exact bounded_giveForward _ _ (bounded_setPassOver h hpass)
      · exact hlocal
    · exact h
  · split
    · exact bounded_giveForward _ s h
    · exact h
  · exact bounded_giveLocal s h

theorem bounded_start (o : Option LaneId) (s : State) (h : Bounded 0 [] s.channel) :
    Bounded 0 [] (masterFrameStart o s).channel :=
  start_keeps_channel (beginStart_keeps_channel bounded_abandoned fun _ _ _ h => { h with })
    bounded_parserTakes bounded_arbiterGives o s h

/-! ### The Notice Unit and the items -/

theorem noticePlaceable_room {r : Nat} (hr : room ≤ r) (h : noticePlaceable r s = true) :
    s.channel.outgoing.length + (room + 1) ≤ Config.queueDepth ∧ noticeMessages s.channel.outgoing = 0 := by
  rw [noticePlaceable, Bool.and_eq_true] at h
  obtain ⟨hfree, hnone⟩ := h
  simp only [slotFree, decide_eq_true_eq] at hfree
  refine ⟨by omega, List.countP_eq_zero.2 fun m hm => ?_⟩
  simp only [noticeQueued, Bool.not_eq_true', List.any_eq_false] at hnone
  exact hnone m hm

theorem bounded_buildNotice {r : Nat} (hr : room ≤ r) (s : State) (h : Bounded room held s.channel) :
    Bounded room held (buildNotice r s).channel := by
  obtain ⟨-, h'⟩ | ⟨hdue, h'⟩ := buildNotice_cases s r <;> rw [h']
  · exact h
  · simp only [buildDue, Bool.and_eq_true] at hdue
    obtain ⟨hfree, hnone⟩ := noticePlaceable_room hr hdue.2
    exact bounded_place (s := { s with notices := withOutstanding s.address s.notices }) _ _ h hfree fun _ => hnone

theorem bounded_placeCopy {r : Nat} (hr : room ≤ r) (s : State) (h : Bounded room held s.channel) :
    Bounded room held (placeCopy r s).channel := by
  obtain ⟨-, h'⟩ | ⟨hdue, m, -, h'⟩ := placeCopy_cases s r <;> rw [h']
  · exact h
  · have hplace : noticePlaceable r s = true := by
      unfold copyDue at hdue
      split at hdue
      · exact hdue
      · cases hdue
    obtain ⟨hfree, hnone⟩ := noticePlaceable_room hr hplace
    exact bounded_place (s := { s with notices := copyPlaced s.notices }) _ _ h hfree fun _ => hnone

theorem bounded_moment {r : Nat} (hr : room ≤ r) (s : State) (h : Bounded room held s.channel) :
    Bounded room held (noticeMoment r s).channel :=
  bounded_buildNotice hr _ (bounded_placeCopy hr s h)

theorem bounded_item (n : Nat) (s t : State) (he : ItemEffect n s t) (h : Bounded room held s.channel) :
    Bounded room held t.channel := by
  obtain hc | hc | hc | hc := item_channel he <;> rw [hc]
  · exact h
  · exact bounded_abandoned _ _ h
  · have hlength : (withdrawn s.channel.outgoing).length ≤ s.channel.outgoing.length := List.length_filter_le _ _
    have hcount : noticeMessages (withdrawn s.channel.outgoing) ≤ noticeMessages s.channel.outgoing :=
      (List.filter_sublist).countP_le
    have := h.outgoing
    exact { h with outgoing := by simp only; omega, notices := hcount.trans h.notices }
  · exact { h with }

/-! ### Executions -/

theorem bounded_popIntake (h : Bounded 0 [] s.channel) : Bounded 0 [] (popIntake s).channel := by
  have hkeys := h.keys
  have hintake := h.intake
  refine { h with intake := ?_, keys := ?_ }
  · simp only [popIntake, List.length_tail]
    omega
  · refine hkeys.sublist ?_
    exact ((List.tail_sublist _).filterMap _).append_right _

/-- The unicast request at the head of the intake leaves it, and its key with it. -/
theorem bounded_popRequest {m : IntakeMessage} {rest : List IntakeMessage} (h : Bounded 0 [] s.channel)
    (hintake : s.channel.intake = m :: rest) (hm : m.group = false) (hfree : slotFree 0 s = true) :
    Bounded 1 [(requestTag m.octets, m.check)] (popIntake s).channel := by
  have hkeys := h.keys
  have hpopped := (bounded_popIntake h).intake
  refine { h with intake := hpopped, outgoing := ?_, keys := ?_ }
  · simpa [slotFree, popIntake] using hfree
  · have hcons : intakeKeys s.channel = (requestTag m.octets, m.check) :: intakeKeys (popIntake s).channel := by
      simp [intakeKeys, popIntake, hintake, hm]
    rw [hcons] at hkeys
    exact hkeys

/-- The reply is placed in the slot held for it. -/
theorem bounded_reply {k : OutgoingKind} {ws : List Word} {held : List (Octet × Num)} (h : Bounded 1 held s.channel)
    (hk : k ≠ .notice) : Bounded 0 held (placeMessage k ws s).channel :=
  bounded_place (s := s) k ws { h with outgoing := by have := h.outgoing; omega } h.outgoing fun he => absurd he hk

theorem bounded_release (h : Bounded 0 held c) : Bounded 0 [] c :=
  { h with keys := h.keys.sublist (List.sublist_append_right _ _) }

/-- The reply enters the cache under the key of its request. -/
theorem bounded_cacheReply (e : CacheEntry) (h : Bounded 0 [(e.tag, e.check)] s.channel) :
    Bounded 0 [] (cacheReply e s).channel := by
  have hkeys := h.keys
  refine { h with cache := ?_, keys := ?_ }
  · simp only [cacheReply, List.length_take]
    omega
  · have hsub : (cacheKeys (cacheReply e s).channel).Sublist ((e.tag, e.check) :: cacheKeys s.channel) :=
      (List.take_sublist _ _).map _
    refine List.Nodup.sublist (hsub.append_left (intakeKeys s.channel)) ?_
    exact List.nodup_middle.2 hkeys

theorem bounded_executeRequest (s : State) (h : Bounded 0 [] s.channel) : Bounded 0 [] (executeRequest s).channel := by
  unfold executeRequest
  split
  case h_2 => exact h
  case h_1 m rest hintake =>
    split
    case isFalse => exact h
    case isTrue hdue =>
      simp only [requestDue, hintake, Bool.and_eq_true, Bool.not_eq_true'] at hdue
      obtain ⟨⟨hm, -⟩, hfree⟩ := hdue
      have hbegun : Bounded 1 [(requestTag m.octets, m.check)] (beginExecution s).channel :=
        bounded_moment (s := { takeSerial (popIntake s) with notices := reported (takeSerial (popIntake s)).notices })
          (Nat.le_refl 1) (bounded_popRequest h hintake hm hfree)
      have hbare : ∀ o, Bounded 0 [] (answerBare s.dispatcher.nextSerial m o (beginExecution s)).channel := fun o =>
        bounded_release (bounded_reply hbegun (by simp))
      unfold answerRequest
      split
      · exact hbare .starting
      · next hop =>
        split
        · exact hbare .malformed
        · next items _ =>
          have hitems : Bounded 1 [(requestTag m.octets, m.check)]
              (takeAll false s.dispatcher.nextSerial items 3 (beginExecution s)).2.channel :=
            takeAll_keeps (P := fun s => Bounded 1 [(requestTag m.octets, m.check)] s.channel) false
              (fun n s t _ he h => bounded_item n s t he h) (fun s h => bounded_moment (Nat.le_refl 1) s h) _ _ _ _
              (by simpa using hop) hbegun
          exact bounded_cacheReply _ (bounded_reply hitems (by simp))

theorem bounded_executeGroup (s : State) (h : Bounded 0 [] s.channel) : Bounded 0 [] (executeGroup s).channel := by
  have hpopped := bounded_popIntake h
  unfold executeGroup
  split
  · split
    · unfold answerGroup
      split
      · exact { hpopped with }
      · next hop =>
        split
        · exact { hpopped with }
        · next items _ =>
          have hitems := takeAll_keeps (P := fun s => Bounded 0 [] s.channel) true (fun n s t _ he h => bounded_item n s t he h)
            (fun s h => bounded_moment (Nat.zero_le _) s h) (popIntake s).dispatcher.nextSerial items 3 _
            (by simpa using hop) hpopped
          exact { hitems with }
    · exact h
  · exact h

/-! ### Steps -/

theorem bounded_storeOwedAbort (s : State) (h : Bounded 0 [] s.channel) : Bounded 0 [] (storeOwedAbort s).channel := by
  unfold storeOwedAbort
  split
  · next hdue =>
    rw [abortDue, Bool.and_eq_true] at hdue
    refine bounded_pushWord (s := { s with channel := { s.channel with abortOwed := false } }) _ { h with } ?_
    simpa [fifoFull] using hdue.2
  · exact h

theorem bounded_byOwnSteps : ByOwnSteps fun s => Bounded 0 [] s.channel where
  copyEnd s h := by
    rw [takeCopyEnd_channel]
    exact h
  checkEnd c s h := calm_keeps_channel bounded_abandoned s _ (takeCheckEnd_calm c s) h
  surveyEnd s h := calm_keeps_channel bounded_abandoned s _ (takeSurveyEnd_calm s) h
  expiry s h := by simpa using h
  attempt s h := by simpa using h
  abort := bounded_storeOwedAbort
  build := bounded_buildNotice (Nat.le_refl 0)
  place := bounded_placeCopy (Nat.le_refl 0)
  request := bounded_executeRequest
  group := bounded_executeGroup

theorem bounded_reset : Bounded 0 [] Channel.reset := by
  constructor <;> decide

theorem bounded_popOutgoing (c : Channel) (h : Bounded 0 [] c) : Bounded 0 [] { c with outgoing := c.outgoing.tail } := by
  have hlength := h.outgoing
  refine { h with outgoing := ?_, notices := ((List.tail_sublist _).countP_le).trans h.notices }
  simp only [List.length_tail]
  omega

theorem bounded_byEvents : ByEvents (fun s => Bounded 0 [] s.channel) (fun s => Bounded 0 [] s.channel) :=
  channel_byEvents bounded_abandoned bounded_reset bounded_start bounded_popOutgoing

/-- Settles O56; an execution holds one slot of the queue and the key of its request. -/
theorem everyStepKeepsTheChannelBounds : Obligations.EveryStepKeepsTheChannelBounds := by
  unfold Obligations.EveryStepKeepsTheChannelBounds
  intro s t h hstep
  rw [channelBounded_iff] at h ⊢
  exact step_keeps bounded_byOwnSteps bounded_byEvents (fun _ _ h => h) hstep h

end Sys2Proof.BoundsKept
end

section
/-! SUPPORT. The notice list and the states of the Notice Unit through every step (R149, R151 to R157). -/

namespace Sys2Proof.NoticeListKept

open Sys2Proof.Machine Sys2Proof.Closure Sys2Proof.CalmEvents Sys2Proof.MapKept Sys2Proof.Raising Sys2Proof.StartNotices

/-! ### The list -/

/-- The key of an entry: kind and subject. -/
def keyOf (e : NoticeEntry) : NoticeKind × Subject := (e.kind, e.subject)

/-- The keys of the entries of a list that are not carried. -/
def freeKeys (es : List NoticeEntry) : List (NoticeKind × Subject) := (es.filter fun e => !e.carried).map keyOf

/-- A list within its depth, no key twice among the entries not carried. -/
structure ListOk (es : List NoticeEntry) : Prop where
  length : es.length ≤ Config.listDepth
  keys : (freeKeys es).Nodup

/-- No entry is a START_UP. -/
def NoStartUp (es : List NoticeEntry) : Prop := ∀ e ∈ es, e.kind ≠ .startUp

theorem freeKeys_append (es fs : List NoticeEntry) : freeKeys (es ++ fs) = freeKeys es ++ freeKeys fs := by
  simp [freeKeys]

/-- Changing entries without their kind, subject and carried mark leaves the keys. -/
theorem freeKeys_map {f : NoticeEntry → NoticeEntry} (hf : ∀ e, keyOf (f e) = keyOf e ∧ (f e).carried = e.carried)
    (es : List NoticeEntry) : freeKeys (es.map f) = freeKeys es := by
  induction es with
  | nil => rfl
  | cons e es ih =>
    obtain ⟨hkey, hcarried⟩ := hf e
    unfold freeKeys at ih ⊢
    cases hc : e.carried <;> simp [hcarried, hc, hkey, ih]

theorem listOk_sublist {es fs : List NoticeEntry} (h : ListOk es) (hsub : fs.Sublist es) : ListOk fs :=
  ⟨hsub.length_le.trans h.length, h.keys.sublist ((hsub.filter _).map _)⟩

theorem coalesce_key (frame : Num) (data : List Octet) (e : NoticeEntry) :
    keyOf (coalesce frame data e) = keyOf e ∧ (coalesce frame data e).carried = e.carried := ⟨rfl, rfl⟩

theorem key_notMem {kind : NoticeKind} {subject : Subject} {es : List NoticeEntry}
    (h : es.any (waitsFor kind subject) = false) : (kind, subject) ∉ freeKeys es := by
  simp only [freeKeys, List.mem_map, List.mem_filter, not_exists, not_and, and_imp]
  intro e he hcarried hkey
  have hno := List.any_eq_false.1 h e he
  simp only [keyOf, Prod.mk.injEq] at hkey
  simp_all [waitsFor]

/-- An entry not carried joins a list that has room and none of its key. -/
theorem listOk_append {es : List NoticeEntry} (h : ListOk es) (hroom : es.length < Config.listDepth) (e : NoticeEntry)
    (hfresh : keyOf e ∉ freeKeys es) : ListOk (es ++ [e]) := by
  refine ⟨by simpa using hroom, ?_⟩
  rw [freeKeys_append]
  cases hc : e.carried with
  | true => simpa [freeKeys, hc] using h.keys
  | false =>
    refine List.nodup_append.2 ⟨h.keys, by simp [freeKeys, hc], fun a ha b hb => ?_⟩
    have hbe : b = keyOf e := by simpa [freeKeys, hc] using hb
    rintro rfl
    exact hfresh (hbe ▸ ha)

/-! ### The unit -/

/-- The Notice Unit is legal, START_UP apart. -/
structure UnitOk (n : NoticeUnit) : Prop where
  list : ListOk n.list
  alert : n.alert = !n.list.isEmpty
  outstanding : n.outstanding.isSome = decide (n.state ≠ .ready)
  position : positionLegal n = true
  timer : n.timer.isSome = decide (n.copy = .timing)

theorem noticesLegal_iff (s : State) :
    NoticesLegal s ↔ UnitOk s.notices ∧ (operating s = false → NoStartUp s.notices.list) :=
  ⟨fun ⟨hlength, halert, hkeys, hstart, hout, hpos, htimer⟩ => ⟨⟨⟨hlength, hkeys⟩, halert, hout, hpos, htimer⟩, hstart⟩,
    fun ⟨⟨⟨hlength, hkeys⟩, halert, hout, hpos, htimer⟩, hstart⟩ => ⟨hlength, halert, hkeys, hstart, hout, hpos, htimer⟩⟩

/-- The list is replaced by a legal one, ALERT following it. -/
theorem unitOk_setList {n : NoticeUnit} (h : UnitOk n) {es : List NoticeEntry} (hes : ListOk es) : UnitOk (setList es n) :=
  ⟨hes, rfl, h.outstanding, h.position, h.timer⟩

theorem enterNotice_ok {n : NoticeUnit} (kind : NoticeKind) (subject : Subject) (frame : Num) (data : List Octet)
    (h : UnitOk n) : UnitOk (enterNotice kind subject frame data n) := by
  obtain ⟨-, h'⟩ | ⟨hnone, hroom, h'⟩ | ⟨-, -, h'⟩ := enterNotice_cases kind subject frame data n <;> rw [h']
  · refine unitOk_setList h ⟨by simpa using h.list.length, ?_⟩
    rw [freeKeys_map fun e => ?_]
    · exact h.list.keys
    · split
      · exact coalesce_key frame data e
      · exact ⟨rfl, rfl⟩
  · exact unitOk_setList h (listOk_append h.list hroom _ (key_notMem hnone))
  · exact { h with }

theorem enterNotice_noStartUp {n : NoticeUnit} {kind : NoticeKind} (hk : kind ≠ .startUp) (subject : Subject) (frame : Num)
    (data : List Octet) (h : NoStartUp n.list) : NoStartUp (enterNotice kind subject frame data n).list := by
  obtain ⟨-, h'⟩ | ⟨-, -, h'⟩ | ⟨-, -, h'⟩ := enterNotice_cases kind subject frame data n <;> rw [h']
  · simp only [NoStartUp, setList, List.mem_map, forall_exists_index, and_imp, forall_apply_eq_imp_iff₂]
    intro e he
    split <;> exact h e he
  · simp only [NoStartUp, setList, List.mem_append, List.mem_singleton]
    rintro e (he | rfl)
    · exact h e he
    · exact hk
  · exact h

theorem entered_ok {n m : NoticeUnit} (he : Entered n m) (h : UnitOk n) : UnitOk m := by
  induction he with
  | none => exact h
  | more kind subject frame data _ _ ih => exact enterNotice_ok kind subject frame data ih

theorem entered_noStartUp {n m : NoticeUnit} (he : Entered n m) (h : NoStartUp n.list) : NoStartUp m.list := by
  induction he with
  | none => exact h
  | more kind subject frame data _ hk ih => exact enterNotice_noStartUp hk subject frame data ih

/-! ### Messages -/

theorem markCarried_keys (k : Nat) (es : List NoticeEntry) :
    (freeKeys (markCarried k es)).Sublist (freeKeys es) ∧ (markCarried k es).length = es.length := by
  induction es generalizing k with
  | nil => cases k <;> exact ⟨.refl _, rfl⟩
  | cons e es ih =>
    cases k with
    | zero => exact ⟨.refl _, rfl⟩
    | succ k =>
      unfold markCarried
      cases hc : e.carried with
      | true =>
        obtain ⟨hsub, hlength⟩ := ih (k + 1)
        refine ⟨?_, by simp [hlength]⟩
        simpa [freeKeys, List.filter_cons, hc] using hsub
      | false =>
        obtain ⟨hsub, hlength⟩ := ih k
        refine ⟨?_, by simp [hlength]⟩
        simpa [freeKeys, List.filter_cons, hc] using hsub.cons _

theorem markCarried_kinds (k : Nat) (es : List NoticeEntry) (h : NoStartUp es) : NoStartUp (markCarried k es) := by
  induction es generalizing k with
  | nil => cases k <;> exact h
  | cons e es ih =>
    obtain ⟨he, hes⟩ := List.forall_mem_cons.1 h
    cases k with
    | zero => exact h
    | succ k =>
      unfold markCarried
      split
      · exact List.forall_mem_cons.2 ⟨he, ih (k + 1) hes⟩
      · exact List.forall_mem_cons.2 ⟨he, ih k hes⟩

theorem isEmpty_of_length {es fs : List NoticeEntry} (h : es.length = fs.length) : es.isEmpty = fs.isEmpty := by
  cases es <;> cases fs <;> simp_all

theorem withOutstanding_ok {n : NoticeUnit} (address : Octet) (h : UnitOk n) : UnitOk (withOutstanding address n) := by
  obtain ⟨hsub, hlength⟩ := markCarried_keys Config.messageEntries n.list
  refine ⟨⟨hlength.trans_le h.list.length, h.list.keys.sublist hsub⟩, ?_, rfl, rfl, rfl⟩
  exact h.alert.trans (congrArg _ (isEmpty_of_length hlength.symm))

/-- A copy that is owed is placed. -/
theorem copyPlaced_ok {n : NoticeUnit} (h : UnitOk n) : UnitOk (copyPlaced n) := by
  obtain ⟨hlist, halert, hout, hpos, htimer⟩ := h
  unfold copyPlaced
  split
  · next hc => exact ⟨hlist, halert, hout, by simpa [positionLegal, hc] using hpos, by simpa [hc] using htimer⟩
  · next hc => exact ⟨hlist, halert, hout, by simpa [positionLegal, hc] using hpos, by simpa [hc] using htimer⟩
  · exact ⟨hlist, halert, hout, hpos, htimer⟩

theorem copyPlaced_list (n : NoticeUnit) : (copyPlaced n).list = n.list := by
  unfold copyPlaced
  split <;> rfl

theorem reported_ok {n : NoticeUnit} (h : UnitOk n) : UnitOk (reported n) := by
  unfold reported
  split
  · next hs =>
    obtain ⟨hlist, halert, hout, hpos, htimer⟩ := h
    have hidle : n.copy = .idle := by
      unfold positionLegal at hpos
      split at hpos
      · assumption
      · simp [hs] at hpos
    exact ⟨hlist, halert, by simpa [hs] using hout, rfl, by simpa [hidle] using htimer⟩
  · exact h

theorem reported_list (n : NoticeUnit) : (reported n).list = n.list := by
  unfold reported
  split <;> rfl

theorem noticeEmitted_ok {n : NoticeUnit} (wait : Num) (h : UnitOk n) : UnitOk (noticeEmitted wait n) := by
  unfold noticeEmitted
  split
  · next hq =>
    obtain ⟨hlist, halert, hout, hpos, -⟩ := h
    exact ⟨hlist, halert, hout, by simpa [positionLegal, hq.1] using hpos, rfl⟩
  · exact h

theorem noticeEmitted_list (wait : Num) (n : NoticeUnit) : (noticeEmitted wait n).list = n.list := by
  unfold noticeEmitted
  split <;> rfl

/-- An expiry: the timer ran, so the unit was in AWAITING. -/
theorem expired_ok {n : NoticeUnit} (retries : Num) (h : UnitOk n) (hdue : n.timer = some 0) : UnitOk (expired retries n) := by
  obtain ⟨hlist, halert, hout, hpos, htimer⟩ := h
  have hcopy : n.copy = .timing := by simpa [hdue] using htimer
  have hstate : n.state = .awaiting := by simpa [positionLegal, hcopy] using hpos
  unfold expired
  split
  · exact ⟨hlist, halert, hout, by simp [positionLegal, hstate], rfl⟩
  · exact ⟨hlist, halert, by simpa [hstate] using hout, rfl, rfl⟩

theorem expired_list (retries : Num) (n : NoticeUnit) : (expired retries n).list = n.list := by
  unfold expired
  split <;> rfl

theorem tickTimer_ok {n : NoticeUnit} (h : UnitOk n) : UnitOk (tickTimer n) := by
  rw [tickTimer_eq]
  exact { h with timer := by simpa using h.timer }

theorem tickTimer_list (n : NoticeUnit) : (tickTimer n).list = n.list := by rw [tickTimer_eq]

theorem uncarried_sublist (n : NoticeUnit) : (uncarried n).Sublist n.list := List.filter_sublist

theorem transferLost_ok {n : NoticeUnit} (frame : Num) (h : UnitOk n) : UnitOk (transferLost frame n) := by
  unfold transferLost
  split
  · exact h
  · next hlost =>
    rw [not_or, Nat.not_le] at hlost
    split
    · refine { unitOk_setList h (es := n.list.map _) ⟨by simpa using h.list.length, ?_⟩ with }
      rw [freeKeys_map fun e => ?_]
      · exact h.list.keys
      · split
        · exact coalesce_key frame _ e
        · exact ⟨rfl, rfl⟩
    · next hnone =>
      exact { unitOk_setList h (listOk_append h.list hlost.2 _ (key_notMem (Bool.eq_false_iff.2 hnone))) with }

theorem transferLost_noStartUp {n : NoticeUnit} (frame : Num) (h : NoStartUp n.list) : NoStartUp (transferLost frame n).list := by
  unfold transferLost
  split
  · exact h
  · split
    · simp only [NoStartUp, setList, List.mem_map, forall_exists_index, and_imp, forall_apply_eq_imp_iff₂]
      intro e he
      split <;> exact h e he
    · simp only [NoStartUp, setList, List.mem_append, List.mem_singleton]
      rintro e (he | rfl)
      · exact h e he
      · simp [freshEntry]

theorem acknowledged_ok {n : NoticeUnit} (frame : Num) (h : UnitOk n) : UnitOk (acknowledged frame n) := by
  refine transferLost_ok frame ⟨listOk_sublist h.list (uncarried_sublist n), rfl, rfl, rfl, rfl⟩

/-- START_UP is placed in front of a list without one. -/
theorem placeStartUp_ok {n : NoticeUnit} (frame : Num) (data : List Octet) (h : UnitOk n) (hno : NoStartUp n.list) :
    UnitOk (placeStartUp frame data n) := by
  have hfresh : ∀ es : List NoticeEntry, es.Sublist n.list → es.length < Config.listDepth →
      ListOk (freshEntry .startUp .none frame data :: es) := by
    intro es hsub hroom
    refine ⟨by simpa using hroom, ?_⟩
    have hkeys := (listOk_sublist h.list hsub).keys
    change ((NoticeKind.startUp, Subject.none) :: freeKeys es).Nodup
    refine List.nodup_cons.2 ⟨fun hmem => ?_, hkeys⟩
    simp only [freeKeys, List.mem_map, List.mem_filter, keyOf, Prod.mk.injEq] at hmem
    obtain ⟨e, ⟨he, -⟩, hkind, -⟩ := hmem
    exact hno e (hsub.subset he) hkind
  unfold placeStartUp
  split
  · next hroom => exact unitOk_setList h (hfresh _ (.refl _) hroom)
  · refine { unitOk_setList h (hfresh _ (List.take_sublist _ _) ?_) with }
    have hdepth : Config.listDepth - 1 < Config.listDepth := by decide
    rw [List.length_take]
    omega

/-! ### Pieces of a step -/

theorem notices_congr {s t : State} (h : NoticesLegal s) (hnotices : t.notices = s.notices)
    (hloading : operating t = false → operating s = false) : NoticesLegal t := by
  rw [noticesLegal_iff] at h ⊢
  rw [hnotices]
  exact ⟨h.1, fun hop => h.2 (hloading hop)⟩

theorem notices_of_entered {s t : State} (h : NoticesLegal s) (he : Entered s.notices t.notices)
    (hloading : operating t = false → operating s = false) : NoticesLegal t := by
  rw [noticesLegal_iff] at h ⊢
  exact ⟨entered_ok he h.1, fun hop => entered_noStartUp he (h.2 (hloading hop))⟩

theorem notices_of_calm (s t : State) (hst : Calm s t) (h : NoticesLegal s) : NoticesLegal t := by
  obtain ⟨-, -, -, -, -, hloader, -⟩ := hst.kept
  exact notices_of_entered h hst.notices fun hop => by rwa [operating_congr hloader] at hop

theorem notices_start (o : Option LaneId) (s : State) (h : NoticesLegal s) : NoticesLegal (masterFrameStart o s) := by
  have hentered := (start_part o s).entered
  rw [renumbered_notices] at hentered
  rw [noticesLegal_iff] at h ⊢
  have hnotices : (masterFrameStart o s).notices = tickTimer (announced o s).notices := by rw [masterFrameStart_eq]; rfl
  have hstate : (masterFrameStart o s).loader.state = s.loader.state := by
    rw [Starts.loader_eq, (tickLoader_frame _).1]
  rw [hnotices]
  refine ⟨tickTimer_ok (entered_ok hentered h.1), fun hop => ?_⟩
  rw [tickTimer_list]
  exact entered_noStartUp hentered (h.2 (by simpa only [operating, hstate] using hop))

theorem storeParam_entered (p : Param) (v : Num) (s : State) : Entered s.notices (storeParam p v s).notices := by
  cases p with
  | ingressEnable => exact (writeIngressEnable_calm v s).notices
  | _ => exact .none

theorem notices_item (n : Nat) (s t : State) (hop : operating s = true) (he : ItemEffect n s t) (h : NoticesLegal s) :
    NoticesLegal t := by
  have hrunning := operating_of_effect he hop
  have hnever : operating t = false → operating s = false := fun hl => by simp [hrunning] at hl
  cases he with
  | param p v => exact notices_of_entered h (storeParam_entered p v s) hnever
  | laneReset l => exact notices_of_calm _ _ (resetLane_calm l s) h
  | checkStop c => exact notices_of_calm _ _ (endChecker_calm c _ s) h
  | acknowledge =>
    rw [noticesLegal_iff] at h ⊢
    exact ⟨acknowledged_ok _ h.1, fun hl => by simp [hrunning] at hl⟩
  | _ => exact notices_congr h (by simp) hnever

theorem notices_byExecution : ByExecution NoticesLegal where
  pop _ h := notices_congr h rfl fun hop => hop
  serial _ h := notices_congr h rfl fun hop => hop
  report s h := by
    rw [noticesLegal_iff] at h ⊢
    exact ⟨reported_ok h.1, fun hop => by rw [reported_list]; exact h.2 hop⟩
  build r s h := by
    obtain ⟨-, h'⟩ | ⟨-, h'⟩ := buildNotice_cases s r <;> rw [h']
    · exact h
    · rw [noticesLegal_iff] at h ⊢
      exact ⟨withOutstanding_ok _ h.1, fun hop => markCarried_kinds _ _ (h.2 hop)⟩
  place r s h := by
    obtain ⟨-, h'⟩ | ⟨-, m, -, h'⟩ := placeCopy_cases s r <;> rw [h']
    · exact h
    · rw [noticesLegal_iff] at h ⊢
      refine ⟨copyPlaced_ok h.1, fun hop => ?_⟩
      change NoStartUp (copyPlaced s.notices).list
      rw [copyPlaced_list]
      exact h.2 hop
  item := notices_item
  reply _ _ _ h := notices_congr h rfl fun hop => hop
  cache _ _ h := notices_congr h rfl fun hop => hop
  dropGroup _ h := notices_congr h rfl fun hop => hop
  record _ _ _ _ h := notices_congr h rfl fun hop => hop

theorem notices_takeExpiry (s : State) (h : NoticesLegal s) : NoticesLegal (takeExpiry s) := by
  unfold takeExpiry
  split
  · next hdue =>
    rw [noticesLegal_iff] at h ⊢
    refine ⟨expired_ok _ h.1 (by simpa [expiryDue] using hdue), fun hop => ?_⟩
    simp only [expired_list]
    exact h.2 hop
  · exact h

theorem notices_takeCopyEnd (s : State) (h : NoticesLegal s) : NoticesLegal (takeCopyEnd s) := by
  unfold takeCopyEnd
  split
  · exact notices_of_entered h (entered_raise (by decide) .none _ { s with map := { s.map with copy := none } })
      fun hop => by simpa [operating] using hop
  · exact h

theorem notices_beginAttempt (s : State) (h : NoticesLegal s) : NoticesLegal (beginAttempt s) := by
  unfold beginAttempt
  split
  · exact notices_congr h rfl fun hop => hop
  · exact h

theorem notices_storeOwedAbort (s : State) (h : NoticesLegal s) : NoticesLegal (storeOwedAbort s) := by
  unfold storeOwedAbort
  split
  · exact notices_congr h rfl fun hop => hop
  · exact h

theorem notices_byOwnSteps : ByOwnSteps fun s => MapLegal s ∧ NoticesLegal s where
  copyEnd s h := ⟨mapLegal_copyEnd s h.1, notices_takeCopyEnd s h.2⟩
  checkEnd c s h := ⟨mapLegal_byOwnSteps.checkEnd c s h.1, notices_of_calm s _ (takeCheckEnd_calm c s) h.2⟩
  surveyEnd s h := ⟨mapLegal_byOwnSteps.surveyEnd s h.1, notices_of_calm s _ (takeSurveyEnd_calm s) h.2⟩
  expiry s h := ⟨mapLegal_byOwnSteps.expiry s h.1, notices_takeExpiry s h.2⟩
  attempt s h := ⟨mapLegal_byOwnSteps.attempt s h.1, notices_beginAttempt s h.2⟩
  abort s h := ⟨mapLegal_byOwnSteps.abort s h.1, notices_storeOwedAbort s h.2⟩
  build s h := ⟨mapLegal_byOwnSteps.build s h.1, notices_byExecution.build 0 s h.2⟩
  place s h := ⟨mapLegal_byOwnSteps.place s h.1, notices_byExecution.place 0 s h.2⟩
  request s h := ⟨mapLegal_byOwnSteps.request s h.1, executeRequest_keeps notices_byExecution s h.2⟩
  group s h := ⟨mapLegal_byOwnSteps.group s h.1, executeGroup_keeps notices_byExecution s h.2⟩

/-! ### The end of an attempt -/

theorem applySettings_entered (im : Image) (s : State) : Entered s.notices (applySettings im s).notices := by
  refine applySettings_keeps (P := fun u => Entered s.notices u.notices) im s (fun p _ u hu => ?_) .none
  unfold applyParam
  split
  · exact hu.trans (storeParam_entered _ _ u)
  · exact hu

/-- The end of a start-up load: START_UP is placed, and the part is in OPERATING. -/
theorem notices_startUp {u : State} (hu : UnitOk u.notices) (hno : NoStartUp u.notices.list)
    (hop : operating u = true) : NoticesLegal (raiseStartUp u) := by
  rw [noticesLegal_iff]
  refine ⟨placeStartUp_ok _ _ hu hno, fun hl => ?_⟩
  have hsame : operating (raiseStartUp u) = operating u := rfl
  simp [hsame, hop] at hl

theorem notices_attemptEnds (octets : List Octet) (s : State) (hmap : MapLegal s) (h : NoticesLegal s) :
    NoticesLegal (attemptEnds octets s) := by
  rw [mapLegal_iff] at hmap
  have hread : NoticesLegal (readState octets s) := notices_congr h rfl fun hop => by
    simpa [operating, readState_loader] using hop
  have hfull := (noticesLegal_iff s).1 h
  have hloading : attemptRunning s = true → reloading s = false → NoStartUp s.notices.list := by
    intro hrun hr
    have hstate := (hmap.engine (.inl hrun)).resolve_right (by simpa [reloading] using hr)
    exact hfull.2 (by simp [operating, hstate])
  have hreload : reloading s = true → ∀ u : State, u.notices = s.notices → u.loader = (readState octets s).loader →
      ∀ r, NoticesLegal (endReload r u) := by
    intro hr u hnotices hloader r
    have hback := hmap.resume (by simpa [reloading] using hr)
    have hresumed : u.loader.resume = s.loader.resume := by rw [hloader, readState_loader]
    refine notices_of_entered h ?_ fun hop => ?_
    · rw [← hnotices]
      exact entered_raise (by decide) _ _ { u with loader := loaderEnded u.loader.resume r u.loader }
    · rcases hback with hback | hback <;> simp [operating, endReload, loaderEnded, hresumed, hback] at hop
  have houtcome := attemptEnds_outcome octets s
  generalize attemptEnds octets s = t at houtcome ⊢
  cases houtcome with
  | none _ => exact h
  | waits => exact notices_congr hread rfl fun hop => hop
  | reloadEmpty _ r hr => exact hreload hr (readState octets s) rfl rfl r
  | loadEmpty hrun r hr =>
    exact notices_startUp (u := { readState octets s with loader := loaderEnded .defaults r (readState octets s).loader })
      hfull.1 (hloading hrun hr) rfl
  | reloaded _ im hr => exact hreload hr (writeRuns im (readState octets s)) rfl rfl _
  | loaded hrun im hr =>
    have hentered := applySettings_entered im (readState octets s)
    exact notices_startUp (entered_ok hentered hfull.1) (entered_noStartUp hentered (hloading hrun hr)) rfl

theorem notices_reset (c : Cause) (straps : BitVec 5) (s : State) : NoticesLegal (resetPart c straps s) :=
  notices_congr Resets.reset_noticesLegal rfl fun _ => rfl

theorem armChange_notices (n : Nat) (s : State) (h : NoticesLegal s) : NoticesLegal (armChange n s) := by
  unfold armChange
  split
  · split
    · exact notices_congr h rfl fun hop => hop
    · exact h
  · exact h

theorem notices_emitServiceWord (s : State) (h : NoticesLegal s) : NoticesLegal (emitServiceWord s) := by
  refine emitServiceWord_keeps (fun c straps s _ => notices_reset c straps s) armChange_notices (fun s h => ?_)
    (fun _ h => notices_congr h rfl fun hop => hop) (fun _ _ h => notices_congr h rfl fun hop => hop) s h
  rw [noticesLegal_iff] at h ⊢
  refine ⟨noticeEmitted_ok _ h.1, fun hop => ?_⟩
  simp only [noticeEmitted_list]
  exact h.2 hop

theorem notices_byEvents : ByEvents (fun s => MapLegal s ∧ NoticesLegal s) fun s => MapLegal s ∧ NoticesLegal s where
  reset c straps s _ := ⟨reset_loader_mapLegal c straps s, notices_reset c straps s⟩
  word l w s h := ⟨mapLegal_byEvents.word l w s h.1, (arriveWord_starts l w s).keeps notices_of_calm notices_start h.2⟩
  signal l s h := ⟨mapLegal_byEvents.signal l s h.1, notices_of_calm s _ (loseSignal_calm l s) h.2⟩
  timer s h := ⟨mapLegal_byEvents.timer s h.1, (timerExpires_starts s).keeps notices_of_calm notices_start h.2⟩
  pulse early s h :=
    ⟨mapLegal_byEvents.pulse early s h.1, (takePulse_starts early s).keeps notices_of_calm notices_start h.2⟩
  miss s h := ⟨mapLegal_byEvents.miss s h.1, (takeMiss_starts s).keeps notices_of_calm notices_start h.2⟩
  emitted s h := ⟨mapLegal_emitServiceWord s h.1, notices_emitServiceWord s h.2⟩
  attemptEnd octets s h := ⟨mapLegal_attemptEnds octets s h.1, notices_attemptEnds octets s h.1 h.2⟩

/-- Settles O59, beside the invariant of O54: START_UP is placed by the end of a start-up load alone. -/
theorem everyStepKeepsTheNoticeListLegal : Obligations.EveryStepKeepsTheNoticeListLegal := by
  unfold Obligations.EveryStepKeepsTheNoticeListLegal
  intro s t hmap h hstep
  exact (step_keeps notices_byOwnSteps notices_byEvents
    (fun _ _ h => ⟨mapLegal_congr h.1 rfl rfl, notices_congr h.2 rfl fun hop => hop⟩) hstep ⟨hmap, h⟩).2

end Sys2Proof.NoticeListKept
end

section
/-! SUPPORT. What a verified image has passed (R163), and what it carries. -/

namespace Sys2Proof.ImageFacts

open Sys2Proof.Machine

theorem judgeImage_verified_iff {octets : List Octet} {im : Image} :
    judgeImage octets = .verified im ↔
      num2 (flashOctet octets 0) (flashOctet octets 1) = Config.imageMarker ∧ headerPasses octets = true ∧
        ∃ rs, imageRecords octets = some rs ∧ recordsPass rs = true ∧ imageCheckGood octets = true ∧ im = imageOf rs := by
  unfold judgeImage
  by_cases hmarker : num2 (flashOctet octets 0) (flashOctet octets 1) = Config.imageMarker
  · cases hheader : headerPasses octets
    · simp [hmarker]
    · cases hrecords : imageRecords octets with
      | none => simp [hmarker]
      | some rs =>
        cases hpass : recordsPass rs <;> cases hcheck : imageCheckGood octets <;> simp [hmarker, hpass]
        exact ⟨Eq.symm, Eq.symm⟩
  · simp [hmarker]

theorem judgeImage_absent_iff (octets : List Octet) :
    judgeImage octets = .absent ↔ num2 (flashOctet octets 0) (flashOctet octets 1) ≠ Config.imageMarker := by
  unfold judgeImage
  by_cases hmarker : num2 (flashOctet octets 0) (flashOctet octets 1) = Config.imageMarker
  · simp only [hmarker, ne_eq, not_true_eq_false, if_false, iff_false]
    (repeat' split) <;> simp
  · simp [hmarker]

/-- A setting that an image carries stands in one of its records. -/
theorem mem_imageOf_settings {rs : List ImageRecord} {p : Octet × Num} (h : p ∈ (imageOf rs).settings) :
    ∃ r ∈ rs, (∃ a ss, r = .device a ss ∧ p ∈ ss) ∨ ∃ ss, r = .lane ss ∧ p ∈ ss := by
  induction rs with
  | nil => simp [imageOf] at h
  | cons r rs ih =>
    have later : p ∈ (imageOf rs).settings →
        ∃ r' ∈ r :: rs, (∃ a ss, r' = .device a ss ∧ p ∈ ss) ∨ ∃ ss, r' = .lane ss ∧ p ∈ ss := fun h => by
      obtain ⟨r', hr', hp⟩ := ih h
      exact ⟨r', by simp [hr'], hp⟩
    cases r with
    | device a ss =>
      rcases List.mem_append.1 h with h | h
      · exact ⟨_, by simp, .inl ⟨a, ss, rfl, h⟩⟩
      · exact later h
    | lane ss =>
      rcases List.mem_append.1 h with h | h
      · exact ⟨_, by simp, .inr ⟨ss, rfl, h⟩⟩
      · exact later h
    | mapRange r =>
      unfold imageOf at h
      split at h <;> exact later h

/-- The address of an image is 0, or a DEVICE record's. -/
theorem imageOf_address (rs : List ImageRecord) :
    (imageOf rs).address = 0 ∨ ∃ a ss, ImageRecord.device a ss ∈ rs ∧ (imageOf rs).address = a := by
  induction rs with
  | nil => exact .inl rfl
  | cons r rs ih =>
    have later : (imageOf rs).address = 0 ∨ ∃ a ss, ImageRecord.device a ss ∈ r :: rs ∧ (imageOf rs).address = a :=
      ih.imp id fun ⟨a, ss, hmem, ha⟩ => ⟨a, ss, by simp [hmem], ha⟩
    cases r with
    | device a ss => exact .inr ⟨a, ss, by simp, rfl⟩
    | lane ss => exact later
    | mapRange r =>
      unfold imageOf
      split <;> exact later

/-- Every value of a verified image is in range. -/
theorem verified_settings {octets : List Octet} {im : Image} (h : judgeImage octets = .verified im) :
    (∀ p ∈ im.settings, settingInRange p = true) ∧ im.address.toNat ≤ 30 := by
  obtain ⟨-, -, rs, -, hpass, -, rfl⟩ := judgeImage_verified_iff.1 h
  simp only [recordsPass, Bool.and_eq_true] at hpass
  have hvalues := List.all_eq_true.1 hpass.2
  constructor
  · intro p hp
    obtain ⟨r, hr, ⟨a, ss, rfl, hmem⟩ | ⟨ss, rfl, hmem⟩⟩ := mem_imageOf_settings hp
    · have hrange := hvalues _ hr
      simp only [valuesInRange, Bool.and_eq_true] at hrange
      exact List.all_eq_true.1 hrange.2 p hmem
    · exact List.all_eq_true.1 (hvalues _ hr) p hmem
  · obtain h0 | ⟨a, ss, hmem, ha⟩ := imageOf_address rs
    · simp [h0]
    · have hrange := hvalues _ hmem
      simp only [valuesInRange, Bool.and_eq_true, decide_eq_true_eq] at hrange
      rw [ha]
      exact hrange.1

/-- The value an image gives a parameter is one of its settings. -/
theorem imageValue_mem {p : Param} {im : Image} {v : Num} (h : imageValue p im = some v) :
    ∃ i, (i, v) ∈ im.settings ∧ paramOf i = some p := by
  simp only [imageValue, Option.map_eq_some_iff] at h
  obtain ⟨q, hlast, rfl⟩ := h
  have hmem := List.mem_of_getLast? hlast
  simp only [List.mem_filter, decide_eq_true_eq] at hmem
  exact ⟨q.1, hmem.1, hmem.2⟩

/-- The value a verified image gives a parameter is in its range. -/
theorem imageValue_inRange {octets : List Octet} {im : Image} (h : judgeImage octets = .verified im) {p : Param} {v : Num}
    (hv : imageValue p im = some v) : paramInRange p v = true := by
  obtain ⟨i, hmem, hp⟩ := imageValue_mem hv
  have hrange := (verified_settings h).1 _ hmem
  simpa [settingInRange, hp] using hrange

/-- The value applied for a parameter is in its range. -/
theorem appliedValue_inRange {octets : List Octet} {im : Image} (h : judgeImage octets = .verified im) {p : Param} {v : Num}
    {s : State} (hv : appliedValue p im s = some v) : paramInRange p v = true := by
  cases p with
  | ingressEnable => rfl
  | egressEnable => rfl
  | _ => exact imageValue_inRange h hv

end Sys2Proof.ImageFacts
end

section
/-! SUPPORT. The ranges of the parameters and the records of the checkers through every step. -/

namespace Sys2Proof.RangesKept

open Sys2Proof.Machine Sys2Proof.Closure Sys2Proof.CalmEvents Sys2Proof.MapKept Sys2Proof.ParamStores Sys2Proof.ImageFacts

/-! ### Parameters -/

/-- NOTICE_MASK as held stays as it is when its fixed bits are forced again. -/
theorem heldMask_heldMask (v : Num) : heldMask (heldMask v) = heldMask v := by
  have hfixed : (0x4001#16 &&& 0x7FFF#16) = 0x4001#16 := by decide
  unfold heldMask
  apply BitVec.eq_of_getLsbD_eq
  intro i hi
  have hbit : (0x4001#16).getLsbD i = true → (0x7FFF#16).getLsbD i = true := by
    intro h
    have hand := congrArg (fun x : Num => x.getLsbD i) hfixed
    simp only [BitVec.getLsbD_and, h, Bool.true_and] at hand
    exact hand
  simp only [BitVec.getLsbD_and, BitVec.getLsbD_or]
  revert hbit
  cases v.getLsbD i <;> cases (0x4001#16).getLsbD i <;> cases (0x7FFF#16).getLsbD i <;> simp

/-- The parameters that no block holds, each in its range, with the fixed bits of NOTICE_MASK. -/
structure ParamsOk (q : Params) : Prop where
  timingPrimary : paramInRange .timingPrimary q.timingPrimary = true
  timingSecondary : paramInRange .timingSecondary q.timingSecondary = true
  timingRevert : paramInRange .timingRevert q.timingRevert = true
  qualifyFrames : paramInRange .qualifyFrames q.qualifyFrames = true
  refinMiss : paramInRange .refinMiss q.refinMiss = true
  confirmCount : paramInRange .confirmCount q.confirmCount = true
  missLimit : paramInRange .missLimit q.missLimit = true
  noticeWait : paramInRange .noticeWait q.noticeWait = true
  noticeRetries : paramInRange .noticeRetries q.noticeRetries = true
  groups : ∀ i, paramInRange (.group i) (q.groups.get i) = true
  noticeMask : q.noticeMask = heldMask q.noticeMask

theorem genKindValue_inRange (g : GenId) (k : Option SequenceKind) : paramInRange (.genKind g) (genKindValue k) = true := by
  cases k with
  | none => rfl
  | some k => cases k <;> rfl

theorem laneNumber_inRange (l : LaneId) : within 0 15 (BitVec.ofNat 16 l.val) = true := by
  have := l.isLt
  simp only [within, BitVec.toNat_ofNat, Nat.zero_le, decide_true, Bool.true_and, decide_eq_true_eq]
  omega

theorem paramsInRange_iff (s : State) : ParamsInRange s ↔ ParamsOk s.params ∧ s.address.toNat ≤ 30 := by
  have haddress : paramInRange .deviceAddress (paramValue s .deviceAddress) = true ↔ s.address.toNat ≤ 30 := by
    have hlt : s.address.toNat < 2 ^ 16 := lt_of_lt_of_le s.address.isLt (by decide)
    simp [paramInRange, within, paramValue, Nat.mod_eq_of_lt (show s.address.toNat < 65536 from hlt)]
  constructor
  · rintro ⟨hall, hmask⟩
    have h : ∀ p ∈ everyParam, paramInRange p (paramValue s p) = true := hall
    refine ⟨⟨h .timingPrimary (by decide), h .timingSecondary (by decide), h .timingRevert (by decide),
      h .qualifyFrames (by decide), h .refinMiss (by decide), h .confirmCount (by decide), h .missLimit (by decide),
      h .noticeWait (by decide), h .noticeRetries (by decide), fun i => ?_, hmask⟩, haddress.1 (h _ (by decide))⟩
    exact h (.group i) (by fin_cases i <;> decide)
  · rintro ⟨h, ha⟩
    refine ⟨fun p _ => ?_, h.noticeMask⟩
    cases p with
    | deviceAddress => exact haddress.2 ha
    | timingPrimary => exact h.timingPrimary
    | timingSecondary => exact h.timingSecondary
    | timingRevert => exact h.timingRevert
    | qualifyFrames => exact h.qualifyFrames
    | refinMiss => exact h.refinMiss
    | mgmtIngress => exact laneNumber_inRange _
    | mgmtEgress => exact laneNumber_inRange _
    | ingressEnable => rfl
    | egressEnable => rfl
    | confirmCount => exact h.confirmCount
    | missLimit => exact h.missLimit
    | noticeMask => rfl
    | noticeWait => exact h.noticeWait
    | noticeRetries => exact h.noticeRetries
    | group i => exact h.groups i
    | genKind g => exact genKindValue_inRange g _

theorem paramsOk_stored {q : Params} (h : ParamsOk q) (p : Param) {v : Num} (hv : paramInRange p v = true) :
    ParamsOk (storedParams p v q) := by
  cases p with
  | timingPrimary => exact { h with timingPrimary := hv }
  | timingSecondary => exact { h with timingSecondary := hv }
  | timingRevert => exact { h with timingRevert := hv }
  | qualifyFrames => exact { h with qualifyFrames := hv }
  | refinMiss => exact { h with refinMiss := hv }
  | ingressEnable => exact { h with }
  | egressEnable => exact { h with }
  | confirmCount => exact { h with confirmCount := hv }
  | missLimit => exact { h with missLimit := hv }
  | noticeMask => exact { h with noticeMask := (heldMask_heldMask v).symm }
  | noticeWait => exact { h with noticeWait := hv }
  | noticeRetries => exact { h with noticeRetries := hv }
  | group i =>
    refine { h with groups := fun j => ?_ }
    simp only [storedParams, Tab.get_set]
    split
    · next hj => exact hj ▸ hv
    · exact h.groups j
  | _ => exact h

/-- The parameters and the address are in range. -/
def RangesOk (s : State) : Prop := ParamsOk s.params ∧ s.address.toNat ≤ 30

theorem ranges_congr {s t : State} (h : RangesOk s) (hparams : t.params = s.params) (haddress : t.address = s.address) :
    RangesOk t := by
  unfold RangesOk
  rwa [hparams, haddress]

theorem ranges_of_calm (s t : State) (hst : Calm s t) (h : RangesOk s) : RangesOk t := by
  obtain ⟨-, -, -, -, -, -, hparams, haddress, -⟩ := hst.kept
  exact ranges_congr h hparams haddress

theorem ranges_start (o : Option LaneId) (s : State) (h : RangesOk s) : RangesOk (masterFrameStart o s) :=
  ranges_congr h (by simp) (by simp)

theorem ranges_storeParam {p : Param} {v : Num} {s : State} (hv : paramInRange p v = true) (h : RangesOk s) :
    RangesOk (storeParam p v s) := by
  refine ⟨?_, by simpa using h.2⟩
  rw [storeParam_params]
  exact paramsOk_stored h.1 p hv

theorem ranges_item (n : Nat) (s t : State) (he : ItemEffect n s t) (h : RangesOk s) : RangesOk t := by
  cases he with
  | param p v hrange => exact ranges_storeParam hrange h
  | laneReset l => exact ranges_of_calm _ _ (resetLane_calm l s) h
  | checkStop c => exact ranges_of_calm _ _ (endChecker_calm c _ s) h
  | _ => exact ranges_congr h (by simp) (by simp)

theorem ranges_byExecution : ByExecution RangesOk where
  pop _ h := h
  serial _ h := h
  report _ h := h
  build _ _ h := ranges_congr h (by simp) (by simp)
  place _ _ h := ranges_congr h (by simp) (by simp)
  item n s t _ he h := ranges_item n s t he h
  reply _ _ _ h := h
  cache _ _ h := h
  dropGroup _ h := h
  record _ _ _ _ h := h

theorem takeCopyEnd_ranges (s : State) (h : RangesOk s) : RangesOk (takeCopyEnd s) := by
  unfold takeCopyEnd
  split
  · exact ranges_congr h (by simp) (by simp)
  · exact h

theorem storeOwedAbort_ranges (s : State) (h : RangesOk s) : RangesOk (storeOwedAbort s) := by
  unfold storeOwedAbort
  split
  · exact h
  · exact h

theorem ranges_byOwnSteps : ByOwnSteps RangesOk where
  copyEnd := takeCopyEnd_ranges
  checkEnd c s h := ranges_of_calm s _ (takeCheckEnd_calm c s) h
  surveyEnd s h := ranges_of_calm s _ (takeSurveyEnd_calm s) h
  expiry _ h := ranges_congr h (by simp) (by simp)
  attempt _ h := ranges_congr h (by simp) (by simp)
  abort := storeOwedAbort_ranges
  build _ h := ranges_congr h (by simp) (by simp)
  place _ h := ranges_congr h (by simp) (by simp)
  request := executeRequest_keeps ranges_byExecution
  group := executeGroup_keeps ranges_byExecution

theorem ranges_applySettings {octets : List Octet} {im : Image} (hv : judgeImage octets = .verified im) (s : State)
    (h : RangesOk s) : RangesOk (applySettings im s) := by
  refine applySettings_keeps im s (fun p _ u hu => ?_) ⟨h.1, ?_⟩
  · unfold applyParam
    split
    · next hvalue => exact ranges_storeParam (appliedValue_inRange hv hvalue) hu
    · exact hu
  · simp only [settingsBase, appliedAddress]
    split
    · exact (verified_settings hv).2
    · exact h.2

theorem ranges_attemptEnds (octets : List Octet) (s : State) (h : RangesOk s) : RangesOk (attemptEnds octets s) := by
  have houtcome := attemptEnds_outcome octets s
  generalize attemptEnds octets s = t at houtcome ⊢
  cases houtcome with
  | none _ => exact h
  | waits => exact h
  | reloadEmpty _ r => exact ranges_congr h (by simp [endReload, readState]) (by simp [endReload, readState])
  | loadEmpty _ r => exact h
  | reloaded _ im => exact ranges_congr h (by simp [endReload, writeRuns, readState]) (by simp [endReload, writeRuns, readState])
  | loaded _ im _ hv => exact ranges_applySettings hv (readState octets s) h

theorem strapAddress_le (straps : BitVec 5) : (strapAddress straps).toNat ≤ 30 := by
  unfold strapAddress
  split
  · decide
  · next hne =>
    have hlt := straps.isLt
    have hnot : straps.toNat ≠ 31 := fun h => hne (BitVec.eq_of_toNat_eq h)
    rw [BitVec.toNat_setWidth, Nat.mod_eq_of_lt (by omega)]
    omega

theorem ranges_reset (c : Cause) (straps : BitVec 5) (s : State) : RangesOk (resetPart c straps s) :=
  ⟨((paramsInRange_iff _).1 Resets.reset_paramsInRange).1, strapAddress_le straps⟩

theorem armChange_ranges (n : Nat) (s : State) (h : RangesOk s) : RangesOk (armChange n s) := by
  unfold armChange
  (repeat' split) <;> exact h

theorem ranges_byEvents : ByEvents RangesOk RangesOk where
  reset c straps s _ := ranges_reset c straps s
  word l w s h := (arriveWord_starts l w s).keeps ranges_of_calm ranges_start h
  signal l s h := ranges_of_calm s _ (loseSignal_calm l s) h
  timer s h := (timerExpires_starts s).keeps ranges_of_calm ranges_start h
  pulse early s h := (takePulse_starts early s).keeps ranges_of_calm ranges_start h
  miss s h := (takeMiss_starts s).keeps ranges_of_calm ranges_start h
  emitted s h := emitServiceWord_keeps (fun c straps s _ => ranges_reset c straps s) armChange_ranges (fun _ h => h)
    (fun _ h => h) (fun _ _ h => h) s h
  attemptEnd := ranges_attemptEnds

theorem step_keeps_paramsInRange (s t : State) (h : ParamsInRange s) (hstep : step s = .next t) : ParamsInRange t := by
  rw [paramsInRange_iff] at h ⊢
  exact step_keeps ranges_byOwnSteps ranges_byEvents (fun _ _ h => h) hstep h

/-! ### Checkers -/

/-- `checkerLegal`, clause by clause. -/
structure CheckerOk (k : Checker) : Prop where
  result : k.result.isSome = decide (k.state = .done)
  detected : k.detected.isSome = k.tracked
  track : k.state = .track → k.tracked = true ∧ k.erroredRun < Config.trackLimit
  detect : k.state = .detect → k.erroredRun = 0
  lost : k.lost = 0 ∨ k.errored ≠ 0
  remaining : k.remaining.toNat ≤ k.frameCount.toNat

theorem checkerLegal_iff (k : Checker) : checkerLegal k = true ↔ CheckerOk k := by
  simp only [checkerLegal, Bool.and_eq_true, Bool.or_eq_true, beq_iff_eq, decide_eq_true_eq]
  constructor
  · rintro ⟨⟨⟨⟨⟨h₁, h₂⟩, h₃⟩, h₄⟩, h₅⟩, h₆⟩
    exact ⟨h₁, h₂, fun h => h₃.resolve_left fun hn => hn h, fun h => h₄.resolve_left fun hn => hn h, h₅, h₆⟩
  · rintro ⟨h₁, h₂, h₃, h₄, h₅, h₆⟩
    exact ⟨⟨⟨⟨⟨h₁, h₂⟩, imp_iff_not_or.1 h₃⟩, imp_iff_not_or.1 h₄⟩, h₅⟩, h₆⟩

theorem checkerOk_ended {k : Checker} (h : CheckerOk k) (r : CheckResult) : CheckerOk (endedChecker r k) :=
  { h with result := by simp [endedChecker], track := by simp [endedChecker], detect := by simp [endedChecker] }

theorem checkerOk_started (l : LaneId) (t : SlotId) (frames : Num) : CheckerOk (startedChecker l t frames) := by
  constructor <;> simp [startedChecker, Checker.reset]

theorem checkerOk_detectWord {k : Checker} (h : CheckerOk k) (hs : k.state = .detect) (w : Word) :
    CheckerOk (detectWord w k) := by
  have hresult : k.result.isSome = false := by simpa [hs] using h.result
  unfold detectWord
  split
  · exact { h with }
  · split
    · exact { h with }
    · split
      · exact { h with }
      · exact { h with result := by simpa using hresult, detected := rfl, track := fun _ => ⟨rfl, Nat.zero_lt_succ 7⟩, detect := by simp }

theorem checkerOk_trackWord {k : Checker} (h : CheckerOk k) (hs : k.state = .track) (w : Word) :
    CheckerOk (trackWord w k) := by
  have hresult : k.result.isSome = false := by simpa [hs] using h.result
  have herrored : bump k.errored ≠ 0 := bump_ne_zero (by decide) _
  have htracked := (h.track hs).1
  unfold trackWord
  split
  · exact { h with track := fun _ => ⟨htracked, Nat.zero_lt_succ 7⟩, detect := by simp [hs] }
  · split
    · next hrun => exact { h with track := fun _ => ⟨htracked, hrun⟩, detect := by simp [hs], lost := .inr herrored }
    · exact { h with
        result := by simpa using hresult, track := by simp, detect := fun _ => rfl, lost := .inr herrored }

theorem checkerOk_sample {k : Checker} (h : CheckerOk k) (heard : Option Heard) : CheckerOk (sampleChecker heard k) := by
  unfold sampleChecker
  split
  case isFalse => exact h
  case isTrue hrun =>
    have hdown : CheckerOk { k with remaining := k.remaining - 1 } := by
      refine { h with remaining := ?_ }
      have hpos : k.remaining.toNat ≠ 0 := fun h0 => hrun.2 (BitVec.eq_of_toNat_eq h0)
      have hle := h.remaining
      have hlt := k.remaining.isLt
      simp only [BitVec.toNat_sub, BitVec.ofNat_eq_ofNat, BitVec.toNat_ofNat]
      omega
    split
    · next hs => exact checkerOk_detectWord hdown hs _
    · next hs => exact checkerOk_trackWord hdown hs _
    · exact hdown

theorem checkers_of_calm (s t : State) (hst : Calm s t) (h : CheckersLegal s) : CheckersLegal t := by
  intro c
  have hc := h c
  obtain hk | ⟨r, hk⟩ := hst.checkers c <;> rw [hk]
  · exact hc
  · rw [checkerLegal_iff] at hc ⊢
    exact checkerOk_ended hc r

theorem checkers_congr {s t : State} (h : CheckersLegal s) (hcheckers : t.checkers = s.checkers) : CheckersLegal t := by
  intro c
  rw [hcheckers]
  exact h c

theorem checkers_start (o : Option LaneId) (s : State) (h : CheckersLegal s) : CheckersLegal (masterFrameStart o s) := by
  intro c
  rw [Starts.checkers_get, checkerLegal_iff]
  exact checkerOk_sample ((checkerLegal_iff _).1 (h c)) _

theorem storeParam_checkers (p : Param) (v : Num) (s : State) (h : CheckersLegal s) : CheckersLegal (storeParam p v s) := by
  cases p with
  | ingressEnable => exact checkers_of_calm _ _ (writeIngressEnable_calm v s) h
  | _ => exact h

theorem checkers_item (n : Nat) (s t : State) (he : ItemEffect n s t) (h : CheckersLegal s) : CheckersLegal t := by
  cases he with
  | param p v => exact storeParam_checkers p v s h
  | laneReset l => exact checkers_of_calm _ _ (resetLane_calm l s) h
  | checkStop c => exact checkers_of_calm _ _ (endChecker_calm c _ s) h
  | checkStart c l slot frames =>
    intro d
    rw [setChecker_checkers, Tab.get_set]
    split
    · exact (checkerLegal_iff _).2 (checkerOk_started l slot frames)
    · exact h d
  | _ => exact checkers_congr h (by simp)

theorem checkers_byExecution : ByExecution CheckersLegal where
  pop _ h := h
  serial _ h := h
  report _ h := h
  build _ _ h := checkers_congr h (by simp)
  place _ _ h := checkers_congr h (by simp)
  item n s t _ he h := checkers_item n s t he h
  reply _ _ _ h := h
  cache _ _ h := h
  dropGroup _ h := h
  record _ _ _ _ h := h

theorem takeCopyEnd_checkers (s : State) : (takeCopyEnd s).checkers = s.checkers := by
  unfold takeCopyEnd
  split <;> simp

theorem storeOwedAbort_checkers (s : State) : (storeOwedAbort s).checkers = s.checkers := by
  unfold storeOwedAbort
  split <;> rfl

theorem checkers_byOwnSteps : ByOwnSteps CheckersLegal where
  copyEnd s h := checkers_congr h (takeCopyEnd_checkers s)
  checkEnd c s h := checkers_of_calm s _ (takeCheckEnd_calm c s) h
  surveyEnd s h := checkers_of_calm s _ (takeSurveyEnd_calm s) h
  expiry _ h := checkers_congr h (by simp)
  attempt _ h := checkers_congr h (by simp)
  abort s h := checkers_congr h (storeOwedAbort_checkers s)
  build _ h := checkers_congr h (by simp)
  place _ h := checkers_congr h (by simp)
  request := executeRequest_keeps checkers_byExecution
  group := executeGroup_keeps checkers_byExecution

theorem checkers_applySettings (im : Image) (s : State) (h : CheckersLegal s) : CheckersLegal (applySettings im s) := by
  refine applySettings_keeps im s (fun p _ u hu => ?_) h
  unfold applyParam
  split
  · exact storeParam_checkers _ _ u hu
  · exact hu

theorem checkers_attemptEnds (octets : List Octet) (s : State) (h : CheckersLegal s) :
    CheckersLegal (attemptEnds octets s) := by
  have houtcome := attemptEnds_outcome octets s
  generalize attemptEnds octets s = t at houtcome ⊢
  cases houtcome with
  | none _ => exact h
  | waits => exact h
  | reloadEmpty _ r => exact checkers_congr h (by simp [endReload, readState])
  | loadEmpty _ r => exact h
  | reloaded _ im => exact checkers_congr h (by simp [endReload, writeRuns, readState])
  | loaded _ im => exact checkers_applySettings im (readState octets s) h

theorem armChange_checkers (n : Nat) (s : State) : (armChange n s).checkers = s.checkers := by
  unfold armChange
  (repeat' split) <;> rfl

theorem checkers_byEvents : ByEvents CheckersLegal CheckersLegal where
  reset _ _ _ _ := Resets.reset_checkersLegal
  word l w s h := (arriveWord_starts l w s).keeps checkers_of_calm checkers_start h
  signal l s h := checkers_of_calm s _ (loseSignal_calm l s) h
  timer s h := (timerExpires_starts s).keeps checkers_of_calm checkers_start h
  pulse early s h := (takePulse_starts early s).keeps checkers_of_calm checkers_start h
  miss s h := (takeMiss_starts s).keeps checkers_of_calm checkers_start h
  emitted s h := emitServiceWord_keeps (fun _ _ _ _ => Resets.reset_checkersLegal)
    (fun n s h => checkers_congr h (armChange_checkers n s)) (fun _ h => h) (fun _ h => h) (fun _ _ h => h) s h
  attemptEnd := checkers_attemptEnds

/-- Settles O58: the parameters, and the checkers, through every piece of a step. -/
theorem everyStepKeepsParametersInRangeAndCheckersLegal :
    Obligations.EveryStepKeepsParametersInRangeAndCheckersLegal := by
  unfold Obligations.EveryStepKeepsParametersInRangeAndCheckersLegal
  exact ⟨step_keeps_paramsInRange,
    fun s t h hstep => step_keeps checkers_byOwnSteps checkers_byEvents (fun _ _ h => h) hstep h⟩

end Sys2Proof.RangesKept
end

section
/-! SUPPORT. What a lane that enters SEEK or OFF does to the other blocks (R15, R27, R41, R46, R101): one equation per block, the
notices it raises, and the statement LaneLeft for it. -/

namespace Sys2Proof.LaneGone

open Sys2Proof.Machine Sys2Proof.Raising Sys2Proof.Moves Sys2Proof.CalmEvents

/-! ### The choice at a loss, and the recentre of a lane entered -/

theorem chosenAtLoss_eq (t : Timing) (p : Params) : chosenAtLoss t p = choiceAtLoss t p := rfl

theorem recentred_eq_afterRecentre (st : Store) : recentred st = afterRecentre st := by
  rw [StartStatements.recentred_eq, afterRecentre]
  by_cases h : st.state = .idle <;> simp [h]

/-- The choice reads the qualification records alone. -/
theorem choiceAtLoss_congr {t u : Timing} (hlane : t.laneQual = u.laneQual) (hrefin : t.refinQual = u.refinQual)
    (p : Params) : choiceAtLoss t p = choiceAtLoss u p := by
  have hqualified : qualified t = qualified u := by
    funext src
    unfold qualified
    rw [hlane, hrefin]
  unfold choiceAtLoss
  rw [hqualified]

/-- A source that is not qualified is not chosen. -/
theorem chosenAtLoss_ne {t : Timing} {src : Source} (p : Params) (h : qualified t (some src) = false) :
    (chosenAtLoss t p).2 ≠ some src := by
  intro heq
  obtain ⟨-, hnone⟩ | ⟨-, -, hq⟩ := chosenAtLoss_legal t p
  · rw [hnone] at heq
    cases heq
  · rw [heq, h] at hq
    cases hq

/-! ### The disqualification of a lane (R41, R46) -/

/-- The lane is the current source. -/
def isSource (l : LaneId) (s : State) : Bool := decide (s.timing.source = some (.lane l))

/-- The part with the lane's qualification record cleared. -/
def unqualified (l : LaneId) (s : State) : State :=
  { s with timing := { s.timing with laneQual := s.timing.laneQual.set l ⟨false, 0⟩ } }

theorem disqualifyLane_of_source {l : LaneId} {s : State} (h : s.timing.source = some (.lane l)) :
    disqualifyLane l s = moveTiming (chosenAtLoss (unqualified l s).timing s.params) (unqualified l s) := by
  rw [disqualifyLane, if_pos h]
  rfl

theorem disqualifyLane_of_other {l : LaneId} {s : State} (h : s.timing.source ≠ some (.lane l)) :
    disqualifyLane l s = unqualified l s := by
  rw [disqualifyLane, if_neg h]
  rfl

/-- The source lost is not the source chosen. -/
theorem source_of_loss {l : LaneId} {s : State} : (chosenAtLoss (unqualified l s).timing s.params).2 ≠ some (.lane l) :=
  chosenAtLoss_ne _ (by simp [unqualified, qualified])

theorem moves_of_loss {l : LaneId} {s : State} (h : s.timing.source = some (.lane l)) :
    moves (chosenAtLoss (unqualified l s).timing s.params) (unqualified l s) = true := by
  have hne : s.timing.source ≠ (chosenAtLoss (unqualified l s).timing s.params).2 := h ▸ source_of_loss.symm
  simp only [moves, decide_eq_true_eq]
  exact .inr hne

/-- The choice made at the loss, read in the timing it leaves. -/
theorem disqualifyLane_timing (l : LaneId) (s : State) :
    (disqualifyLane l s).timing =
      { s.timing with
        laneQual := s.timing.laneQual.set l ⟨false, 0⟩
        state := if s.timing.source = some (.lane l) then (choiceAtLoss (disqualifyLane l s).timing s.params).1
          else s.timing.state
        source := if s.timing.source = some (.lane l) then (choiceAtLoss (disqualifyLane l s).timing s.params).2
          else s.timing.source } := by
  by_cases h : s.timing.source = some (.lane l)
  · have hchoice : choiceAtLoss (disqualifyLane l s).timing s.params = chosenAtLoss (unqualified l s).timing s.params := by
      rw [chosenAtLoss_eq]
      refine choiceAtLoss_congr (by simp [unqualified]) ?_ _
      rw [disqualifyLane_of_source h, moveTiming_timing]
    rw [hchoice, if_pos h, if_pos h, disqualifyLane_of_source h, moveTiming_timing]
    rfl
  · rw [disqualifyLane_of_other h, if_neg h, if_neg h]
    rfl

/-- The store of a lane that becomes the source is recentred; no other store changes. -/
theorem disqualifyLane_stores (l : LaneId) (s : State) (k : LaneId) :
    (disqualifyLane l s).stores.get k =
      if s.timing.source = some (.lane l) ∧ (disqualifyLane l s).timing.source = some (.lane k) then
        afterRecentre (s.stores.get k)
      else s.stores.get k := by
  by_cases h : s.timing.source = some (.lane l)
  · have hne : s.timing.source ≠ (chosenAtLoss (unqualified l s).timing s.params).2 := h ▸ source_of_loss.symm
    rw [disqualifyLane_of_source h, moveTiming_stores, recentred_eq_afterRecentre, moveTiming_timing]
    refine if_congr ?_ rfl rfl
    exact ⟨fun h' => ⟨h, h'.1⟩, fun h' => ⟨h'.2, hne⟩⟩
  · rw [disqualifyLane_of_other h, if_neg fun h' => h h'.1]
    rfl

/-- The lane disqualified does not stay the source. -/
theorem disqualifyLane_source_ne (l : LaneId) (s : State) : (disqualifyLane l s).timing.source ≠ some (.lane l) := by
  by_cases h : s.timing.source = some (.lane l)
  · rw [disqualifyLane_of_source h, moveTiming_timing]
    exact source_of_loss
  · rw [disqualifyLane_of_other h]
    exact h

theorem disqualifyLane_part (l : LaneId) (s : State) :
    Part (only (isSource l s) .timingChange .none) (isSource l s).toNat s (disqualifyLane l s) := by
  have hclear : Part (only false .timingChange .none) 0 s (unqualified l s) := .of_eq rfl rfl rfl
  by_cases h : s.timing.source = some (.lane l)
  · rw [disqualifyLane_of_source h]
    refine (hclear.trans (moveTiming_part _ _)).mono (fun k x hk => ?_) (by simp [isSource, h])
    simpa [either, only_iff, isSource, h, moves_of_loss h] using hk
  · rw [disqualifyLane_of_other h]
    exact hclear.mono (fun k x hk => by simp [only] at hk) (Nat.zero_le _)

theorem disqualifyLane_raised {l : LaneId} {s : State} (h : s.timing.source = some (.lane l)) :
    Raised 0 .timingChange .none
      [timingOctet (disqualifyLane l s).timing.state, sourceOctet (disqualifyLane l s).timing.source] s
      (disqualifyLane l s) := by
  have hraised := moveTiming_raised (moves_of_loss h)
  rw [disqualifyLane_of_source h, moveTiming_timing]
  exact raised_congr hraised rfl rfl

/-! ### The checkers that watch a lane (R101) -/

theorem runsOn_iff {l : LaneId} {s : State} {c : CheckerId} :
    runsOn l s c = true ↔ checking (s.checkers.get c) = true ∧ (s.checkers.get c).lane = l := by
  simp [runsOn, inProgress, checking]

/-- The checkers once the runs of those in `cs` that watch the lane have ended. -/
def endedOn (l : LaneId) (cs : List CheckerId) (s : State) : Tab 4 Checker :=
  Tab.ofFn fun c => if c ∈ cs ∧ runsOn l s c = true then endedChecker .laneLost (s.checkers.get c) else s.checkers.get c

theorem loseChecker_eq (l : LaneId) (c : CheckerId) (s : State) :
    loseChecker l c s =
      if runsOn l s c then
        raise .checkDone (.checker c) (checkDoneData .laneLost (s.checkers.get c))
          (setChecker c (endedChecker .laneLost (s.checkers.get c)) s)
      else s := by
  unfold loseChecker
  by_cases h : runsOn l s c = true
  · rw [if_pos (runsOn_iff.1 h), if_pos h]
    rfl
  · rw [if_neg fun h' => h (runsOn_iff.2 h'), if_neg h]

/-- A raise reads no checker. -/
theorem raise_withCheckers (k : NoticeKind) (x : Subject) (d : List Octet) (s : State) (c : CheckerId) (r : Checker)
    (ks : Tab 4 Checker) :
    { raise k x d (setChecker c r s) with checkers := ks } = raise k x d { s with checkers := ks } := by
  unfold raise
  cases h : noticeEnabled s.params.noticeMask k <;> simp [setChecker, h]

theorem loseChecker_checkers (l : LaneId) (c d : CheckerId) (s : State) :
    (loseChecker l c s).checkers.get d =
      if d = c ∧ runsOn l s c = true then endedChecker .laneLost (s.checkers.get d) else s.checkers.get d := by
  rw [loseChecker_eq]
  by_cases h : runsOn l s c = true
  · simp only [if_pos h, raise_frame, setChecker_checkers, Tab.get_set]
    by_cases hd : d = c
    · simp [hd, h]
    · simp [hd]
  · simp [h]

theorem runsOn_congr {s t : State} {c : CheckerId} (h : t.checkers.get c = s.checkers.get c) (l : LaneId) :
    runsOn l t c = runsOn l s c := by
  rw [runsOn, runsOn, h]

theorem raiseEach_congr {ι : Type} {kind : NoticeKind} {subject : ι → Subject} {due due' : ι → Bool}
    {data data' : ι → List Octet} {is : List ι} (h : ∀ i ∈ is, due i = due' i ∧ data i = data' i) (s : State) :
    raiseEach kind subject due data is s = raiseEach kind subject due' data' is s := by
  induction is generalizing s with
  | nil => rfl
  | cons i is ih =>
    rw [raiseEach_cons, raiseEach_cons, (h i (by simp)).1, (h i (by simp)).2]
    exact ih (fun j hj => h j (by simp [hj])) _

/-- The ends of the runs: each record ended, then each CHECK_DONE. -/
theorem foldl_loseChecker (l : LaneId) (cs : List CheckerId) (hcs : cs.Nodup) (s : State) :
    cs.foldl (fun s c => loseChecker l c s) s =
      raiseEach .checkDone .checker (runsOn l s) (fun c => checkDoneData .laneLost (s.checkers.get c)) cs
        { s with checkers := endedOn l cs s } := by
  induction cs generalizing s with
  | nil =>
    have hsame : endedOn l [] s = s.checkers := Tab.ext_get fun c => by simp [endedOn]
    rw [hsame]
    rfl
  | cons c cs ih =>
    have hc : c ∉ cs := (List.nodup_cons.1 hcs).1
    have hkept : ∀ d ∈ cs, (loseChecker l c s).checkers.get d = s.checkers.get d := fun d hd => by
      have hdc : d ≠ c := fun h => hc (h ▸ hd)
      simp [loseChecker_checkers, hdc]
    have hended : endedOn l cs (loseChecker l c s) = endedOn l (c :: cs) s := by
      refine Tab.ext_get fun d => ?_
      simp only [endedOn, Tab.get_ofFn]
      by_cases hd : d ∈ cs
      · rw [runsOn_congr (hkept d hd), hkept d hd]
        simp [hd]
      · rw [if_neg fun h => hd h.1, loseChecker_checkers]
        by_cases hdc : d = c
        · simp [hdc]
        · simp [hd, hdc]
    rw [List.foldl_cons, ih (List.nodup_cons.1 hcs).2, hended, raiseEach_cons]
    rw [raiseEach_congr fun d hd => ⟨runsOn_congr (hkept d hd) l, by rw [hkept d hd]⟩]
    congr 1
    rw [loseChecker_eq]
    split
    · exact raise_withCheckers ..
    · rfl

theorem loseCheckers_eq (l : LaneId) (s : State) :
    loseCheckers l s =
      raiseEach .checkDone .checker (runsOn l s) (fun c => checkDoneData .laneLost (s.checkers.get c)) (List.finRange 4)
        { s with checkers := endedOn l (List.finRange 4) s } :=
  foldl_loseChecker l _ (List.nodup_finRange 4) s

theorem loseCheckers_get (l : LaneId) (s : State) (c : CheckerId) :
    (loseCheckers l s).checkers.get c =
      if runsOn l s c then endedChecker .laneLost (s.checkers.get c) else s.checkers.get c := by
  rw [loseCheckers_eq, raiseEach_eq]
  simp [endedOn]

/-- Nothing changes but checkers and notices. -/
theorem loseCheckers_rest (l : LaneId) (s : State) :
    loseCheckers l s = { s with checkers := (loseCheckers l s).checkers, notices := (loseCheckers l s).notices } := by
  rw [loseCheckers_eq, raiseEach_eq]

/-- A CHECK_DONE for each run that watches the lane. -/
def checksDone (l : LaneId) (s : State) : NoticeKind → Subject → Bool :=
  eachOf .checkDone .checker (runsOn l s) (List.finRange 4)

theorem checksDone_iff {l : LaneId} {s : State} {k : NoticeKind} {x : Subject} :
    checksDone l s k x = true ↔ k = .checkDone ∧ ∃ c, x = .checker c ∧ runsOn l s c = true := by
  simp only [checksDone, eachOf, Bool.and_eq_true, decide_eq_true_eq, List.any_eq_true, List.mem_finRange, true_and]
  exact and_congr_right fun _ => exists_congr fun _ => and_comm

theorem loseCheckers_part (l : LaneId) (s : State) :
    Part (checksDone l s) ((List.finRange 4).countP (runsOn l s)) s (loseCheckers l s) := by
  have hraises := Part.raiseEach (kind := .checkDone) (subject := .checker) (due := runsOn l s)
    (datas := fun c => checkDoneData .laneLost (s.checkers.get c)) (by decide) (List.finRange 4)
    { s with checkers := endedOn l (List.finRange 4) s }
  rw [← loseCheckers_eq] at hraises
  exact hraises.congr rfl rfl rfl rfl rfl rfl

theorem erroredOctets_eq (k : Checker) :
    erroredOctets k =
      if k.errored.toNat ≤ 65534 then [octetAt k.errored 1, octetAt k.errored 0] else [0xFF#8, 0xFF#8] := by
  have hlow : octetAt (k.errored.setWidth 16) 0 = octetAt k.errored 0 := by
    simp only [octetAt]
    ext i hi
    simp [BitVec.getElem_extractLsb', BitVec.getLsbD_setWidth]
    omega
  have hhigh : octetAt (k.errored.setWidth 16) 1 = octetAt k.errored 1 := by
    simp only [octetAt]
    ext i hi
    simp [BitVec.getElem_extractLsb', BitVec.getLsbD_setWidth]
    omega
  unfold erroredOctets octets2
  rw [hlow, hhigh]
  refine if_congr Iff.rfl rfl ?_
  decide

theorem checkDoneData_laneLost (k : Checker) : checkDoneData .laneLost k = checkDoneOctets 0x05#8 k := by
  unfold checkDoneData checkDoneOctets
  rw [erroredOctets_eq]
  rfl

theorem loseCheckers_raised {l : LaneId} {s : State} {c : CheckerId} (h : runsOn l s c = true) :
    Raised ((List.finRange 4).countP (runsOn l s) - 1) .checkDone (.checker c) (checkDoneOctets 0x05#8 (s.checkers.get c)) s
      (loseCheckers l s) := by
  rw [loseCheckers_eq, ← checkDoneData_laneLost]
  refine raised_congr (raised_raiseEach (by decide) (fun _ _ h => by simpa using h) (List.nodup_finRange 4)
    (List.mem_finRange c) h _) rfl rfl

/-! ### All that a lane leaving brings about (R15) -/

/-- The lane's store idled and the lane disqualified, the checkers not yet told. -/
def storeGone (l : LaneId) (s : State) : State := disqualifyLane l (idleStore l s)

theorem laneGone_eq (l : LaneId) (s : State) : laneGone l s = loseCheckers l (storeGone l s) := rfl

theorem storeGone_checkers (l : LaneId) (s : State) : (storeGone l s).checkers = s.checkers := by simp [storeGone, idleStore]

theorem storeGone_runsOn (l : LaneId) (s : State) : runsOn l (storeGone l s) = runsOn l s := by
  funext c
  exact runsOn_congr (by rw [storeGone_checkers]) l

theorem laneGone_timing_disqualified (l : LaneId) (s : State) :
    (laneGone l s).timing = (disqualifyLane l (idleStore l s)).timing := by simp [laneGone]

theorem laneGone_stores_disqualified (l : LaneId) (s : State) :
    (laneGone l s).stores = (disqualifyLane l (idleStore l s)).stores := by simp [laneGone]

theorem laneGone_timing (l : LaneId) (s : State) :
    (laneGone l s).timing =
      { s.timing with
        laneQual := s.timing.laneQual.set l ⟨false, 0⟩
        state := if s.timing.source = some (.lane l) then (choiceAtLoss (laneGone l s).timing s.params).1
          else s.timing.state
        source := if s.timing.source = some (.lane l) then (choiceAtLoss (laneGone l s).timing s.params).2
          else s.timing.source } := by
  rw [laneGone_timing_disqualified]
  exact disqualifyLane_timing l (idleStore l s)

theorem laneGone_source_ne (l : LaneId) (s : State) : (laneGone l s).timing.source ≠ some (.lane l) := by
  rw [laneGone_timing_disqualified]
  exact disqualifyLane_source_ne l _

theorem laneGone_stores (l : LaneId) (s : State) (k : LaneId) :
    (laneGone l s).stores.get k =
      if k = l then idled (s.stores.get k)
      else if s.timing.source = some (.lane l) ∧ (laneGone l s).timing.source = some (.lane k) then
        afterRecentre (s.stores.get k)
      else s.stores.get k := by
  have hsource := laneGone_source_ne l s
  rw [laneGone_timing_disqualified] at hsource ⊢
  rw [laneGone_stores_disqualified, disqualifyLane_stores, idleStore_stores, Tab.get_set]
  by_cases hk : k = l
  · subst hk
    rw [if_neg fun h => hsource h.2]
    simp
  · simp only [if_neg hk]
    rfl

theorem laneGone_checkers (l : LaneId) (s : State) (c : CheckerId) :
    (laneGone l s).checkers.get c =
      if runsOn l s c then endedChecker .laneLost (s.checkers.get c) else s.checkers.get c := by
  rw [laneGone_eq, loseCheckers_get, storeGone_checkers, storeGone_runsOn]

/-- The notices are those of `leavesNotices`. -/
theorem laneGone_part (l : LaneId) (s : State) :
    Part (leavesNotices false l s) (noticesLeaving false l s) s (laneGone l s) := by
  have hidle : Part (only false .timingChange .none) 0 s (idleStore l s) := .of_eq rfl rfl rfl
  have hcheckers := loseCheckers_part l (storeGone l s)
  rw [storeGone_runsOn, ← laneGone_eq] at hcheckers
  refine ((hidle.trans (disqualifyLane_part l _)).trans hcheckers).mono ?_ ?_
  · intro k x h
    simp only [either, Bool.or_eq_true, only_iff, checksDone_iff, storeGone_runsOn, isSource] at h
    rcases h with (⟨h, -⟩ | ⟨h, rfl, rfl⟩) | ⟨rfl, c, rfl, h⟩
    · cases h
    · exact h
    · exact h
  · simp only [noticesLeaving, isSource, Bool.toNat_false, Nat.add_zero, Nat.zero_add]
    exact le_refl _

theorem laneGone_raised_change {l : LaneId} {s : State} (h : s.timing.source = some (.lane l)) :
    Raised (noticesLeaving false l s - 1) .timingChange .none
      [timingOctet (laneGone l s).timing.state, sourceOctet (laneGone l s).timing.source] s (laneGone l s) := by
  have hidle : Part (only false .timingChange .none) 0 s (idleStore l s) := .of_eq rfl rfl rfl
  have hraised := raised_within hidle (disqualifyLane_raised (s := idleStore l s) h) (loseCheckers_part l (storeGone l s))
    (by simp [checksDone, eachOf])
  rw [laneGone_timing_disqualified]
  exact raised_mono hraised (Nat.zero_le _)

theorem laneGone_raised_end {l : LaneId} {s : State} {c : CheckerId} (h : runsOn l s c = true) :
    Raised (noticesLeaving false l s - 1) .checkDone (.checker c) (checkDoneOctets 0x05#8 (s.checkers.get c)) s
      (laneGone l s) := by
  have hidle : Part (only false .timingChange .none) 0 s (idleStore l s) := .of_eq rfl rfl rfl
  have hraised := loseCheckers_raised (l := l) (s := storeGone l s) (c := c) (by rw [storeGone_runsOn]; exact h)
  rw [storeGone_runsOn, storeGone_checkers, ← laneGone_eq] at hraised
  have hafter : Part (only false .timingChange .none) 0 (laneGone l s) (laneGone l s) := .of_eq rfl rfl rfl
  refine raised_mono (raised_within (hidle.trans (disqualifyLane_part l _)) hraised hafter rfl) ?_
  have hpos : 0 < (List.finRange 4).countP (runsOn l s) := List.countP_pos_iff.2 ⟨c, List.mem_finRange c, h⟩
  simp only [noticesLeaving, isSource, Bool.toNat_false, Nat.add_zero]
  have : (idleStore l s).timing = s.timing := rfl
  rw [this]
  omega

/-! ### The statement LaneLeft -/

/-- What an event does around the leaving of a lane, which stands in it from `u` to `laneGone l u`: before it at most
`besides` notices and no change of stores, timing or checkers, behind it at most the abort of a survey. -/
structure Around (besides : Nat) (aborts : Bool) (l : LaneId) (before : NoticeKind → Subject → Bool) (b u t : State) :
    Prop where
  pre : Part before besides b u
  post : Part (only aborts .surveyDone .none) aborts.toNat (laneGone l u) t
  stores : u.stores = b.stores
  timing : u.timing = b.timing
  checkers : u.checkers = b.checkers
  params : u.params = b.params
  storesAfter : t.stores = (laneGone l u).stores
  timingAfter : t.timing = (laneGone l u).timing
  checkersAfter : t.checkers = (laneGone l u).checkers
  aborted : aborts = true →
    Raised 0 .surveyDone .none
      [BitVec.ofNat 8 l.val, 0x02#8, octetAt b.survey.observed 1, octetAt b.survey.observed 0] (laneGone l u) t

section Around

variable {besides : Nat} {aborts : Bool} {l : LaneId} {before : NoticeKind → Subject → Bool} {b u t : State}

theorem leavesNotices_congr (htiming : u.timing = b.timing) (hcheckers : u.checkers = b.checkers) :
    leavesNotices aborts l u = leavesNotices aborts l b := by
  funext k x
  unfold leavesNotices runsOn
  rw [htiming, hcheckers]

theorem noticesLeaving_congr (htiming : u.timing = b.timing) (hcheckers : u.checkers = b.checkers) :
    noticesLeaving aborts l u = noticesLeaving aborts l b := by
  have hruns : runsOn l u = runsOn l b := funext fun c => runsOn_congr (by rw [hcheckers]) l
  rw [noticesLeaving, noticesLeaving, htiming, hruns]

theorem noticesLeaving_aborts (l : LaneId) (b : State) :
    noticesLeaving aborts l b = noticesLeaving false l b + aborts.toNat := by simp [noticesLeaving]

/-- Part of the leaving between the same ends as `laneGone_part`, under the notices of `b`. -/
theorem Around.gone (h : Around besides aborts l before b u t) :
    Part (leavesNotices false l b) (noticesLeaving false l b) u (laneGone l u) := by
  have hgone := laneGone_part l u
  rwa [leavesNotices_congr h.timing h.checkers, noticesLeaving_congr h.timing h.checkers] at hgone

/-- All notices of the event. -/
theorem Around.part (h : Around besides aborts l before b u t) :
    Part (fun k x => before k x || leavesNotices aborts l b k x) (besides + noticesLeaving aborts l b) b t := by
  refine ((h.pre.trans h.gone).trans h.post).mono (fun k x hk => ?_) (by rw [noticesLeaving_aborts (aborts := aborts)]; omega)
  simp only [either, Bool.or_eq_true, only_iff] at hk ⊢
  obtain (hk | hk) | ⟨hk, rfl, rfl⟩ := hk
  · exact .inl hk
  · right
    unfold leavesNotices at hk ⊢
    split at hk
    · exact hk
    · exact hk
    · cases hk
    · cases hk
  · exact .inr hk

theorem Around.laneLeft (h : Around besides aborts l before b u t) : LaneLeft besides aborts l b t := by
  have hcount := noticesLeaving_aborts (aborts := aborts) l b
  constructor
  case store =>
    rw [h.storesAfter, laneGone_stores, if_pos rfl, h.stores]
    rfl
  case others =>
    intro k hk
    rw [h.storesAfter, laneGone_stores, if_neg hk, h.stores, h.timing, h.timingAfter]
  case timing =>
    rw [h.timingAfter]
    have heq := laneGone_timing l u
    rw [h.timing, h.params] at heq
    exact heq
  case change =>
    intro hsource
    rw [h.timingAfter]
    have hraised := laneGone_raised_change (l := l) (s := u) (by rw [h.timing]; exact hsource)
    rw [noticesLeaving_congr h.timing h.checkers] at hraised
    refine raised_mono (raised_within h.pre hraised h.post (by simp [only])) ?_
    have : 0 < noticesLeaving false l b := by simp [noticesLeaving, hsource]
    omega
  case checkers =>
    intro c
    rw [h.checkersAfter, laneGone_checkers, runsOn_congr (s := b) (by rw [h.checkers]), h.checkers]
    refine if_congr ?_ rfl rfl
    simp [runsOn, inProgress]
  case ended =>
    intro c hc
    have hraised := laneGone_raised_end (l := l) (s := u) (c := c)
      (by rwa [runsOn_congr (s := b) (by rw [h.checkers])])
    rw [noticesLeaving_congr h.timing h.checkers, h.checkers] at hraised
    refine raised_mono (raised_within h.pre hraised h.post (by simp [only])) ?_
    have : 0 < (List.finRange 4).countP (runsOn l b) := List.countP_pos_iff.2 ⟨c, List.mem_finRange c, hc⟩
    have : 0 < noticesLeaving false l b := by unfold noticesLeaving; omega
    omega
  case aborted =>
    intro habort
    have hnone : Part (only false .timingChange .none) 0 t t := .of_eq rfl rfl rfl
    refine raised_mono (raised_within (h.pre.trans h.gone) (h.aborted habort) hnone rfl) ?_
    simp only [habort, Bool.toNat_true] at hcount
    simp only [habort]
    omega

end Around

/-- The leaving alone. -/
theorem around_laneGone (besides : Nat) (l : LaneId) {b u : State} {before : NoticeKind → Subject → Bool}
    (pre : Part before besides b u) (stores : u.stores = b.stores) (timing : u.timing = b.timing)
    (checkers : u.checkers = b.checkers) (params : u.params = b.params) {t : State}
    (ht : t = laneGone l u) : Around besides false l before b u t := by
  subst ht
  exact ⟨pre, .of_eq rfl rfl rfl, stores, timing, checkers, params, rfl, rfl, rfl, fun h => by cases h⟩

end Sys2Proof.LaneGone
end

section
/-! SUPPORT. The words of a lane (R1 to R14), by the state in which they find its receiver. -/

namespace Sys2Proof.LaneWords

open Sys2Proof.Machine Sys2Proof.Raising Sys2Proof.LaneGone Sys2Proof.CalmEvents

/-! ### The receiver that takes a word -/

theorem exec_wordArrival {s b : State} (hb : settle s = b) (l : LaneId) (w : Word) (f : Bool) :
    exec (.wordArrival l w f) s = .next (arriveWord l ⟨w, f⟩ b) := by
  rw [← hb]
  rfl

theorem setLane_setLane (l : LaneId) (r r' : Lane) (s : State) : setLane l r (setLane l r' s) = setLane l r s := by
  simp [setLane]

theorem validMarker_iff {w : Word} {f : Bool} :
    validMarker ⟨w, f⟩ = true ↔ w.extractLsb' 16 16 = 0x2D71#16 ∧ f = false := by
  unfold validMarker
  rw [Bool.and_eq_true, Bool.not_eq_true']
  exact and_congr_left' decide_eq_true_iff

theorem validMarker_eq_false_iff {w : Word} {f : Bool} :
    validMarker ⟨w, f⟩ = false ↔ w.extractLsb' 16 16 ≠ 0x2D71#16 ∨ f = true := by
  rw [← Bool.not_eq_true, validMarker_iff]
  cases f <;> simp

theorem countCode_eq (w : Word) (f : Bool) (r : Lane) :
    countCode ⟨w, f⟩ r = { r with codeErrors := if f then bump r.codeErrors else r.codeErrors } := by
  unfold countCode
  cases f <;> rfl

/-- The receiver that has counted the word and moved on. -/
def taken (f : Bool) (r : Lane) : Lane :=
  { r with position := r.position + 1, codeErrors := if f then bump r.codeErrors else r.codeErrors }

theorem stepPosition_countCode (w : Word) (f : Bool) (r : Lane) : stepPosition (countCode ⟨w, f⟩ r) = taken f r := by
  rw [countCode_eq]
  rfl

variable {l : LaneId} {w : Word} {f : Bool} {s : State}

theorem arriveWord_off (h : (s.lanes.get l).align = .off) (e : Heard) : arriveWord l e s = s := by
  unfold arriveWord
  rw [h]

theorem arriveWord_seek (h : (s.lanes.get l).align = .seek) :
    arriveWord l ⟨w, f⟩ s = seekWord l ⟨w, f⟩ (setLane l (countCode ⟨w, f⟩ (s.lanes.get l)) s) := by
  unfold arriveWord
  rw [h]

theorem arriveWord_confirm (h : (s.lanes.get l).align = .confirm) :
    arriveWord l ⟨w, f⟩ s =
      if (s.lanes.get l).position = 0 then confirmMarker l ⟨w, f⟩ (setLane l (taken f (s.lanes.get l)) s)
      else setLane l (taken f (s.lanes.get l)) s := by
  unfold arriveWord
  rw [h]
  simp only [stepPosition_countCode, confirmWord]

theorem arriveWord_aligned (h : (s.lanes.get l).align = .sync ∨ (s.lanes.get l).align = .drift) :
    arriveWord l ⟨w, f⟩ s =
      alignedWord l (s.lanes.get l).position ⟨w, f⟩ (setLane l (taken f (s.lanes.get l)) s) := by
  unfold arriveWord
  rcases h with h | h <;> rw [h] <;> simp only [stepPosition_countCode]

/-- Settles O7. -/
theorem wordInOffIsDiscardedAndInSeekIsTested : Obligations.WordInOffIsDiscardedAndInSeekIsTested := by
  unfold Obligations.WordInOffIsDiscardedAndInSeekIsTested
  rintro l w f s b r hb rfl
  rw [exec_wordArrival hb]
  constructor
  · intro h
    rw [arriveWord_off h]
  · intro h
    rw [arriveWord_seek h]
    refine congrArg Host.Outcome.next ?_
    unfold seekWord
    by_cases hmarker : validMarker ⟨w, f⟩ = true
    · obtain ⟨hpattern, rfl⟩ := validMarker_iff.1 hmarker
      rw [if_pos hmarker, setLane_setLane, if_pos ⟨hpattern, rfl⟩]
      simp [setLane, seekFound, countCode, markerNumber]
    · rw [if_neg hmarker, if_neg fun h => hmarker (validMarker_iff.2 h), countCode_eq]
      rfl

/-! ### CONFIRM -/

/-- An abandoned confirmation is the leaving of its lane, and nothing else. -/
theorem abandonConfirm_around (l : LaneId) (r : Lane) (b : State) :
    Around 0 false l (only false .timingChange .none) b (setLane l (unconfirmed r) b) (abandonConfirm l (setLane l r b)) := by
  have heq : abandonConfirm l (setLane l r b) = laneGone l (setLane l (unconfirmed r) b) := by
    unfold abandonConfirm
    rw [setLane_lanes, Tab.get_set_self, setLane_setLane]
  exact around_laneGone (b := b) (u := setLane l (unconfirmed r) b) 0 l (.of_eq rfl rfl rfl) rfl rfl rfl rfl heq

theorem noticesKept_of_leaving {before : NoticeKind → Subject → Bool} {n : Nat} {aborts : Bool} {b u t : State}
    (hbefore : ∀ k x, before k x = false) (h : Around n aborts l before b u t) :
    NoticesKept (leavesNotices aborts l b) b t :=
  h.part.kept.mono fun k x hk => by simpa [hbefore] using hk

theorem abandonConfirm_lanes (l : LaneId) (s : State) :
    (abandonConfirm l s).lanes = s.lanes.set l (unconfirmed (s.lanes.get l)) := by simp [abandonConfirm]

/-- All that an abandoned confirmation does. -/
theorem abandonConfirm_effects (l : LaneId) (r : Lane) (b : State) :
    (abandonConfirm l (setLane l r b)).lanes = b.lanes.set l (unconfirmed r) ∧
      LaneLeft 0 false l b (abandonConfirm l (setLane l r b)) ∧ (abandonConfirm l (setLane l r b)).survey = b.survey ∧
      (abandonConfirm l (setLane l r b)).channel = b.channel ∧
      NoticesKept (leavesNotices false l b) b (abandonConfirm l (setLane l r b)) ∧
      OtherBlocksKept b (abandonConfirm l (setLane l r b)) := by
  have haround := abandonConfirm_around l r b
  exact ⟨by simp [abandonConfirm_lanes], haround.laneLeft, by simp, by simp,
    noticesKept_of_leaving (fun _ _ => by simp [only]) haround,
    ((setLane_calm l r b).trans (abandonConfirm_calm l _)).kept⟩

/-- Settles O8. -/
theorem wordInConfirmCountsMarkersOrFails : Obligations.WordInConfirmCountsMarkersOrFails := by
  unfold Obligations.WordInConfirmCountsMarkersOrFails
  rintro l w f s b r hb rfl hconfirm
  rw [exec_wordArrival hb]
  clear hb s
  have harrive := arriveWord_confirm (w := w) (f := f) hconfirm
  refine ⟨fun hp => ?_, fun hp hw hf hseq hcount => ?_, fun hp hw hf hseq hcount => ?_, fun hp hw hf hseq => ?_,
    fun hp hbad => ?_⟩
  case refine_1 =>
    rw [if_neg hp] at harrive
    exact congrArg Host.Outcome.next harrive
  all_goals rw [if_pos hp] at harrive; unfold confirmMarker at harrive
  case refine_2 =>
    have hin : inSequence (taken f (b.lanes.get l)) ⟨w, f⟩ = true := by simp [inSequence, markerNumber, taken, hseq]
    rw [if_pos (validMarker_iff.2 ⟨hw, hf⟩)] at harrive
    simp only [setLane_lanes, Tab.get_set_self, setLane_params, setLane_setLane, hin, if_true] at harrive
    rw [if_neg (by simp only [taken]; omega)] at harrive
    refine congrArg Host.Outcome.next (harrive.trans ?_)
    simp [setLane, taken, hp, hf, markerNumber, hseq]
  case refine_3 =>
    have hin : inSequence (taken f (b.lanes.get l)) ⟨w, f⟩ = true := by simp [inSequence, markerNumber, taken, hseq]
    rw [if_pos (validMarker_iff.2 ⟨hw, hf⟩)] at harrive
    simp only [setLane_lanes, Tab.get_set_self, setLane_params, hin, if_true] at harrive
    rw [if_pos (by simpa only [taken] using hcount)] at harrive
    refine congrArg Host.Outcome.next (harrive.trans ?_)
    simp [gainSync, setStore, setLane, taken, hp, hf, markerNumber, hseq, beginFrame, opened, octets2]
  case refine_4 =>
    have hin : inSequence (taken f (b.lanes.get l)) ⟨w, f⟩ = false := decide_eq_false hseq
    rw [if_pos (validMarker_iff.2 ⟨hw, hf⟩)] at harrive
    simp only [setLane_lanes, Tab.get_set_self, setLane_setLane, hin, Bool.false_eq_true, if_false] at harrive
    refine congrArg Host.Outcome.next (harrive.trans ?_)
    simp [setLane, taken, hp, hf, markerNumber]
  case refine_5 =>
    rw [if_neg (by rw [validMarker_eq_false_iff.2 hbad]; simp)] at harrive
    refine ⟨_, congrArg Host.Outcome.next harrive, ?_⟩
    obtain ⟨hlanes, hrest⟩ := abandonConfirm_effects l (taken f (b.lanes.get l)) b
    refine ⟨hlanes.trans ?_, hrest⟩
    simp [unconfirmed, taken, hp]

end Sys2Proof.LaneWords
end

section
/-! SUPPORT. Items past their common tests (R125, R128, R132), and octets as numbers within a range. -/

namespace Sys2Proof.ItemRuns

open Sys2Proof.Machine

/-- An item of a known kind with an allowed length that is permitted runs under its own rule. -/
theorem judgeItem_runs {group : Bool} {raw : RawItem} {k : ItemKind} (hkind : itemKind raw.kind = some k)
    (hlength : lengthAllowed k raw.args.length = true) (hgroup : group = false ∨ permittedInGroup k = true)
    (serial : Nat) (s : State) : judgeItem group serial raw s = runItem group serial k raw.args s := by
  unfold judgeItem
  rw [hkind]
  simp only [hlength, Bool.not_true, Bool.false_eq_true, if_false]
  rcases hgroup with rfl | h
  · rfl
  · rw [h, Bool.not_true, Bool.and_false]
    rfl

variable (group : Bool) (serial : Nat) (s : State)

theorem judgeItem_laneReset (o : Octet) :
    judgeItem group serial { kind := 0x0B#8, args := [o] } s = itemLaneReset [o] s :=
  judgeItem_runs (k := .laneReset) (raw := ⟨0x0B#8, [o]⟩) rfl rfl (.inr rfl) serial s

theorem judgeItem_paramWrite (i hi lo : Octet) :
    judgeItem group serial { kind := 0x04#8, args := [i, hi, lo] } s = itemParamWrite group serial [i, hi, lo] s :=
  judgeItem_runs (k := .paramWrite) (raw := ⟨0x04#8, [i, hi, lo]⟩) rfl rfl (.inr rfl) serial s

theorem laneOf_of_eq {o : Octet} {l : LaneId} (h : o.toNat = l.val) : laneOf o = some l := by
  unfold laneOf
  rw [dif_pos (h ▸ l.isLt)]
  simp [h]

theorem laneOf_of_ge {o : Octet} (h : 16 ≤ o.toNat) : laneOf o = none := by
  unfold laneOf
  rw [dif_neg (by omega)]

end Sys2Proof.ItemRuns
end

section
/-! SUPPORT. The loss of alignment (R12): its three causes, and all that follows from it. -/

namespace Sys2Proof.LaneLoss

open Sys2Proof.Machine Sys2Proof.Raising Sys2Proof.LaneGone Sys2Proof.LaneWords Sys2Proof.CalmEvents Sys2Proof.ItemRuns
  Sys2Proof.StartChannel

/-! ### The survey of a lane -/

theorem surveyCounts_iff {l : LaneId} {v : Survey} :
    surveyCounts l v = true ↔ v.state = .running ∧ v.lane = l ∧ v.first.isSome ∧ v.remaining ≠ 0 := by
  simp [surveyCounts, and_assoc]

theorem surveySyncLoss_survey (l : LaneId) (s : State) :
    (surveySyncLoss l s).survey =
      if s.survey.state = .running ∧ s.survey.lane = l ∧ s.survey.first.isSome ∧ s.survey.remaining ≠ 0 then
        { s.survey with syncLosses := bump s.survey.syncLosses }
      else s.survey := by
  unfold surveySyncLoss
  by_cases h : surveyCounts l s.survey = true
  · rw [if_pos h, if_pos (surveyCounts_iff.1 h)]
  · rw [if_neg h, if_neg fun h' => h (surveyCounts_iff.2 h')]

theorem surveyMarkerMiss_eq (l : LaneId) (s : State) :
    surveyMarkerMiss l s =
      { s with
        survey :=
          if s.survey.state = .running ∧ s.survey.lane = l ∧ s.survey.first.isSome ∧ s.survey.remaining ≠ 0 then
            { s.survey with markerMisses := bump s.survey.markerMisses }
          else s.survey } := by
  unfold surveyMarkerMiss
  by_cases h : surveyCounts l s.survey = true
  · rw [if_pos h, if_pos (surveyCounts_iff.1 h)]
  · rw [if_neg h, if_neg fun h' => h (surveyCounts_iff.2 h')]

/-- A count of the survey leaves its state, its lane and the frames observed. -/
theorem surveySyncLoss_fields (l : LaneId) (s : State) :
    (surveySyncLoss l s).survey.state = s.survey.state ∧ (surveySyncLoss l s).survey.lane = s.survey.lane ∧
      (surveySyncLoss l s).survey.observed = s.survey.observed := by
  unfold surveySyncLoss
  split <;> exact ⟨rfl, rfl, rfl⟩

theorem abortSurvey_eq (l : LaneId) (s : State) :
    abortSurvey l s =
      if surveysLane l s then
        raise .surveyDone .none (surveyDoneData 0x02#8 s.survey) { s with survey := { s.survey with state := .aborted } }
      else s := by
  unfold abortSurvey surveysLane
  simp only [decide_eq_true_eq]

theorem abortSurvey_survey (l : LaneId) (s : State) :
    (abortSurvey l s).survey = surveyAfter (surveysLane l s) s.survey := by
  rw [abortSurvey_eq]
  cases h : surveysLane l s <;> simp [surveyAfter]

theorem abortSurvey_part (l : LaneId) (s : State) :
    Part (only (surveysLane l s) .surveyDone .none) (surveysLane l s).toNat s (abortSurvey l s) := by
  rw [abortSurvey_eq]
  cases h : surveysLane l s
  · exact .of_eq rfl rfl rfl
  · have hraise : Part (only true .surveyDone .none) 1 { s with survey := { s.survey with state := .aborted } }
        (raise .surveyDone .none (surveyDoneData 0x02#8 s.survey) { s with survey := { s.survey with state := .aborted } }) :=
      .raise (by decide) _ _ _ (by simp [only])
    exact hraise.congr rfl rfl rfl rfl rfl rfl

theorem abortSurvey_raised {l : LaneId} {s : State} (h : surveysLane l s = true) :
    Raised 0 .surveyDone .none
      [BitVec.ofNat 8 l.val, 0x02#8, octetAt s.survey.observed 1, octetAt s.survey.observed 0] s (abortSurvey l s) := by
  have hlane : s.survey.lane = l := (of_decide_eq_true h).2
  have hdata : surveyDoneData 0x02#8 s.survey =
      [BitVec.ofNat 8 l.val, 0x02#8, octetAt s.survey.observed 1, octetAt s.survey.observed 0] := by
    rw [surveyDoneData, hlane]
    rfl
  rw [abortSurvey_eq, if_pos h, hdata]
  exact raised_congr (raised_raise _ _ _ _) rfl rfl

theorem surveysLane_congr {s t : State} (hstate : t.survey.state = s.survey.state) (hlane : t.survey.lane = s.survey.lane)
    (l : LaneId) : surveysLane l t = surveysLane l s := by
  rw [surveysLane, surveysLane, hstate, hlane]

/-! ### The loss -/

theorem lostLane_eq (r : Lane) : lostLane r = laneAfterLoss r := by
  unfold lostLane laneAfterLoss bump
  by_cases h : r.syncLosses = 0xFFFF#16 <;> simp [h]

/-- The receiver lost, SYNC_LOST raised and the survey told. -/
def lossTold (l : LaneId) (cause : Octet) (s : State) : State :=
  surveySyncLoss l
    (raise .syncLost (.lane l) (syncLostData cause (s.lanes.get l)) (setLane l (lostLane (s.lanes.get l)) s))

theorem loseAlignment_eq (l : LaneId) (cause : Octet) (s : State) :
    loseAlignment l cause s = parserLosesLane l (laneGone l (lossTold l cause s)) := rfl

theorem parserLosesLane_eq (l : LaneId) (s : State) :
    parserLosesLane l s =
      { s with channel := if s.channel.mgmtIngress = l then channelAbandoned s.starts s.channel else s.channel } := by
  unfold parserLosesLane
  split
  · exact abandonMessage_eq s
  · rfl

/-- The notice that a loss begins with. -/
theorem lossTold_raised (l : LaneId) (cause : Octet) (s : State) :
    Raised 0 .syncLost (.lane l) [cause, octetAt (s.lanes.get l).last 1, octetAt (s.lanes.get l).last 0] s
      (lossTold l cause s) := by
  have hset : Part (only false .timingChange .none) 0 s (setLane l (lostLane (s.lanes.get l)) s) := .of_eq rfl rfl rfl
  have htold : Part (only false .timingChange .none) 0
      (raise .syncLost (.lane l) (syncLostData cause (s.lanes.get l)) (setLane l (lostLane (s.lanes.get l)) s))
      (lossTold l cause s) := .of_eq (by simp [lossTold]) (by simp [lossTold]) (by simp [lossTold])
  exact raised_within hset (raised_raise _ _ _ _) htold rfl

theorem lossTold_part (l : LaneId) (cause : Octet) (s : State) :
    Part (only true .syncLost (.lane l)) 1 s (lossTold l cause s) := by
  have hraise : Part (only true .syncLost (.lane l)) 1 (setLane l (lostLane (s.lanes.get l)) s)
      (raise .syncLost (.lane l) (syncLostData cause (s.lanes.get l)) (setLane l (lostLane (s.lanes.get l)) s)) :=
    .raise (by decide) _ _ _ (by simp [only])
  exact hraise.congr rfl rfl rfl (by simp [lossTold]) (by simp [lossTold]) (by simp [lossTold])

theorem lossTold_survey (l : LaneId) (cause : Octet) (s : State) :
    (lossTold l cause s).survey =
      if s.survey.state = .running ∧ s.survey.lane = l ∧ s.survey.first.isSome ∧ s.survey.remaining ≠ 0 then
        { s.survey with syncLosses := bump s.survey.syncLosses }
      else s.survey := by
  unfold lossTold
  rw [surveySyncLoss_survey]
  simp only [raise_frame, setLane_survey]

theorem lossTold_fields (l : LaneId) (cause : Octet) (s : State) :
    (lossTold l cause s).survey.state = s.survey.state ∧ (lossTold l cause s).survey.lane = s.survey.lane ∧
      (lossTold l cause s).survey.observed = s.survey.observed := by
  have h := surveySyncLoss_fields l
    (raise .syncLost (.lane l) (syncLostData cause (s.lanes.get l)) (setLane l (lostLane (s.lanes.get l)) s))
  simp only [raise_frame, setLane_survey] at h
  exact h

/-- A loss of alignment by an event that aborts no survey. -/
theorem around_loss (l : LaneId) (cause : Octet) (s : State) :
    Around 1 false l (only true .syncLost (.lane l)) s (lossTold l cause s) (loseAlignment l cause s) := by
  rw [loseAlignment_eq]
  generalize hgone : laneGone l (lossTold l cause s) = v
  have hpost : Part (only false .surveyDone .none) 0 v (parserLosesLane l v) := .of_eq (by simp) (by simp) (by simp)
  refine ⟨lossTold_part l cause s, by rw [hgone]; exact hpost, by simp [lossTold], by simp [lossTold], by simp [lossTold],
    by simp [lossTold], ?_, ?_, ?_, fun h => by cases h⟩
  all_goals rw [hgone]; simp

/-- A loss of alignment by LANE_RESET, which aborts a survey of the lane. -/
theorem around_reset (l : LaneId) (cause : Octet) (s : State) :
    Around 1 (surveysLane l s) l (only true .syncLost (.lane l)) s (lossTold l cause s)
      (abortSurvey l (loseAlignment l cause s)) := by
  have hloss := around_loss l cause s
  have hsurvey : (loseAlignment l cause s).survey = (lossTold l cause s).survey := by simp [loseAlignment, lossTold]
  obtain ⟨hstate, hlane, hobserved⟩ := lossTold_fields l cause s
  have hsurveys : surveysLane l (loseAlignment l cause s) = surveysLane l s :=
    surveysLane_congr (by rw [hsurvey, hstate]) (by rw [hsurvey, hlane]) l
  have habort := abortSurvey_part l (loseAlignment l cause s)
  rw [hsurveys] at habort
  refine ⟨hloss.pre, ?_, hloss.stores, hloss.timing, hloss.checkers, hloss.params, ?_, ?_, ?_, fun h => ?_⟩
  · refine (hloss.post.trans habort).mono (fun k x hk => ?_) (by simp)
    simpa [either, only] using hk
  · rw [← hloss.storesAfter]; simp
  · rw [← hloss.timingAfter]; simp
  · rw [← hloss.checkersAfter]; simp
  · have hraised := abortSurvey_raised (hsurveys.trans h)
    rw [hsurvey, hobserved] at hraised
    generalize abortSurvey l (loseAlignment l cause s) = t at hraised
    have hwithin := raised_within hloss.post hraised (Part.of_eq (may := only false .timingChange .none) (n := 0) rfl rfl rfl) rfl
    exact raised_mono hwithin (by simp)

/-- What the abort of a survey does not touch. -/
theorem alignmentLost_of_around {aborts : Bool} {l : LaneId} {cause : Octet} {s t : State}
    (h : Around 1 aborts l (only true .syncLost (.lane l)) s (lossTold l cause s) t)
    (hlanes : t.lanes = (loseAlignment l cause s).lanes) (hchannel : t.channel = (loseAlignment l cause s).channel)
    (hsurvey : t.survey = surveyAfter aborts (lossTold l cause s).survey)
    (hkept : OtherBlocksKept s t) : AlignmentLost aborts l cause s t := by
  constructor
  case lanes =>
    rw [hlanes, ← lostLane_eq]
    simp [loseAlignment]
  case left => exact h.laneLeft
  case survey => rw [hsurvey, lossTold_survey]
  case channel =>
    rw [hchannel, loseAlignment_eq, parserLosesLane_eq]
    simp [lossTold]
  case notice =>
    have hdone : Part (fun k x => leavesNotices false l s k x || only aborts .surveyDone .none k x) _
        (lossTold l cause s) t := h.gone.trans h.post
    refine raised_mono (raised_within (Part.of_eq (may := only false .timingChange .none) (n := 0) rfl rfl rfl)
      (lossTold_raised l cause s) hdone ?_) (Nat.zero_le _)
    simp [leavesNotices, only]
  case notices =>
    refine h.part.kept.mono fun k x hk => ?_
    simpa [only] using hk
  case kept => exact hkept

theorem alignmentLost_loss (l : LaneId) (cause : Octet) (s : State) :
    AlignmentLost false l cause s (loseAlignment l cause s) :=
  alignmentLost_of_around (around_loss l cause s) rfl rfl (by simp [loseAlignment, lossTold, surveyAfter])
    (loseAlignment_calm l cause s).kept

theorem alignmentLost_reset (l : LaneId) (cause : Octet) (s : State) :
    AlignmentLost (surveysLane l s) l cause s (abortSurvey l (loseAlignment l cause s)) := by
  obtain ⟨hstate, hlane, -⟩ := lossTold_fields l cause s
  have hsurvey : (loseAlignment l cause s).survey = (lossTold l cause s).survey := by simp [loseAlignment, lossTold]
  have hsurveys : surveysLane l (loseAlignment l cause s) = surveysLane l s :=
    surveysLane_congr (by rw [hsurvey, hstate]) (by rw [hsurvey, hlane]) l
  refine alignmentLost_of_around (around_reset l cause s) (by simp) (by simp) ?_
    ((loseAlignment_calm l cause s).trans (abortSurvey_calm l _)).kept
  rw [abortSurvey_survey, hsurveys, hsurvey]

/-! ### Words in SYNC and DRIFT -/

theorem exec_signalAbsence {s b : State} (hb : settle s = b) (l : LaneId) :
    exec (.signalAbsence l) s = .next (loseSignal l b) := by
  rw [← hb]
  rfl

/-- A missed marker, the miss counted by the lane and by a survey of it. -/
def missTold (l : LaneId) (r : Lane) (b : State) : State :=
  { b with
    lanes := b.lanes.set l r
    survey :=
      if b.survey.state = .running ∧ b.survey.lane = l ∧ b.survey.first.isSome ∧ b.survey.remaining ≠ 0 then
        { b.survey with markerMisses := bump b.survey.markerMisses }
      else b.survey }

theorem missMarker_eq (l : LaneId) (r : Lane) (b : State) :
    missMarker l (setLane l r b) =
      if b.params.missLimit.toNat ≤ missesAfter r then loseAlignment l causeMisses (missTold l (missCounted r) b)
      else missTold l (beginFrame (r.last + 1) { missCounted r with align := .drift }) b := by
  have htold : surveyMarkerMiss l (setLane l (missCounted r) (setLane l r b)) = missTold l (missCounted r) b := by
    rw [setLane_setLane, surveyMarkerMiss_eq]
    rfl
  unfold missMarker
  simp only [setLane_lanes, Tab.get_set_self]
  rw [htold]
  refine if_congr ?_ rfl ?_
  · simp [missTold, missCounted]
  · simp [missTold, setLane, missCounted]

/-- The miss that a word at the marker position is. -/
theorem alignedWord_miss {w : Word} {f : Bool} (hbad : w.extractLsb' 16 16 ≠ 0x2D71#16 ∨ f = true) (l : LaneId) (s : State) :
    alignedWord l 0 ⟨w, f⟩ s = missMarker l s := by
  simp [alignedWord, alignedMarker, validMarker_eq_false_iff.2 hbad]

theorem missesAfter_taken (f : Bool) (r : Lane) : missesAfter (taken f r) = if r.align = .sync then 1 else r.missed + 1 := rfl

/-- Settles O9. -/
theorem wordInSyncOrDriftBuildsTheFrame : Obligations.WordInSyncOrDriftBuildsTheFrame := by
  unfold Obligations.WordInSyncOrDriftBuildsTheFrame
  rintro l w f s b r hb rfl haligned
  rw [exec_wordArrival hb, arriveWord_aligned haligned]
  refine ⟨fun h0 h41 => ?_, fun h0 hw hf => ?_, fun h0 hbad hmiss => ?_⟩
  · simp only [alignedWord, if_neg h0, if_neg h41, setLane_lanes, Tab.get_set_self, setLane_setLane]
    rfl
  · have hmarker : validMarker ⟨w, f⟩ = true := validMarker_iff.2 ⟨hw, hf⟩
    rw [h0]
    simp only [alignedWord, alignedMarker, hmarker, if_true, setLane_lanes, Tab.get_set_self, setLane_setLane]
    simp [setLane, markerKept, beginFrame, markerNumber, inSequence, taken, h0, hf]
  · rw [h0, alignedWord_miss hbad, missMarker_eq, if_neg (by rw [missesAfter_taken]; omega)]
    simp [missTold, beginFrame, missCounted, missesAfter, taken, h0]

/-- LANE_RESET of a lane in SEEK. -/
theorem around_resetSeek (l : LaneId) (s : State) :
    Around 0 (surveysLane l s) l (only false .timingChange .none) s s (abortSurvey l (laneGone l s)) := by
  have hsurveys : surveysLane l (laneGone l s) = surveysLane l s := surveysLane_congr (by simp) (by simp) l
  have habort := abortSurvey_part l (laneGone l s)
  rw [hsurveys] at habort
  refine ⟨.of_eq rfl rfl rfl, habort, rfl, rfl, rfl, rfl, by simp, by simp, by simp, fun h => ?_⟩
  have hraised := abortSurvey_raised (hsurveys.trans h)
  simpa using hraised

/-- All that LANE_RESET does to a lane out of alignment, from SEEK or CONFIRM, the receiver `r` left in SEEK. -/
theorem resetEffects (l : LaneId) (r : Lane) (s : State) :
    (abortSurvey l (laneGone l (setLane l r s))).lanes = s.lanes.set l r ∧
      LaneLeft 0 (surveysLane l s) l s (abortSurvey l (laneGone l (setLane l r s))) ∧
      (abortSurvey l (laneGone l (setLane l r s))).survey = surveyAfter (surveysLane l s) s.survey ∧
      (abortSurvey l (laneGone l (setLane l r s))).channel = s.channel ∧
      NoticesKept (leavesNotices (surveysLane l s) l s) s (abortSurvey l (laneGone l (setLane l r s))) ∧
      OtherBlocksKept s (abortSurvey l (laneGone l (setLane l r s))) := by
  have hsurveys : surveysLane l (laneGone l (setLane l r s)) = surveysLane l s := surveysLane_congr (by simp) (by simp) l
  have hreset := around_resetSeek l (setLane l r s)
  have hsame : surveysLane l (setLane l r s) = surveysLane l s := rfl
  have haround : Around 0 (surveysLane l s) l (only false .timingChange .none) s (setLane l r s)
      (abortSurvey l (laneGone l (setLane l r s))) :=
    { hreset with pre := .of_eq rfl rfl rfl, stores := rfl, timing := rfl, checkers := rfl, params := rfl }
  exact ⟨by simp, haround.laneLeft, by rw [abortSurvey_survey, hsurveys]; simp, by simp,
    noticesKept_of_leaving (fun _ _ => by simp [only]) haround,
    (((setLane_calm l r s).trans (laneGone_calm l _)).trans (abortSurvey_calm l _)).kept⟩

/-- Settles O10. -/
theorem alignmentIsLostByMissesSignalOrLaneReset : Obligations.AlignmentIsLostByMissesSignalOrLaneReset := by
  unfold Obligations.AlignmentIsLostByMissesSignalOrLaneReset
  refine ⟨?_, ?_, ?_⟩
  case refine_1 =>
    rintro l w f s b r hb rfl haligned h0 hbad hlimit
    refine ⟨_, exec_wordArrival hb l w f, ?_⟩
    have hlost : b.params.missLimit.toNat ≤ missesAfter (taken f (b.lanes.get l)) := hlimit
    rw [arriveWord_aligned haligned, h0, alignedWord_miss hbad, missMarker_eq, if_pos hlost]
    have htold : missTold l (missCounted (taken f (b.lanes.get l))) b =
        missTold l
          { b.lanes.get l with
            position := 1
            missed := if (b.lanes.get l).align = .sync then 1 else (b.lanes.get l).missed + 1
            markerMisses := bump (b.lanes.get l).markerMisses
            codeErrors := if f then bump (b.lanes.get l).codeErrors else (b.lanes.get l).codeErrors } b := by
      simp [missCounted, missesAfter, taken, h0]
    rw [htold]
    exact alignmentLost_loss l _ _
  case refine_2 =>
    rintro l s b r hb rfl
    rw [exec_signalAbsence hb]
    refine ⟨fun h => ?_, fun h => ?_, fun h => ?_⟩
    · have heq : loseSignal l b = b := by
        unfold loseSignal
        rcases h with h | h <;> rw [h]
      rw [heq]
    · have heq : loseSignal l b = abandonConfirm l b := by
        unfold loseSignal
        rw [h]
      refine ⟨abandonConfirm l b, by rw [heq], ?_⟩
      have heffects := abandonConfirm_effects l (b.lanes.get l) b
      rwa [show setLane l (b.lanes.get l) b = b by simp [setLane]] at heffects
    · have heq : loseSignal l b = loseAlignment l causeSignal b := by
        unfold loseSignal
        rcases h with h | h <;> rw [h]
      exact ⟨loseAlignment l causeSignal b, by rw [heq], alignmentLost_loss l _ b⟩
  case refine_3 =>
    rintro group serial o s r rfl
    rw [judgeItem_laneReset]
    unfold itemLaneReset
    refine ⟨fun ho => by simp [laneOf_of_ge ho, fails], fun l ho => ?_⟩
    simp only [laneOf_of_eq ho]
    refine ⟨fun hoff => by rw [if_pos hoff]; rfl, fun hon => ?_⟩
    rw [if_neg hon]
    refine ⟨rfl, rfl, fun haligned => ?_, fun hout => ?_⟩
    · have heq : resetLane l s = abortSurvey l (loseAlignment l causeLaneReset s) := by
        unfold resetLane
        rcases haligned with h | h <;> rw [h]
      simp only [acts, heq]
      exact alignmentLost_reset l _ s
    · have heq : resetLane l s = abortSurvey l (laneGone l (setLane l
          { s.lanes.get l with
            align := .seek
            confirmed := if (s.lanes.get l).align = .confirm then 0 else (s.lanes.get l).confirmed } s)) := by
        unfold resetLane
        rcases hout with h | h <;> rw [h]
        · have hsame : { s.lanes.get l with align := Align.seek } = s.lanes.get l := by rw [← h]
          simp [setLane, hsame]
        · simp [abandonConfirm, unconfirmed]
      simp only [acts, heq]
      exact resetEffects l _ s

/-! ### The service word -/

theorem creditLane_eq (l : LaneId) (s : State) :
    creditLane l s =
      { s with timing := { s.timing with
        laneQual := s.timing.laneQual.set l
          { count := min ((s.timing.laneQual.get l).count + 1) 1024
            qualified := (s.timing.laneQual.get l).qualified ||
              decide (s.params.qualifyFrames.toNat ≤ min ((s.timing.laneQual.get l).count + 1) 1024) } } } := rfl

/-- The record of the words gathered, read back. -/
theorem completed_eq {a : Assembly} {w : Word} {f : Bool} {rec : FrameRecord} (hnumber : rec.number = a.number)
    (hpayload : rec.payload.toList = a.payload) (hservice : rec.service = ⟨w, f⟩) : completed a ⟨w, f⟩ = rec := by
  have hwords : (Tab.ofFn fun t => a.payload.getD t.val ⟨0, false⟩) = rec.payload := by
    refine Tab.ext_get fun t => ?_
    have ht : t.val < rec.payload.toList.length := by rw [rec.payload.size_eq]; exact t.isLt
    rw [Tab.get_ofFn, ← hpayload, List.getD_eq_getElem _ _ ht]
    rfl
  unfold completed
  rw [hwords, ← hnumber, ← hservice]

/-- Settles O11. -/
theorem serviceWordWritesTheRecord : Obligations.ServiceWordWritesTheRecord := by
  unfold Obligations.ServiceWordWritesTheRecord
  rintro l w f s b r a hb rfl haligned h41 hassembly rec u hnumber hpayload hservice rfl
  rw [exec_wordArrival hb, arriveWord_aligned haligned, h41]
  have hgathered : ((setLane l (taken f (b.lanes.get l)) b).lanes.get l).assembly = some a := by
    simpa [taken] using hassembly
  have hword : alignedWord l 41 ⟨w, f⟩ (setLane l (taken f (b.lanes.get l)) b) =
      writeRecord l (completed a ⟨w, f⟩)
        (setLane l { taken f (b.lanes.get l) with assembly := none } (setLane l (taken f (b.lanes.get l)) b)) := by
    simp only [alignedWord, completeFrame, hgathered]
    simp
  rw [hword, setLane_setLane, completed_eq hnumber hpayload hservice]
  have htaken : ({ taken f (b.lanes.get l) with assembly := none } : Lane) =
      { b.lanes.get l with
        position := 0, assembly := none
        codeErrors := if f then bump (b.lanes.get l).codeErrors else (b.lanes.get l).codeErrors } := by
    simp [taken, h41]
  rw [htaken]
  rfl

/-! ### Other receivers -/

variable {l k : LaneId}

theorem setLane_other (hk : k ≠ l) (r : Lane) (s : State) : (setLane l r s).lanes.get k = s.lanes.get k := by
  simp [Tab.get_set_ne _ _ hk]

theorem confirmMarker_other (hk : k ≠ l) (e : Heard) (s : State) : (confirmMarker l e s).lanes.get k = s.lanes.get k := by
  unfold confirmMarker
  (repeat' split) <;> simp [gainSync, abandonConfirm, Tab.get_set_ne _ _ hk]

theorem missMarker_other (hk : k ≠ l) (s : State) : (missMarker l s).lanes.get k = s.lanes.get k := by
  have heq := missMarker_eq l (s.lanes.get l) s
  rw [show setLane l (s.lanes.get l) s = s by simp [setLane]] at heq
  rw [heq]
  split <;> simp [loseAlignment, missTold, Tab.get_set_ne _ _ hk]

theorem alignedWord_other (hk : k ≠ l) (p : Fin 42) (e : Heard) (s : State) :
    (alignedWord l p e s).lanes.get k = s.lanes.get k := by
  unfold alignedWord alignedMarker completeFrame writeRecord
  (repeat' split) <;> simp [missMarker_other hk, Tab.get_set_ne _ _ hk]

/-- Settles O13. -/
theorem wordOnOneLaneLeavesTheOtherReceivers : Obligations.WordOnOneLaneLeavesTheOtherReceivers := by
  unfold Obligations.WordOnOneLaneLeavesTheOtherReceivers
  rintro l k w f s t hk hexec
  rw [exec_wordArrival rfl] at hexec
  rw [← Host.Outcome.next.inj hexec]
  unfold arriveWord
  split
  · rfl
  · unfold seekWord
    split <;> simp [Tab.get_set_ne _ _ hk]
  · unfold confirmWord
    split
    · rw [confirmMarker_other hk, setLane_other hk]
    · rw [setLane_other hk]
  · rw [alignedWord_other hk, setLane_other hk]
  · rw [alignedWord_other hk, setLane_other hk]

end Sys2Proof.LaneLoss
end

section
/-! SUPPORT. A property of the lanes, the stores and the frame timing alone, through every step, from the events that touch
those. -/

namespace Sys2Proof.LaneEvents

open Sys2Proof.Machine Sys2Proof.Closure Sys2Proof.MapKept Sys2Proof.ImageFacts

/-- Lanes, stores, timing, INGRESS_ENABLE and QUALIFY_FRAMES are in `t` as in `s`. -/
structure SameLines (s t : State) : Prop where
  lanes : t.lanes = s.lanes
  stores : t.stores = s.stores
  timing : t.timing = s.timing
  ingress : t.params.ingressEnable = s.params.ingressEnable
  qualify : t.params.qualifyFrames = s.params.qualifyFrames

/-- A property of those blocks that each event touching them keeps. -/
structure ByLines (P : State → Prop) : Prop where
  same : ∀ s t, SameLines s t → P s → P t
  qualify : ∀ v s, paramInRange .qualifyFrames v = true → P s →
    P (requalifyAll { s with params := { s.params with qualifyFrames := v } })
  ingress : ∀ v s, P s → P (writeIngressEnable v s)
  reset : ∀ l s, P s → P (resetLane l s)
  clear : ∀ mask channelToo s, P s → P (clearCounts mask channelToo s)
  power : ∀ c straps s, P (resetPart c straps s)
  word : ∀ l h s, P s → P (arriveWord l h s)
  signal : ∀ l s, P s → P (loseSignal l s)
  timer : ∀ s, P s → P (timerExpires s)
  pulse : ∀ early s, P s → P (takePulse early s)
  miss : ∀ s, P s → P (takeMiss s)

section
variable {P : State → Prop} (hP : ByLines P)
include hP

theorem storeParam_lines (p : Param) (v : Num) (s : State) (hv : paramInRange p v = true) (h : P s) :
    P (storeParam p v s) := by
  cases p with
  | qualifyFrames => exact hP.qualify v s hv h
  | ingressEnable => exact hP.ingress v s h
  | _ => exact hP.same s _ ⟨rfl, rfl, rfl, rfl, rfl⟩ h

theorem item_lines (n : Nat) (s t : State) (he : ItemEffect n s t) (h : P s) : P t := by
  cases he with
  | param p v hrange => exact storeParam_lines hP p v s hrange h
  | laneReset l => exact hP.reset l s h
  | countsClear mask channelToo => exact hP.clear mask channelToo s h
  | _ => exact hP.same s _ ⟨by simp, by simp, by simp, by simp, by simp⟩ h

theorem byExecution_lines : ByExecution P where
  pop s h := hP.same s _ ⟨rfl, rfl, rfl, rfl, rfl⟩ h
  serial s h := hP.same s _ ⟨rfl, rfl, rfl, rfl, rfl⟩ h
  report s h := hP.same s _ ⟨rfl, rfl, rfl, rfl, rfl⟩ h
  build _ s h := hP.same s _ ⟨by simp, by simp, by simp, by simp, by simp⟩ h
  place _ s h := hP.same s _ ⟨by simp, by simp, by simp, by simp, by simp⟩ h
  item n s t _ he h := item_lines hP n s t he h
  reply _ _ s h := hP.same s _ ⟨rfl, rfl, rfl, rfl, rfl⟩ h
  cache _ s h := hP.same s _ ⟨rfl, rfl, rfl, rfl, rfl⟩ h
  dropGroup s h := hP.same s _ ⟨rfl, rfl, rfl, rfl, rfl⟩ h
  record _ _ _ s h := hP.same s _ ⟨rfl, rfl, rfl, rfl, rfl⟩ h

theorem copyEnd_lines (s : State) (h : P s) : P (takeCopyEnd s) := by
  unfold takeCopyEnd
  split
  · exact hP.same s _ ⟨by simp, by simp, by simp, by simp, by simp⟩ h
  · exact h

theorem owedAbort_lines (s : State) (h : P s) : P (storeOwedAbort s) := by
  unfold storeOwedAbort
  split
  · exact hP.same s _ ⟨rfl, rfl, rfl, rfl, rfl⟩ h
  · exact h

theorem byOwnSteps_lines : ByOwnSteps P where
  copyEnd := copyEnd_lines hP
  checkEnd _ s h := hP.same s _ ⟨by simp, by simp, by simp, by simp, by simp⟩ h
  surveyEnd s h := hP.same s _ ⟨by simp, by simp, by simp, by simp, by simp⟩ h
  expiry s h := hP.same s _ ⟨by simp, by simp, by simp, by simp, by simp⟩ h
  attempt s h := hP.same s _ ⟨by simp, by simp, by simp, by simp, by simp⟩ h
  abort := owedAbort_lines hP
  build s h := hP.same s _ ⟨by simp, by simp, by simp, by simp, by simp⟩ h
  place s h := hP.same s _ ⟨by simp, by simp, by simp, by simp, by simp⟩ h
  request := executeRequest_keeps (byExecution_lines hP)
  group := executeGroup_keeps (byExecution_lines hP)

theorem applySettings_lines {octets : List Octet} {im : Image} (hv : judgeImage octets = .verified im) (s : State)
    (h : P s) : P (applySettings im s) := by
  refine applySettings_keeps im s (fun p _ u hu => ?_) (hP.same s _ ⟨rfl, rfl, rfl, rfl, rfl⟩ h)
  unfold applyParam
  split
  · next hvalue => exact storeParam_lines hP p _ u (appliedValue_inRange hv hvalue) hu
  · exact hu

theorem attemptEnds_lines (octets : List Octet) (s : State) (h : P s) : P (attemptEnds octets s) := by
  have houtcome := attemptEnds_outcome octets s
  have hread : P (readState octets s) := hP.same s _ ⟨rfl, rfl, rfl, rfl, rfl⟩ h
  generalize attemptEnds octets s = t at houtcome ⊢
  cases houtcome with
  | none _ => exact h
  | waits => exact hP.same s _ ⟨rfl, rfl, rfl, rfl, rfl⟩ h
  | reloadEmpty _ r =>
    exact hP.same (readState octets s) _
      ⟨by simp [endReload], by simp [endReload], by simp [endReload], by simp [endReload], by simp [endReload]⟩ hread
  | loadEmpty _ r => exact hP.same s _ ⟨rfl, rfl, rfl, rfl, rfl⟩ h
  | reloaded _ im =>
    exact hP.same (readState octets s) _ ⟨by simp [endReload, writeRuns], by simp [endReload, writeRuns],
      by simp [endReload, writeRuns], by simp [endReload, writeRuns], by simp [endReload, writeRuns]⟩ hread
  | loaded _ im _ hv =>
    exact hP.same (applySettings im (readState octets s)) _ ⟨rfl, rfl, rfl, rfl, rfl⟩
      (applySettings_lines hP hv (readState octets s) hread)

theorem armChange_lines (n : Nat) (s : State) (h : P s) : P (armChange n s) := by
  unfold armChange
  (repeat' split) <;> exact hP.same s _ ⟨rfl, rfl, rfl, rfl, rfl⟩ h

theorem byEvents_lines : ByEvents P P where
  reset c straps s _ := hP.power c straps s
  word := hP.word
  signal := hP.signal
  timer := hP.timer
  pulse := hP.pulse
  miss := hP.miss
  emitted s h := emitServiceWord_keeps (fun c straps s _ => hP.power c straps s) (armChange_lines hP)
    (fun u hu => hP.same u _ ⟨rfl, rfl, rfl, rfl, rfl⟩ hu) (fun u hu => hP.same u _ ⟨rfl, rfl, rfl, rfl, rfl⟩ hu)
    (fun _ u hu => hP.same u _ ⟨rfl, rfl, rfl, rfl, rfl⟩ hu) s h
  attemptEnd := attemptEnds_lines hP

/-- The property is kept by every step. -/
theorem step_keeps_lines {s t : State} (hstep : step s = .next t) (h : P s) : P t :=
  step_keeps (byOwnSteps_lines hP) (byEvents_lines hP) (fun _ u hu => hP.same u _ ⟨rfl, rfl, rfl, rfl, rfl⟩ hu) hstep h

end

/-! ### Blocks the events leave -/

/-- A calm event leaves the parameters. -/
theorem params_of_calm {s t : State} (h : CalmEvents.Calm s t) : t.params = s.params := by
  obtain ⟨-, -, -, -, -, -, hparams, -⟩ := h.kept
  exact hparams

end Sys2Proof.LaneEvents
end

section
/-! SUPPORT. Every lane and its store stay legal (R14, R16, R21 to R24): lane by lane, through each event of the lines. -/

namespace Sys2Proof.LanesKept

open Sys2Proof.Machine Sys2Proof.CalmEvents Sys2Proof.LaneGone Sys2Proof.LaneWords Sys2Proof.LaneLoss Sys2Proof.LaneEvents

/-- One lane and its store are legal, `on` being the lane's enable bit. -/
structure LaneOk (r : Lane) (st : Store) (on : Bool) : Prop where
  assembly : assemblyLegal r = true
  records : storeLegal st = true
  follows : storeFollows r st = true
  off : r.align = .off ↔ on = false

/-- Every lane is legal under these enable bits. -/
def LanesOk (on : LaneId → Bool) (s : State) : Prop := ∀ l, LaneOk (s.lanes.get l) (s.stores.get l) (on l)

theorem lanesLegal_iff (s : State) : LanesLegal s ↔ LanesOk (inMask s.params.ingressEnable) s :=
  forall_congr' fun _ => ⟨fun ⟨h₁, h₂, h₃, h₄⟩ => ⟨h₁, h₂, h₃, h₄⟩, fun ⟨h₁, h₂, h₃, h₄⟩ => ⟨h₁, h₂, h₃, h₄⟩⟩

variable {r r' : Lane} {st st' : Store} {on : Bool}

/-! ### Stores -/

/-- A store that stays in IDLE or out of it still follows its lane. -/
theorem LaneOk.store (h : LaneOk r st on) (hidle : st'.state = .idle ↔ st.state = .idle) (hlegal : storeLegal st' = true) :
    LaneOk r st' on := by
  refine { h with records := hlegal, follows := ?_ }
  have hfollows := h.follows
  simp only [storeFollows, ne_eq, hidle] at hfollows ⊢
  exact hfollows

theorem storeLegal_of_idle (hstate : st.state = .idle) : storeLegal st = true ↔ st.records.length = 0 := by
  simp [storeLegal, hstate]

theorem storeLegal_of_filling (hstate : st.state = .filling) : storeLegal st = true ↔ st.records.length ≤ 1 := by
  simp [storeLegal, hstate]

theorem storeLegal_of_running (hstate : st.state = .running) : storeLegal st = true ↔ st.records.length ≤ 4 := by
  simp [storeLegal, hstate]

theorem LaneOk.recentred (h : LaneOk r st on) : LaneOk r (recentred st) on := by
  rw [recentred_eq_afterRecentre]
  unfold afterRecentre
  split
  · exact h
  · next hidle =>
    split
    · refine h.store (by simp [hidle]) ?_
      rw [storeLegal_of_running rfl]
      simp only [List.length_drop]
      omega
    · refine h.store (by simp [hidle]) ?_
      rw [storeLegal_of_filling rfl]
      simp only
      omega

theorem LaneOk.read (h : LaneOk r st on) : LaneOk r (afterRead st) on := by
  unfold afterRead
  split
  · next hrunning =>
    have hlegal := (storeLegal_of_running hrunning).1 h.records
    split
    · exact h.store Iff.rfl h.records
    · next hrecords =>
      refine h.store Iff.rfl ((storeLegal_of_running (by exact hrunning)).2 ?_)
      rw [hrecords] at hlegal
      simp only [List.length_cons] at hlegal
      simp only
      omega
  · exact h

theorem LaneOk.written (h : LaneOk r st on) (f : FrameRecord) : LaneOk r (written f st) on := by
  unfold Machine.written
  split
  · exact h
  · next hfilling =>
    have hlegal := (storeLegal_of_filling hfilling).1 h.records
    split
    · next hempty =>
      refine h.store (by simp [hfilling]) ((storeLegal_of_filling rfl).2 ?_)
      simp [hempty]
    · refine h.store (by simp [hfilling]) ((storeLegal_of_running rfl).2 ?_)
      simp only [List.length_append, List.length_singleton]
      omega
  · next hrunning =>
    split
    · exact h.store Iff.rfl h.records
    · next hroom =>
      refine h.store Iff.rfl ((storeLegal_of_running (by exact hrunning)).2 ?_)
      simp only [Config.storeDepth, fillOf, not_le] at hroom
      simp only [List.length_append, List.length_singleton]
      omega

/-! ### Receivers -/

/-- A receiver in the same relation to alignment and to OFF keeps its lane legal. -/
theorem LaneOk.lane (h : LaneOk r st on) (haligned : aligned r' = aligned r) (hoff : r'.align = .off ↔ r.align = .off)
    (hassembly : assemblyLegal r' = true) : LaneOk r' st on := by
  refine { h with assembly := hassembly, follows := ?_, off := hoff.trans h.off }
  rw [storeFollows, haligned]
  exact h.follows

/-- A lane out of alignment with its store in IDLE. -/
theorem laneOk_out (hout : aligned r = false) (hassembly : assemblyLegal r = true) (hoff : r.align = .off ↔ on = false)
    (st : Store) : LaneOk r (idled st) on :=
  ⟨hassembly, rfl, by simp [storeFollows, idled, hout], hoff⟩

theorem assemblyLegal_out (hout : aligned r = false) : assemblyLegal r = true ↔ r.assembly = none := by
  unfold assemblyLegal
  split
  · next h => simp [hout, h]
  · next h => simp [hout, h]

theorem assemblyLegal_begun (hin : aligned r = true) (hassembly : r.assembly = some ⟨r.last, []⟩) (hposition : r.position = 1) :
    assemblyLegal r = true := by
  unfold assemblyLegal
  rw [hassembly]
  simp [hin, hposition]

theorem aligned_of_align (h : r.align = .sync ∨ r.align = .drift) : aligned r = true := by
  simpa [aligned] using h

theorem not_aligned_iff : aligned r = false ↔ r.align = .off ∨ r.align = .seek ∨ r.align = .confirm := by
  unfold aligned
  cases r.align <;> simp

variable {bits : LaneId → Bool} {s t : State} {l : LaneId}

theorem lanesOk_setLane (h : LanesOk bits s) (hr : LaneOk r (s.stores.get l) (bits l)) : LanesOk bits (setLane l r s) := by
  intro k
  rw [setLane_lanes, setLane_stores, Tab.get_set]
  split
  · next hk => exact hk ▸ hr
  · exact h k

/-- A lane that leaves, its receiver out of alignment, the other lanes legal. -/
theorem lanesOk_gone (hothers : ∀ k, k ≠ l → LaneOk (s.lanes.get k) (s.stores.get k) (bits k))
    (hout : aligned (s.lanes.get l) = false) (hassembly : assemblyLegal (s.lanes.get l) = true)
    (hoff : (s.lanes.get l).align = .off ↔ bits l = false) : LanesOk bits (laneGone l s) := by
  intro k
  have hlanes : (laneGone l s).lanes = s.lanes := by simp
  rw [laneGone_stores, hlanes]
  by_cases hk : k = l
  · subst hk
    rw [if_pos rfl]
    exact laneOk_out hout hassembly hoff _
  · rw [if_neg hk]
    split
    · rw [← recentred_eq_afterRecentre]
      exact (hothers k hk).recentred
    · exact hothers k hk

theorem lanesOk_congr (h : LanesOk bits s) (hlanes : t.lanes = s.lanes) (hstores : t.stores = s.stores) : LanesOk bits t := by
  unfold LanesOk
  rwa [hlanes, hstores]

theorem others_setLane (h : LanesOk bits s) (r : Lane) {k : LaneId} (hk : k ≠ l) :
    LaneOk ((setLane l r s).lanes.get k) ((setLane l r s).stores.get k) (bits k) := by
  rw [setLane_lanes, setLane_stores, Tab.get_set_ne _ _ hk]
  exact h k

/-- A lane on leaves: its receiver becomes `r`, in SEEK with no frame under assembly. -/
theorem lanesOk_goneToSeek (h : LanesOk bits s) (hon : bits l = true) (hseek : r.align = .seek) (hassembly : r.assembly = none) :
    LanesOk bits (laneGone l (setLane l r s)) := by
  have hout : aligned r = false := by simp [aligned, hseek]
  refine lanesOk_gone (fun k hk => others_setLane h r hk) ?_ ?_ ?_ <;> rw [setLane_lanes, Tab.get_set_self]
  · exact hout
  · exact (assemblyLegal_out hout).2 hassembly
  · simp [hseek, hon]

theorem on_of_align (h : LanesOk bits s) (hon : (s.lanes.get l).align ≠ .off) : bits l = true := by
  by_contra hbit
  exact hon ((h l).off.2 (by simpa using hbit))

theorem lanesOk_abandonConfirm (h : LanesOk bits s) (hconfirm : (s.lanes.get l).align = .confirm) :
    LanesOk bits (abandonConfirm l s) := by
  have hnone := (assemblyLegal_out (r := s.lanes.get l) (by simp [aligned, hconfirm])).1 (h l).assembly
  exact lanesOk_goneToSeek h (on_of_align h (by simp [hconfirm])) rfl hnone

/-- A loss of alignment leaves every lane legal, whatever is under assembly. -/
theorem lanesOk_loseAlignment (hothers : ∀ k, k ≠ l → LaneOk (s.lanes.get k) (s.stores.get k) (bits k)) (hon : bits l = true)
    (cause : Octet) : LanesOk bits (loseAlignment l cause s) := by
  have htold : LanesOk bits (laneGone l (lossTold l cause s)) := by
    have hlanes : (lossTold l cause s).lanes = s.lanes.set l (lostLane (s.lanes.get l)) := by simp [lossTold]
    have hstores : (lossTold l cause s).stores = s.stores := by simp [lossTold]
    refine lanesOk_gone (fun k hk => ?_) ?_ ?_ ?_ <;> rw [hlanes]
    · rw [hstores, Tab.get_set_ne _ _ hk]
      exact hothers k hk
    · simp [lostLane, aligned]
    · simp [lostLane, assemblyLegal, aligned]
    · simp [lostLane, hon]
  exact lanesOk_congr htold (by simp [loseAlignment_eq]) (by simp [loseAlignment_eq])

/-! ### Words -/

theorem taken_aligned (f : Bool) (r : Lane) : aligned (taken f r) = aligned r := rfl

theorem laneOk_taken_out (h : LaneOk r st on) (hout : aligned r = false) (f : Bool) : LaneOk (taken f r) st on :=
  h.lane rfl Iff.rfl ((assemblyLegal_out (r := taken f r) hout).2 ((assemblyLegal_out hout).1 h.assembly))

theorem lanesOk_seekWord (h : LanesOk bits s) (hseek : (s.lanes.get l).align = .seek) (e : Heard) :
    LanesOk bits (seekWord l e s) := by
  unfold seekWord
  split
  · have hout : aligned (s.lanes.get l) = false := by simp [aligned, hseek]
    have hnone := (assemblyLegal_out hout).1 (h l).assembly
    exact lanesOk_setLane h ((h l).lane (by simp [seekFound, aligned, hseek]) (by simp [seekFound, hseek])
      ((assemblyLegal_out (by simp [seekFound, aligned])).2 hnone))
  · exact h

theorem lanesOk_confirmMarker (h : LanesOk bits s) (hconfirm : (s.lanes.get l).align = .confirm)
    (hposition : (s.lanes.get l).position = 1) (e : Heard) : LanesOk bits (confirmMarker l e s) := by
  have hout : aligned (s.lanes.get l) = false := by simp [aligned, hconfirm]
  have hnone := (assemblyLegal_out hout).1 (h l).assembly
  have hstays : ∀ n c, LanesOk bits (setLane l { s.lanes.get l with confirmed := n, last := c } s) := fun n c =>
    lanesOk_setLane h ((h l).lane rfl Iff.rfl ((assemblyLegal_out (by exact hout)).2 hnone))
  unfold confirmMarker
  split
  · split
    · split
      · unfold gainSync
        refine lanesOk_congr (s := setStore l (opened (s.stores.get l)) (setLane l
          (beginFrame (markerNumber e)
            { s.lanes.get l with align := .sync, confirmed := (s.lanes.get l).confirmed + 1, missed := 0 }) s))
          ?_ (by simp) (by simp)
        intro k
        rw [setStore_lanes, setStore_stores, setLane_lanes, setLane_stores, Tab.get_set, Tab.get_set]
        by_cases hk : k = l
        · subst hk
          simp only [if_pos]
          refine ⟨assemblyLegal_begun (by simp [beginFrame, aligned]) rfl hposition, rfl, ?_, ?_⟩
          · simp [storeFollows, opened, beginFrame, aligned]
          · simp [beginFrame, on_of_align (l := k) h (by simp [hconfirm])]
        · simp only [if_neg hk]
          exact h k
      · exact hstays _ _
    · exact hstays _ _
  · exact lanesOk_abandonConfirm h hconfirm

/-- An aligned lane that begins a frame at the marker position. -/
theorem laneOk_begun (h : LaneOk r st on) (hin : aligned r = true) (hin' : aligned r' = true) (hposition : r'.position = 1)
    (n : Num) : LaneOk (beginFrame n r') st on := by
  have hon : ∀ {q : Lane}, aligned q = true → q.align ≠ .off := by
    intro q hq hoff
    simp [aligned, hoff] at hq
  refine h.lane ?_ ?_ (assemblyLegal_begun hin' rfl hposition)
  · exact hin'.trans hin.symm
  · exact ⟨fun hoff => absurd hoff (hon (q := r') hin'), fun hoff => absurd hoff (hon hin)⟩

theorem lanesOk_alignedWord (h : LanesOk bits s) (hin : (s.lanes.get l).align = .sync ∨ (s.lanes.get l).align = .drift)
    (w : Word) (f : Bool) (hstart : ∀ o u, LanesOk bits u → LanesOk bits (masterFrameStart o u)) :
    LanesOk bits (alignedWord l (s.lanes.get l).position ⟨w, f⟩ (setLane l (taken f (s.lanes.get l)) s)) := by
  have haligned := aligned_of_align hin
  have hlegal := (h l).assembly
  have hon : bits l = true := on_of_align h (by rcases hin with hin | hin <;> simp [hin])
  generalize hr : s.lanes.get l = r at haligned hlegal hin ⊢
  have hl : LaneOk r (s.stores.get l) (bits l) := hr ▸ h l
  by_cases h0 : r.position = 0
  · rw [h0]
    by_cases hmarker : validMarker ⟨w, f⟩ = true
    · have heq : alignedWord l 0 ⟨w, f⟩ (setLane l (taken f r) s) = setLane l (markerKept ⟨w, f⟩ (taken f r)) s := by
        simp [alignedWord, alignedMarker, hmarker, setLane]
      rw [heq]
      refine lanesOk_setLane h (laneOk_begun hl haligned ?_ ?_ _)
      · simp [aligned]
      · simp [taken, h0]
    · have heq : alignedWord l 0 ⟨w, f⟩ (setLane l (taken f r) s) = missMarker l (setLane l (taken f r) s) := by
        simp [alignedWord, alignedMarker, hmarker]
      rw [heq, missMarker_eq]
      split
      · refine lanesOk_loseAlignment (fun k hk => ?_) hon _
        simp only [missTold, Tab.get_set_ne _ _ hk]
        exact h k
      · refine lanesOk_congr (s := setLane l _ s) (lanesOk_setLane h (laneOk_begun hl haligned ?_ ?_ _)) rfl rfl
        · simp [aligned]
        · simp [missCounted, taken, h0]
  · have hsome : ∃ a, r.assembly = some a := by
      unfold assemblyLegal at hlegal
      split at hlegal
      · simp [haligned, h0] at hlegal
      · next a ha => exact ⟨a, ha⟩
    obtain ⟨a, ha⟩ := hsome
    have hgathered : a.payload.length + 1 = r.position.val ∧ a.number = r.last := by
      simpa [assemblyLegal, ha, haligned] using hlegal
    by_cases h41 : r.position = 41
    · have heq : alignedWord l r.position ⟨w, f⟩ (setLane l (taken f r) s) =
          writeRecord l (completed a ⟨w, f⟩) (setLane l { taken f r with assembly := none } s) := by
        simp [alignedWord, h41, completeFrame, taken, ha, setLane]
      have hdone : LanesOk bits (setLane l { taken f r with assembly := none } s) := by
        refine lanesOk_setLane h (hl.lane rfl Iff.rfl ?_)
        simp [assemblyLegal, taken, h41]
      have hwritten : ∀ rec u, LanesOk bits u → LanesOk bits (writeStore l rec (creditLane l u)) := by
        intro rec u hu k
        have hlanes : (writeStore l rec (creditLane l u)).lanes = u.lanes := by simp
        have hstores : (creditLane l u).stores = u.stores := by simp
        rw [hlanes, writeStore_stores, hstores, Tab.get_set]
        split
        · next hk => exact hk ▸ (hu l).written rec
        · exact hu k
      rw [heq]
      unfold writeRecord
      split
      · exact hstart _ _ (hwritten _ _ hdone)
      · exact hwritten _ _ hdone
    · have heq : alignedWord l r.position ⟨w, f⟩ (setLane l (taken f r) s) =
          setLane l (gathered ⟨w, f⟩ (taken f r)) s := by
        simp [alignedWord, h0, h41, setLane]
      rw [heq]
      refine lanesOk_setLane h (hl.lane rfl Iff.rfl ?_)
      have hlt := r.position.isLt
      have hne : r.position.val ≠ 41 := fun hval => h41 (Fin.ext hval)
      have hnext : (r.position + 1).val = r.position.val + 1 := by
        rw [Fin.val_add]
        exact Nat.mod_eq_of_lt (by show r.position.val + 1 < 42; omega)
      have hin' : aligned (gathered ⟨w, f⟩ (taken f r)) = true := haligned
      unfold assemblyLegal
      simp only [gathered, taken, ha, Option.map_some, List.length_append, List.length_singleton, hnext, hgathered]
      simpa [aligned] using hin

theorem lanesOk_start (o : Option LaneId) (s : State) (h : LanesOk bits s) : LanesOk bits (masterFrameStart o s) := by
  intro k
  have hlanes : (masterFrameStart o s).lanes = s.lanes := by simp
  rw [Starts.stores_get, hlanes]
  split
  · exact (h k).read.recentred
  · exact (h k).read

theorem lanesOk_arriveWord (w : Word) (f : Bool) (h : LanesOk bits s) : LanesOk bits (arriveWord l ⟨w, f⟩ s) := by
  cases halign : (s.lanes.get l).align with
  | off => rwa [arriveWord_off halign]
  | seek =>
    have hout : aligned (s.lanes.get l) = false := by simp [aligned, halign]
    have hnone := (assemblyLegal_out hout).1 (h l).assembly
    rw [arriveWord_seek halign, countCode_eq]
    generalize hr : ({ s.lanes.get l with
      codeErrors := if f then bump (s.lanes.get l).codeErrors else (s.lanes.get l).codeErrors } : Lane) = r
    have hr' : r.align = .seek ∧ r.assembly = none ∧ aligned r = aligned (s.lanes.get l) :=
      hr ▸ ⟨halign, hnone, rfl⟩
    obtain ⟨hseek, hnone', haligned⟩ := hr'
    refine lanesOk_seekWord (lanesOk_setLane h ((h l).lane haligned ?_ ?_)) (by simpa using hseek) _
    · simp [hseek, halign]
    · exact (assemblyLegal_out (haligned.trans hout)).2 hnone'
  | confirm =>
    have htaken := lanesOk_setLane h (laneOk_taken_out (h l) (by simp [aligned, halign]) f)
    rw [arriveWord_confirm halign]
    split
    · next h0 =>
      exact lanesOk_confirmMarker htaken (by simpa [taken] using halign) (by simp [taken, h0]) _
    · exact htaken
  | sync =>
    rw [arriveWord_aligned (.inl halign)]
    exact lanesOk_alignedWord h (.inl halign) w f lanesOk_start
  | drift =>
    rw [arriveWord_aligned (.inr halign)]
    exact lanesOk_alignedWord h (.inr halign) w f lanesOk_start

/-! ### Signal absence, LANE_RESET and enabling -/

theorem lanesOk_loseSignal (h : LanesOk bits s) : LanesOk bits (loseSignal l s) := by
  unfold loseSignal
  split
  · exact h
  · exact h
  · next halign => exact lanesOk_abandonConfirm h halign
  · next halign => exact lanesOk_loseAlignment (fun k _ => h k) (on_of_align h (by simp [halign])) _
  · next halign => exact lanesOk_loseAlignment (fun k _ => h k) (on_of_align h (by simp [halign])) _

theorem lanesOk_abortSurvey (h : LanesOk bits s) : LanesOk bits (abortSurvey l s) :=
  lanesOk_congr h (by simp) (by simp)

theorem lanesOk_resetLane (h : LanesOk bits s) : LanesOk bits (resetLane l s) := by
  unfold resetLane
  split
  · exact h
  · next halign =>
    refine lanesOk_abortSurvey (lanesOk_gone (fun k _ => h k) ?_ (h l).assembly (h l).off)
    simp [aligned, halign]
  · next halign => exact lanesOk_abortSurvey (lanesOk_abandonConfirm h halign)
  · next halign =>
    exact lanesOk_abortSurvey (lanesOk_loseAlignment (fun k _ => h k) (on_of_align h (by simp [halign])) _)
  · next halign =>
    exact lanesOk_abortSurvey (lanesOk_loseAlignment (fun k _ => h k) (on_of_align h (by simp [halign])) _)

/-- The enable bits with that of lane `l` changed. -/
def withBit (l : LaneId) (b : Bool) (bits : LaneId → Bool) (k : LaneId) : Bool := if k = l then b else bits k

theorem lanesOk_disableLane (h : LanesOk bits s) : LanesOk (withBit l false bits) (disableLane l s) := by
  refine lanesOk_abortSurvey (lanesOk_gone (fun k hk => ?_) ?_ ?_ ?_)
  · rw [withBit, if_neg hk]
    exact others_setLane h _ hk
  all_goals rw [setLane_lanes, Tab.get_set_self]
  · simp [disabledLane, aligned]
  · simp [disabledLane, assemblyLegal, aligned]
  · simp [disabledLane, withBit]

theorem lanesOk_enableLane (h : LanesOk bits s) : LanesOk (withBit l true bits) (enableLane l s) := by
  unfold enableLane
  split
  · next hoff =>
    intro k
    rw [setLane_lanes, setLane_stores, Tab.get_set, withBit]
    split
    · next hk =>
      subst hk
      have hout : aligned (s.lanes.get k) = false := by simp [aligned, hoff]
      have hnone := (assemblyLegal_out hout).1 (h k).assembly
      have hout' : aligned { s.lanes.get k with align := .seek } = false := rfl
      refine { h k with assembly := (assemblyLegal_out hout').2 hnone, follows := ?_, off := by simp }
      have hfollows := (h k).follows
      rw [storeFollows, hout] at hfollows
      rwa [storeFollows, hout']
    · exact h k
  · next hon =>
    have hbit := on_of_align h hon
    have hsame : withBit l true bits = bits := by
      funext k
      unfold withBit
      split
      · next hk => rw [hk, hbit]
      · rfl
    rwa [hsame]

theorem lanesOk_switchLane {before after : Num} (h : LanesOk bits s) (hbit : bits l = inMask before l) :
    LanesOk (withBit l (inMask after l) bits) (switchLane before after s l) := by
  unfold switchLane
  split
  · next hafter => exact hafter ▸ lanesOk_disableLane h
  · next hafter => exact hafter ▸ lanesOk_enableLane h
  · next hoff hon =>
    have hsame : withBit l (inMask after l) bits = bits := by
      funext k
      unfold withBit
      split
      · next hk =>
        rw [hk, hbit]
        cases hb : inMask before l <;> cases ha : inMask after l
        · rfl
        · exact absurd ha (hon hb)
        · exact absurd ha (hoff hb)
        · rfl
      · rfl
    rwa [hsame]

theorem lanesOk_switchLanes {before after : Num} (ls : List LaneId) (hls : ls.Nodup) :
    ∀ (bits : LaneId → Bool) (s : State), (∀ l ∈ ls, bits l = inMask before l) → LanesOk bits s →
      LanesOk (fun k => if k ∈ ls then inMask after k else bits k) (ls.foldl (switchLane before after) s) := by
  induction ls with
  | nil => exact fun bits s _ h => by simpa using h
  | cons l ls ih =>
    intro bits s hbits h
    obtain ⟨hl, hls⟩ := List.nodup_cons.1 hls
    have hbits' : ∀ k ∈ ls, withBit l (inMask after l) bits k = inMask before k := fun k hk => by
      have hkl : k ≠ l := fun hkl => hl (hkl ▸ hk)
      rw [withBit, if_neg hkl]
      exact hbits k (by simp [hk])
    have hrest := ih hls _ _ hbits' (lanesOk_switchLane (after := after) h (hbits l (by simp)))
    have hsame : (fun k => if k ∈ ls then inMask after k else withBit l (inMask after l) bits k) =
        fun k => if k ∈ l :: ls then inMask after k else bits k := by
      funext k
      by_cases hk : k ∈ ls
      · simp [hk]
      · by_cases hkl : k = l <;> simp [hk, hkl, withBit]
    rw [List.foldl_cons]
    exact hsame ▸ hrest

theorem lanesLegal_writeIngressEnable (v : Num) (s : State) (h : LanesLegal s) : LanesLegal (writeIngressEnable v s) := by
  rw [lanesLegal_iff] at h ⊢
  have hall := lanesOk_switchLanes (before := s.params.ingressEnable) (after := v) (List.finRange 16)
    (List.nodup_finRange 16) _ { s with params := { s.params with ingressEnable := v } } (fun _ _ => rfl) h
  have hbits : (fun k : LaneId => if k ∈ List.finRange 16 then inMask v k else inMask s.params.ingressEnable k) = inMask v := by
    funext k
    simp
  rw [hbits] at hall
  rw [ParamStores.writeIngressEnable_params]
  exact hall

theorem lanesOk_clearCounts (mask : Num) (channelToo : Bool) (h : LanesOk bits s) :
    LanesOk bits (clearCounts mask channelToo s) := by
  intro k
  simp only [clearCounts, Tab.get_ofFn]
  split
  · exact ⟨(h k).assembly, (h k).records, (h k).follows, (h k).off⟩
  · exact h k

/-! ### Every step -/

theorem lanesLegal_of_lanesOk {s t : State} (hparams : t.params = s.params)
    (h : ∀ bits, LanesOk bits s → LanesOk bits t) (hs : LanesLegal s) : LanesLegal t := by
  rw [lanesLegal_iff] at hs ⊢
  rw [hparams]
  exact h _ hs

theorem lanesOk_refinStart (s : State) (h : LanesOk bits s) : LanesOk bits (refinStart s) := by
  obtain heq | heq := refinStart_starts s <;> rw [heq]
  · exact h
  · exact lanesOk_start none s h

theorem lanesOk_checkMissRun (s : State) (h : LanesOk bits s) : LanesOk bits (checkMissRun s) := by
  unfold checkMissRun
  split
  · split
    · intro k
      have hlanes : (loseSource { s with timing := refinDisqualified s.timing }).lanes = s.lanes := by simp
      rw [hlanes, loseSource, moveTiming_stores]
      split
      · exact (h k).recentred
      · exact h k
    · exact h
  · exact h

theorem lanesOk_takePulse (early : Bool) (s : State) (h : LanesOk bits s) : LanesOk bits (takePulse early s) := by
  unfold takePulse
  split
  · exact h
  · exact lanesOk_refinStart _ h

theorem lanesOk_takeMiss (s : State) (h : LanesOk bits s) : LanesOk bits (takeMiss s) := by
  unfold takeMiss
  split
  · exact h
  · exact lanesOk_checkMissRun _ (lanesOk_refinStart _ h)

theorem lanesOk_timerExpires (s : State) (h : LanesOk bits s) : LanesOk bits (timerExpires s) := by
  unfold timerExpires
  split
  · exact lanesOk_start none s h
  · exact h

/-- At most one start leaves the parameters. -/
theorem params_of_starts {s t : State} (h : AtMostOneStart s t) : t.params = s.params := by
  cases h with
  | calm h => exact params_of_calm h
  | start o h h' =>
    rw [params_of_calm h', ← params_of_calm h]
    simp

theorem lanes_byLines : ByLines LanesLegal where
  same s t hsame h := by
    rw [lanesLegal_iff] at h ⊢
    rw [hsame.ingress]
    exact lanesOk_congr h hsame.lanes hsame.stores
  qualify _ _ _ h := h
  ingress := lanesLegal_writeIngressEnable
  reset l s h := lanesLegal_of_lanesOk (params_of_calm (resetLane_calm l s)) (fun _ => lanesOk_resetLane) h
  clear mask channelToo s h := lanesLegal_of_lanesOk (s := s) rfl (fun _ => lanesOk_clearCounts mask channelToo) h
  power _ _ _ := Resets.reset_lanesLegal
  word l e s h := lanesLegal_of_lanesOk (params_of_starts (arriveWord_starts l e s))
    (fun _ => lanesOk_arriveWord e.content e.flagged) h
  signal l s h := lanesLegal_of_lanesOk (params_of_calm (loseSignal_calm l s)) (fun _ => lanesOk_loseSignal) h
  timer s h := lanesLegal_of_lanesOk (params_of_starts (timerExpires_starts s)) (fun _ => lanesOk_timerExpires s) h
  pulse early s h :=
    lanesLegal_of_lanesOk (params_of_starts (takePulse_starts early s)) (fun _ => lanesOk_takePulse early s) h
  miss s h := lanesLegal_of_lanesOk (params_of_starts (takeMiss_starts s)) (fun _ => lanesOk_takeMiss s) h

/-- Settles O52. -/
theorem everyStepKeepsLanesAndStoresLegal : Obligations.EveryStepKeepsLanesAndStoresLegal := by
  unfold Obligations.EveryStepKeepsLanesAndStoresLegal
  exact fun s t h hstep => step_keeps_lines lanes_byLines hstep h

end Sys2Proof.LanesKept
end

section
/-! SUPPORT. The current source stays qualified, and to PRIMARY and SECONDARY (R40 to R46), through every event of the lines. -/

namespace Sys2Proof.TimingKept

open Sys2Proof.Machine Sys2Proof.CalmEvents Sys2Proof.LaneGone Sys2Proof.LaneWords Sys2Proof.LaneLoss Sys2Proof.LaneEvents
  Sys2Proof.LanesKept

/-- A source is held exactly in PRIMARY and SECONDARY, and is qualified. -/
structure SourceOk (tm : Timing) : Prop where
  legal : sourceLegal tm = true
  qualifies : tm.source.isSome → qualified tm tm.source = true

/-- `TimingLegal`, the lanes in `but` apart. -/
structure TimingOk (but : LaneId → Prop) (s : State) : Prop where
  source : SourceOk s.timing
  frames : 1 ≤ s.params.qualifyFrames.toNat
  cleared : ∀ l, ¬ but l → aligned (s.lanes.get l) = false → s.timing.laneQual.get l = ⟨false, 0⟩

/-- No lane is set apart. -/
def nowhere (_ : LaneId) : Prop := False

theorem timingLegal_iff (s : State) : TimingLegal s ↔ TimingOk nowhere s :=
  ⟨fun ⟨h₁, h₂, h₃, h₄⟩ => ⟨⟨h₁, h₂⟩, h₃, fun l _ => h₄ l⟩, fun ⟨⟨h₁, h₂⟩, h₃, h₄⟩ => ⟨h₁, h₂, h₃, fun l => h₄ l id⟩⟩

/-! ### Sources -/

theorem qualified_congr {t u : Timing} (hlane : t.laneQual = u.laneQual) (hrefin : t.refinQual = u.refinQual)
    (src : Option Source) : qualified t src = qualified u src := by
  unfold qualified
  rw [hlane, hrefin]

/-- A source stays held and qualified where the marks of qualification do not go. -/
theorem SourceOk.mono {t u : Timing} (h : SourceOk t) (hstate : u.state = t.state) (hsource : u.source = t.source)
    (hkeeps : qualified t t.source = true → qualified u t.source = true) : SourceOk u := by
  constructor
  · have := h.legal
    unfold sourceLegal at this ⊢
    rwa [hstate, hsource]
  · rw [hsource]
    exact fun hsome => hkeeps (h.qualifies hsome)

/-- The choice at a loss is legal. -/
theorem sourceOk_chosen (t : Timing) (p : Params) :
    SourceOk { t with state := (chosenAtLoss t p).1, source := (chosenAtLoss t p).2 } := by
  obtain ⟨hstate, hsource⟩ | ⟨hstate, hsome, hqualified⟩ := chosenAtLoss_legal t p
  · constructor
    · simp [sourceLegal, hstate, hsource]
    · simp [hsource]
  · constructor
    · rcases hstate with hstate | hstate <;> simp [sourceLegal, hstate, hsome]
    · intro _
      rw [← hqualified]
      exact qualified_congr rfl rfl _

theorem isSome_of_qualified {t : Timing} {src : Option Source} (h : qualified t src = true) : src.isSome = true := by
  cases src with
  | none => simp [qualified] at h
  | some _ => rfl

/-- The evaluation of a start keeps the source legal. -/
theorem sourceOk_evaluated {t : Timing} (h : SourceOk t) (p : Params) :
    SourceOk { t with state := (evaluated t p).1, source := (evaluated t p).2 } := by
  have hstays : SourceOk { t with state := t.state, source := t.source } := h
  have hprimary : qualified t (primarySource p) = true →
      SourceOk { t with state := .primary, source := primarySource p } := fun hq =>
    ⟨by simp [sourceLegal, isSome_of_qualified hq], fun _ => by rw [← hq]; exact qualified_congr rfl rfl _⟩
  have hsecondary : qualified t (secondarySource p) = true →
      SourceOk { t with state := .secondary, source := secondarySource p } := fun hq =>
    ⟨by simp [sourceLegal, isSome_of_qualified hq], fun _ => by rw [← hq]; exact qualified_congr rfl rfl _⟩
  have hlocal : SourceOk { t with
      state := (if qualified t (primarySource p) then (TimingState.primary, primarySource p)
        else if qualified t (secondarySource p) then (.secondary, secondarySource p) else (t.state, t.source)).1
      source := (if qualified t (primarySource p) then (TimingState.primary, primarySource p)
        else if qualified t (secondarySource p) then (.secondary, secondarySource p) else (t.state, t.source)).2 } := by
    split
    · next hq => exact hprimary hq
    · split
      · next hq => exact hsecondary hq
      · exact hstays
  unfold evaluated
  cases hstate : t.state with
  | freerun => simpa only [hstate] using hlocal
  | holdover => simpa only [hstate] using hlocal
  | primary =>
    simp only
    split
    · rw [← hstate]
      exact hstays
    · exact sourceOk_chosen t p
  | secondary =>
    simp only
    split
    · next hq => exact hprimary hq.1
    · split
      · rw [← hstate]
        exact hstays
      · exact sourceOk_chosen t p

/-! ### Lanes that leave -/

variable {but : LaneId → Prop} {s t : State} {l : LaneId}

theorem TimingOk.mono (h : TimingOk but s) {but' : LaneId → Prop} (hbut : ∀ k, but k → but' k) : TimingOk but' s :=
  { h with cleared := fun k hk => h.cleared k fun hb => hk (hbut k hb) }

/-- A receiver that does not go out of alignment clears nothing; one that does is set apart. -/
theorem timingOk_setLane (h : TimingOk but s) {r : Lane}
    (hr : but l ∨ aligned r = true ∨ aligned r = aligned (s.lanes.get l)) : TimingOk but (setLane l r s) := by
  refine ⟨h.source, h.frames, fun k hk hout => ?_⟩
  rw [setLane_lanes, Tab.get_set] at hout
  split at hout
  · next hkl =>
    subst hkl
    rcases hr with hr | hr | hr
    · exact absurd hr hk
    · simp [hr] at hout
    · exact h.cleared k hk (hr ▸ hout)
  · exact h.cleared k hk hout

theorem timingOk_same (h : TimingOk but s) (hlanes : t.lanes = s.lanes) (htiming : t.timing = s.timing)
    (hframes : t.params.qualifyFrames = s.params.qualifyFrames) : TimingOk but t := by
  refine ⟨by rw [htiming]; exact h.source, by rw [hframes]; exact h.frames, fun k hk hout => ?_⟩
  rw [hlanes] at hout
  rw [htiming]
  exact h.cleared k hk hout

/-- A lane that leaves is unqualified, and its loss as a source is made good. -/
theorem timingOk_gone (h : TimingOk (fun k => k = l) s) : TimingOk nowhere (laneGone l s) := by
  have hlanes : (laneGone l s).lanes = s.lanes := by simp
  have hparams : (laneGone l s).params = s.params := by simp
  refine ⟨?_, by rw [hparams]; exact h.frames, fun k _ hout => ?_⟩
  · rw [laneGone_timing_disqualified]
    by_cases hsource : s.timing.source = some (.lane l)
    · rw [disqualifyLane_of_source (s := idleStore l s) hsource, moveTiming_timing]
      exact sourceOk_chosen _ _
    · rw [disqualifyLane_of_other (s := idleStore l s) hsource]
      refine h.source.mono rfl rfl fun hq => ?_
      cases hsrc : s.timing.source with
      | none => simp [hsrc, qualified] at hq
      | some src =>
        rw [hsrc] at hq hsource
        cases src with
        | refin => exact hq
        | lane k =>
          have hk : k ≠ l := fun hk => hsource (by rw [hk])
          simp only [qualified, unqualified, Tab.get_set_ne _ _ hk]
          exact hq
  · rw [laneGone_timing]
    simp only [Tab.get_set]
    split
    · rfl
    · next hk => exact h.cleared k hk (by rwa [hlanes] at hout)

theorem timingOk_goneLane (h : TimingOk nowhere s) (r : Lane) : TimingOk nowhere (laneGone l (setLane l r s)) :=
  timingOk_gone (timingOk_setLane (h.mono fun _ hk => hk.elim) (.inl rfl))

theorem timingOk_loseAlignment (h : TimingOk (fun k => k = l) s) (cause : Octet) :
    TimingOk nowhere (loseAlignment l cause s) := by
  have htold : TimingOk (fun k => k = l) (lossTold l cause s) :=
    timingOk_same (timingOk_setLane (l := l) (r := lostLane (s.lanes.get l)) h (.inl rfl))
      (by simp [lossTold]) (by simp [lossTold]) (by simp [lossTold])
  exact timingOk_same (timingOk_gone htold) (by simp [loseAlignment_eq]) (by simp [loseAlignment_eq])
    (by simp [loseAlignment_eq])

/-! ### Words -/

/-- A new qualification record of an aligned lane that keeps its mark. -/
theorem timingOk_credit (h : TimingOk nowhere s) (hin : aligned (s.lanes.get l) = true) : TimingOk nowhere (creditLane l s) := by
  refine ⟨h.source.mono rfl rfl fun hq => ?_, h.frames, fun k hk hout => ?_⟩
  · cases hsrc : s.timing.source with
    | none => simp [hsrc, qualified] at hq
    | some src =>
      rw [hsrc] at hq
      cases src with
      | refin => exact hq
      | lane k =>
        have hq : (s.timing.laneQual.get k).qualified = true := hq
        show ((s.timing.laneQual.set l _).get k).qualified = true
        rw [Tab.get_set]
        split
        · next hkl => simp [credited, ← hkl, hq]
        · exact hq
  · have hkl : k ≠ l := fun hkl => by
      rw [hkl] at hout
      exact absurd hout (by simp [creditLane, hin])
    simp only [creditLane, Tab.get_set_ne _ _ hkl]
    exact h.cleared k hk hout

theorem timingOk_start (o : Option LaneId) (s : State) (h : TimingOk nowhere s) : TimingOk nowhere (masterFrameStart o s) := by
  have hlanes : (masterFrameStart o s).lanes = s.lanes := by simp
  have hparams : (masterFrameStart o s).params = s.params := by simp
  refine ⟨?_, by rw [hparams]; exact h.frames, fun k hk hout => ?_⟩
  · rw [Starts.timing_eq]
    exact (sourceOk_evaluated h.source s.params).mono rfl rfl fun hq => hq
  · rw [Starts.timing_eq]
    exact h.cleared k hk (by rwa [hlanes] at hout)

theorem timingOk_confirmMarker (h : TimingOk nowhere s) (e : Heard) : TimingOk nowhere (confirmMarker l e s) := by
  unfold confirmMarker
  split
  · split
    · split
      · unfold gainSync
        refine timingOk_same (s := setLane l (beginFrame (markerNumber e)
          { s.lanes.get l with align := .sync, confirmed := (s.lanes.get l).confirmed + 1, missed := 0 }) s)
          (timingOk_setLane h (.inr (.inl ?_))) (by simp) (by simp) (by simp)
        simp [beginFrame, aligned]
      · exact timingOk_setLane h (.inr (.inr rfl))
    · exact timingOk_setLane h (.inr (.inr rfl))
  · exact timingOk_goneLane h _

theorem timingOk_missTold (r : Lane) (h : TimingOk but (setLane l r s)) : TimingOk but (missTold l r s) :=
  ⟨h.source, h.frames, h.cleared⟩

theorem timingOk_missMarker (h : TimingOk nowhere s) (r : Lane) :
    TimingOk nowhere (missMarker l (setLane l r s)) := by
  have hapart : TimingOk (fun k => k = l) s := h.mono fun _ hk => hk.elim
  rw [missMarker_eq]
  split
  · exact timingOk_loseAlignment (timingOk_missTold _ (timingOk_setLane hapart (.inl rfl))) _
  · refine timingOk_missTold _ (timingOk_setLane h (.inr (.inl ?_)))
    simp [beginFrame, aligned]

theorem timingOk_completeFrame (h : TimingOk nowhere s) (hin : aligned (s.lanes.get l) = true) (e : Heard) :
    TimingOk nowhere (completeFrame l e s) := by
  unfold completeFrame
  split
  · have hdone : TimingOk nowhere (setLane l { s.lanes.get l with assembly := none } s) :=
      timingOk_setLane h (.inr (.inr rfl))
    have hwritten : ∀ rec, TimingOk nowhere
        (writeStore l rec (creditLane l (setLane l { s.lanes.get l with assembly := none } s))) := fun rec =>
      timingOk_same (timingOk_credit (l := l) hdone (by rw [setLane_lanes, Tab.get_set_self]; exact hin)) (by simp) (by simp) (by simp)
    unfold writeRecord
    split
    · exact timingOk_start _ _ (hwritten _)
    · exact hwritten _
  · exact h

theorem timingOk_alignedWord (h : TimingOk nowhere s) (hin : aligned (s.lanes.get l) = true) (p : Fin 42) (e : Heard)
    (f : Bool) : TimingOk nowhere (alignedWord l p e (setLane l (taken f (s.lanes.get l)) s)) := by
  have htaken : TimingOk nowhere (setLane l (taken f (s.lanes.get l)) s) := timingOk_setLane h (.inr (.inr rfl))
  unfold alignedWord alignedMarker
  split
  · split
    · refine timingOk_setLane htaken (.inr (.inl ?_))
      simp [markerKept, beginFrame, aligned]
    · exact timingOk_missMarker h _
  · split
    · refine timingOk_completeFrame htaken ?_ e
      rw [setLane_lanes, Tab.get_set_self]
      exact hin
    · exact timingOk_setLane htaken (.inr (.inr rfl))

theorem timingOk_arriveWord (w : Word) (f : Bool) (h : TimingOk nowhere s) : TimingOk nowhere (arriveWord l ⟨w, f⟩ s) := by
  cases halign : (s.lanes.get l).align with
  | off => rwa [arriveWord_off halign]
  | seek =>
    rw [arriveWord_seek halign, countCode_eq]
    have hcounted : TimingOk nowhere (setLane l
        { s.lanes.get l with codeErrors := if f then bump (s.lanes.get l).codeErrors else (s.lanes.get l).codeErrors } s) :=
      timingOk_setLane h (.inr (.inr rfl))
    unfold seekWord
    split
    · refine timingOk_setLane hcounted (.inr (.inr ?_))
      simp [seekFound, aligned, halign]
    · exact hcounted
  | confirm =>
    have htaken : TimingOk nowhere (setLane l (taken f (s.lanes.get l)) s) := timingOk_setLane h (.inr (.inr rfl))
    rw [arriveWord_confirm halign]
    split
    · exact timingOk_confirmMarker htaken _
    · exact htaken
  | sync =>
    rw [arriveWord_aligned (.inl halign)]
    exact timingOk_alignedWord h (aligned_of_align (.inl halign)) _ _ f
  | drift =>
    rw [arriveWord_aligned (.inr halign)]
    exact timingOk_alignedWord h (aligned_of_align (.inr halign)) _ _ f

/-! ### Signal absence, LANE_RESET and enabling -/

theorem timingOk_loss (h : TimingOk nowhere s) (cause : Octet) : TimingOk nowhere (loseAlignment l cause s) :=
  timingOk_loseAlignment (h.mono fun _ hk => hk.elim) cause

theorem timingOk_loseSignal (h : TimingOk nowhere s) : TimingOk nowhere (loseSignal l s) := by
  unfold loseSignal
  split
  · exact h
  · exact h
  · exact timingOk_goneLane h _
  · exact timingOk_loss h _
  · exact timingOk_loss h _

theorem timingOk_abortSurvey (h : TimingOk nowhere s) : TimingOk nowhere (abortSurvey l s) :=
  timingOk_same h (by simp) (by simp) (by simp)

theorem timingOk_resetLane (h : TimingOk nowhere s) : TimingOk nowhere (resetLane l s) := by
  unfold resetLane
  split
  · exact h
  · exact timingOk_abortSurvey (timingOk_gone (h.mono fun _ hk => hk.elim))
  · exact timingOk_abortSurvey (timingOk_goneLane h _)
  · exact timingOk_abortSurvey (timingOk_loss h _)
  · exact timingOk_abortSurvey (timingOk_loss h _)

theorem timingOk_switchLane (before after : Num) (l : LaneId) (h : TimingOk nowhere s) :
    TimingOk nowhere (switchLane before after s l) := by
  unfold switchLane
  split
  · exact timingOk_abortSurvey (timingOk_goneLane h _)
  · unfold enableLane
    split
    · next hoff =>
      refine timingOk_setLane h (.inr (.inr ?_))
      simp [aligned, hoff]
    · exact h
  · exact h

theorem timingOk_writeIngressEnable (v : Num) (s : State) (h : TimingOk nowhere s) : TimingOk nowhere (writeIngressEnable v s) := by
  have hfold : ∀ (ls : List LaneId) u, TimingOk nowhere u →
      TimingOk nowhere (ls.foldl (switchLane s.params.ingressEnable v) u) := by
    intro ls
    induction ls with
    | nil => exact fun _ hu => hu
    | cons l ls ih => exact fun u hu => ih _ (timingOk_switchLane _ v l hu)
  exact hfold _ _ (timingOk_same h rfl rfl rfl)

/-! ### REFIN and QUALIFY_FRAMES -/

/-- A change of timing that keeps the lanes' records. -/
theorem timingOk_timing (h : TimingOk nowhere s) {tm : Timing} (hsource : SourceOk tm) (hlanes : tm.laneQual = s.timing.laneQual) :
    TimingOk nowhere { s with timing := tm } := by
  refine ⟨hsource, h.frames, fun k hk hout => ?_⟩
  simp only [hlanes]
  exact h.cleared k hk hout

theorem timingOk_refinStart (h : TimingOk nowhere s) : TimingOk nowhere (refinStart s) := by
  obtain heq | heq := refinStart_starts s <;> rw [heq]
  · exact h
  · exact timingOk_start none s h

theorem timingOk_takePulse (early : Bool) (h : TimingOk nowhere s) : TimingOk nowhere (takePulse early s) := by
  unfold takePulse
  split
  · exact h
  · refine timingOk_refinStart (timingOk_timing h (h.source.mono rfl rfl fun hq => ?_) rfl)
    cases hsrc : s.timing.source with
    | none => simp [hsrc, qualified] at hq
    | some src =>
      rw [hsrc] at hq
      cases src with
      | lane k => exact hq
      | refin =>
        have hrefin : s.timing.refinQual.qualified = true := hq
        simp [qualified, pulseAccepted, hrefin]

theorem sourceOk_missTaken {tm : Timing} (h : SourceOk tm) : SourceOk (missTaken tm) := by
  unfold missTaken
  split
  · exact h.mono rfl rfl fun hq => hq
  · refine h.mono rfl rfl fun hq => ?_
    unfold qualified at hq ⊢
    exact hq

theorem timingOk_checkMissRun (h : TimingOk nowhere s) : TimingOk nowhere (checkMissRun s) := by
  unfold checkMissRun
  split
  · split
    · refine ⟨?_, ?_, fun k hk hout => ?_⟩
      · rw [loseSource_timing]
        exact sourceOk_chosen _ _
      · have hparams : (loseSource { s with timing := refinDisqualified s.timing }).params = s.params := by simp
        rw [hparams]
        exact h.frames
      · have hlanes : (loseSource { s with timing := refinDisqualified s.timing }).lanes = s.lanes := by simp
        rw [loseSource_timing]
        exact h.cleared k hk (by rwa [hlanes] at hout)
    · next hsource =>
      refine timingOk_timing h (h.source.mono rfl rfl fun hq => ?_) rfl
      cases hsrc : s.timing.source with
      | none => simp [hsrc, qualified] at hq
      | some src =>
        rw [hsrc] at hq hsource
        cases src with
        | lane k => exact hq
        | refin => exact absurd rfl hsource
  · exact h

theorem timingOk_takeMiss (h : TimingOk nowhere s) : TimingOk nowhere (takeMiss s) := by
  unfold takeMiss
  split
  · exact h
  · refine timingOk_checkMissRun (timingOk_refinStart (timingOk_timing h (sourceOk_missTaken h.source) ?_))
    unfold missTaken
    split <;> rfl

theorem timingOk_timerExpires (h : TimingOk nowhere s) : TimingOk nowhere (timerExpires s) := by
  unfold timerExpires
  split
  · exact timingOk_start none s h
  · exact timingOk_timing h (h.source.mono rfl rfl fun hq => hq) rfl

/-- A write of QUALIFY_FRAMES qualifies no source whose count is 0. -/
theorem timingOk_requalify {v : Num} (hv : paramInRange .qualifyFrames v = true) (h : TimingOk nowhere s) :
    TimingOk nowhere (requalifyAll { s with params := { s.params with qualifyFrames := v } }) := by
  have hpos : 1 ≤ v.toNat := by
    simp only [paramInRange, within, Bool.and_eq_true, decide_eq_true_eq] at hv
    omega
  refine ⟨h.source.mono rfl rfl fun hq => ?_, hpos, fun k hk hout => ?_⟩
  · cases hsrc : s.timing.source with
    | none => simp [hsrc, qualified] at hq
    | some src =>
      rw [hsrc] at hq
      cases src with
      | lane k =>
        have hlane : (s.timing.laneQual.get k).qualified = true := hq
        simp [qualified, requalifyAll, requalified, hlane]
      | refin =>
        have hrefin : s.timing.refinQual.qualified = true := hq
        simp [qualified, requalifyAll, requalified, hrefin]
  · have hcleared := h.cleared k hk hout
    simp only [requalifyAll, Tab.get_ofFn, hcleared, requalified]
    have : ¬ v.toNat ≤ 0 := by omega
    simp [this]

/-! ### Every step -/

theorem timing_byLines : ByLines (TimingOk nowhere) where
  same _ _ hsame h := timingOk_same h hsame.lanes hsame.timing hsame.qualify
  qualify _ _ hv h := timingOk_requalify hv h
  ingress := timingOk_writeIngressEnable
  reset _ _ h := timingOk_resetLane h
  clear mask channelToo s h := by
    refine ⟨h.source, h.frames, fun k hk hout => h.cleared k hk ?_⟩
    simp only [clearCounts, Tab.get_ofFn] at hout
    split at hout <;> exact hout
  power c straps s := (timingLegal_iff _).1 Resets.reset_timingLegal
  word _ e _ h := timingOk_arriveWord e.content e.flagged h
  signal _ _ h := timingOk_loseSignal h
  timer _ h := timingOk_timerExpires h
  pulse early _ h := timingOk_takePulse early h
  miss _ h := timingOk_takeMiss h

/-- Settles O53. -/
theorem everyStepKeepsTheSourceQualified : Obligations.EveryStepKeepsTheSourceQualified := by
  unfold Obligations.EveryStepKeepsTheSourceQualified
  intro s t h hstep
  rw [timingLegal_iff] at h ⊢
  exact step_keeps_lines timing_byLines hstep h

end Sys2Proof.TimingKept
end

section
/-! SUPPORT. The local frame timer and REFIN (R39, R42, R43): starts, and the disqualification of REFIN. -/

namespace Sys2Proof.RefinLoss

open Sys2Proof.Machine Sys2Proof.Raising Sys2Proof.Moves Sys2Proof.LaneGone Sys2Proof.CalmEvents

theorem exec_refinMiss {s b : State} (hb : settle s = b) : exec .refinMiss s = .next (takeMiss b) := by
  rw [← hb]
  rfl

theorem exec_localFrameTimerExpiry {s b : State} (hb : settle s = b) : exec .localFrameTimerExpiry s = .next (timerExpires b) := by
  rw [← hb]
  rfl

theorem exec_refinPulse {s b : State} (hb : settle s = b) (early : Bool) :
    exec (.refinPulse early) s = .next (takePulse early b) := by
  rw [← hb]
  rfl

/-- Settles O14. -/
theorem timerExpiryAndRefinPulseMakeStarts : Obligations.TimerExpiryAndRefinPulseMakeStarts := by
  unfold Obligations.TimerExpiryAndRefinPulseMakeStarts
  constructor
  · rintro s b hb
    rw [exec_localFrameTimerExpiry hb]
    refine congrArg Host.Outcome.next ?_
    unfold timerExpires
    refine if_congr ?_ rfl rfl
    simp [locallyTimed]
  · rintro early s b u hb rfl
    rw [exec_refinPulse hb]
    refine congrArg Host.Outcome.next ?_
    unfold takePulse
    refine if_congr ?_ rfl ?_
    · simp [pulseEarly]
    · have hpulse : pulseAccepted b.params.qualifyFrames b.timing =
          { b.timing with
            missRun := 0, window := .sincePulse, pulseHeld := true
            refinQual :=
              if b.timing.refinQual.qualified then b.timing.refinQual
              else
                { count := min (b.timing.refinQual.count + 1) 1024
                  qualified := decide (b.params.qualifyFrames.toNat ≤ min (b.timing.refinQual.count + 1) 1024) } } := by
        unfold pulseAccepted credited
        cases b.timing.refinQual.qualified <;> rfl
      rw [hpulse]
      rfl

/-! ### The disqualification of REFIN -/

/-- The part with REFIN's record and miss run cleared and its window stopped. -/
def refinCleared (u : State) : State := { u with timing := refinDisqualified u.timing }

theorem choice_ne_refin (u : State) : (chosenAtLoss (refinCleared u).timing u.params).2 ≠ some .refin :=
  chosenAtLoss_ne _ rfl

theorem moves_of_refinLoss {u : State} (h : u.timing.source = some .refin) :
    moves (chosenAtLoss (refinCleared u).timing u.params) (refinCleared u) = true := by
  have hne : u.timing.source ≠ (chosenAtLoss (refinCleared u).timing u.params).2 := h ▸ (choice_ne_refin u).symm
  simp only [moves, decide_eq_true_eq]
  exact .inr hne

theorem checkMissRun_of_source {u : State} (hdue : u.timing.refinQual.qualified ∧ u.params.refinMiss.toNat ≤ u.timing.missRun)
    (h : u.timing.source = some .refin) :
    checkMissRun u = moveTiming (chosenAtLoss (refinCleared u).timing u.params) (refinCleared u) := by
  rw [checkMissRun, if_pos hdue, if_pos h]
  rfl

theorem checkMissRun_of_other {u : State} (hdue : u.timing.refinQual.qualified ∧ u.params.refinMiss.toNat ≤ u.timing.missRun)
    (h : u.timing.source ≠ some .refin) : checkMissRun u = refinCleared u := by
  rw [checkMissRun, if_pos hdue, if_neg h]
  rfl

theorem refinDisqualified_of_source {u : State} (h : u.timing.source = some .refin) :
    RefinDisqualified u (moveTiming (chosenAtLoss (refinCleared u).timing u.params) (refinCleared u)) := by
  have hclear : Part (only false .timingChange .none) 0 u (refinCleared u) := .of_eq rfl rfl rfl
  have htiming := moveTiming_timing (refinCleared u) (chosenAtLoss (refinCleared u).timing u.params)
  have hstores := moveTiming_stores (refinCleared u) (chosenAtLoss (refinCleared u).timing u.params)
  have hpart := moveTiming_part (chosenAtLoss (refinCleared u).timing u.params) (refinCleared u)
  have hraised := moveTiming_raised (moves_of_refinLoss h)
  have hcalm := moveTiming_calm (chosenAtLoss (refinCleared u).timing u.params) (refinCleared u)
  have hframe := moveTiming_frame (refinCleared u) (chosenAtLoss (refinCleared u).timing u.params)
  have hne : u.timing.source ≠ (chosenAtLoss (refinCleared u).timing u.params).2 := h ▸ (choice_ne_refin u).symm
  have hchoice : ∀ tm : Timing, tm = { (refinCleared u).timing with
      state := (chosenAtLoss (refinCleared u).timing u.params).1
      source := (chosenAtLoss (refinCleared u).timing u.params).2 } →
      choiceAtLoss tm u.params = chosenAtLoss (refinCleared u).timing u.params := by
    rintro tm rfl
    rw [chosenAtLoss_eq]
    exact choiceAtLoss_congr rfl rfl _
  generalize moveTiming (chosenAtLoss (refinCleared u).timing u.params) (refinCleared u) = t at *
  constructor
  case timing =>
    rw [hchoice _ htiming, if_pos h, if_pos h, htiming]
    rfl
  case stores =>
    intro k
    rw [hstores, recentred_eq_afterRecentre, htiming]
    exact if_congr ⟨fun h' => ⟨h, h'.1⟩, fun h' => ⟨h'.2, hne⟩⟩ rfl rfl
  case change =>
    intro _
    rw [htiming]
    exact raised_congr hraised rfl rfl
  case quiet => exact fun h' => absurd h h'
  case notices =>
    refine ((hclear.trans hpart).mono (fun k x hk => ?_) (le_refl _)).kept
    simp only [either, only, moves_of_refinLoss h, Bool.or_eq_true, Bool.and_eq_true, Bool.false_eq_true, false_and,
      false_or, true_and, decide_eq_true_eq] at hk ⊢
    exact ⟨hk.1, hk.2, h⟩
  case kept =>
    obtain ⟨hlanes, hsurvey, -, -, -, -, hcheckers, hchannel, -⟩ := hframe
    exact ⟨hlanes, hsurvey, hcheckers, hchannel, hcalm.kept⟩

theorem refinDisqualified_of_other {u : State} (h : u.timing.source ≠ some .refin) : RefinDisqualified u (refinCleared u) := by
  constructor
  case timing =>
    rw [if_neg h, if_neg h]
    rfl
  case stores => exact fun k => (if_neg fun h' => h h'.1).symm
  case change => exact fun h' => absurd h' h
  case quiet => exact fun _ => rfl
  case notices => exact .of_eq rfl
  case kept => exact ⟨rfl, rfl, rfl, rfl, by simp [OtherBlocksKept, refinCleared]⟩

/-- What the disqualification does, and that REFIN is not the source behind it. -/
theorem checkMissRun_disqualifies {u : State}
    (hdue : u.timing.refinQual.qualified ∧ u.params.refinMiss.toNat ≤ u.timing.missRun) :
    RefinDisqualified u (checkMissRun u) ∧ (checkMissRun u).timing.source ≠ some .refin := by
  by_cases h : u.timing.source = some .refin
  · rw [checkMissRun_of_source hdue h]
    refine ⟨refinDisqualified_of_source h, ?_⟩
    rw [moveTiming_timing]
    exact choice_ne_refin u
  · rw [checkMissRun_of_other hdue h]
    exact ⟨refinDisqualified_of_other h, h⟩

/-! ### REFIN_MISS -/

theorem refinStart_eq (u : State) :
    refinStart u = if u.timing.source = some .refin then masterFrameStart none u else u := rfl

/-- A start leaves REFIN's record, its miss run and the limit. -/
theorem refinStart_watch (u : State) :
    (refinStart u).timing.refinQual = u.timing.refinQual ∧ (refinStart u).timing.missRun = u.timing.missRun ∧
      (refinStart u).params = u.params := by
  obtain h | h := refinStart_starts u <;> rw [h]
  · exact ⟨rfl, rfl, rfl⟩
  · rw [Starts.timing_eq]
    exact ⟨rfl, rfl, by simp⟩

theorem checkMissRun_stands {u : State}
    (h : ¬ (u.timing.refinQual.qualified = true ∧ u.params.refinMiss.toNat ≤ u.timing.missRun)) : checkMissRun u = u := by
  rw [checkMissRun, if_neg h]

/-- Settles O15. -/
theorem refinMissAdvancesTheRunOrDisqualifies : Obligations.RefinMissAdvancesTheRunOrDisqualifies := by
  unfold Obligations.RefinMissAdvancesTheRunOrDisqualifies
  rintro s b hb
  rw [exec_refinMiss hb]
  clear hb s
  refine ⟨fun hstopped => by rw [takeMiss, if_pos hstopped], fun hrunning => ?_⟩
  have htake : takeMiss b = checkMissRun (refinStart { b with timing := missTaken b.timing }) := by
    rw [takeMiss, if_neg hrunning]
  rw [htake]
  clear htake
  refine ⟨fun hunqualified u hu => ?_, fun hqualified hbelow => ?_, fun hqualified hreached => ?_⟩
  case refine_1 =>
    have hmiss : ({ b with timing := missTaken b.timing } : State) = u := by
      rw [hu, missTaken, if_neg (by simp [hunqualified]), ← hunqualified]
    rw [hmiss, checkMissRun_stands, refinStart_eq, hu]
    obtain ⟨hwatch, -, -⟩ := refinStart_watch u
    rw [hwatch, hu]
    simp
  all_goals
    have hmiss : ({ b with timing := missTaken b.timing } : State) =
        { b with timing := { b.timing with window := .sinceMiss, missRun := b.timing.missRun + 1 } } := by
      rw [missTaken, if_pos hqualified]
    rw [hmiss]
    clear hmiss
    obtain ⟨hwatch, hrun, hparams⟩ :=
      refinStart_watch { b with timing := { b.timing with window := .sinceMiss, missRun := b.timing.missRun + 1 } }
  case refine_2 =>
    rw [checkMissRun_stands, refinStart_eq]
    rw [hrun, hparams]
    simp only
    omega
  case refine_3 =>
    have hdisqualified := checkMissRun_disqualifies
      (u := refinStart { b with timing := { b.timing with window := .sinceMiss, missRun := b.timing.missRun + 1 } })
      ⟨by rw [hwatch]; exact hqualified, by rw [hrun, hparams]; exact hreached⟩
    obtain ⟨h, hsource⟩ := hdisqualified
    refine ⟨_, rfl, fun v hv => ?_, ?_, ?_, ?_, hsource, ?_, fun hother => ?_⟩
    · rw [hv]
      exact h
    · rw [h.timing]
    · rw [h.timing]
    · rw [h.timing]
    · obtain ⟨-, -, -, -, hkept⟩ := h.kept
      obtain ⟨-, -, -, -, -, -, -, -, -, hstarts, -, -⟩ := hkept
      rw [hstarts, refinStart_eq]
      split <;> simp [*]
    · have hstands : refinStart { b with timing := { b.timing with window := .sinceMiss, missRun := b.timing.missRun + 1 } } =
          { b with timing := { b.timing with window := .sinceMiss, missRun := b.timing.missRun + 1 } } := by
        rw [refinStart_eq, if_neg hother]
      rw [hstands]
      exact checkMissRun_of_other
        (u := { b with timing := { b.timing with window := .sinceMiss, missRun := b.timing.missRun + 1 } })
        ⟨hqualified, hreached⟩ hother

end Sys2Proof.RefinLoss
end

section
/-! SUPPORT. A write of INGRESS_ENABLE (R16): the lanes taken one by one, and what all of them together have changed. -/

namespace Sys2Proof.LaneSwitch

open Sys2Proof.Machine Sys2Proof.Raising Sys2Proof.LaneGone Sys2Proof.LaneLoss Sys2Proof.CalmEvents Sys2Proof.LanesKept
  Sys2Proof.Moves

/-! ### How many notices an event can add -/

/-- The kind and subject of an entry. -/
def keyOf (e : NoticeEntry) : NoticeKind × Subject := (e.kind, e.subject)

/-- The entries that notices add are not carried and differ in kind or subject. -/
theorem entered_fresh {n m : NoticeUnit} (h : Entered n m) :
    n.list.length ≤ m.list.length ∧ ((m.list.drop n.list.length).map keyOf).Nodup ∧
      ∀ e ∈ m.list.drop n.list.length, e.carried = false := by
  induction h with
  | none => simp
  | more kind subject frame data h hk ih =>
    rename_i v
    obtain ⟨hlength, hnodup, hfree⟩ := ih
    obtain ⟨-, heq⟩ | ⟨hnone, -, heq⟩ | ⟨-, -, heq⟩ := enterNotice_cases kind subject frame data v <;> rw [heq]
    · have hkey : ∀ e : NoticeEntry,
          keyOf (if waitsFor kind subject e then coalesce frame data e else e) = keyOf e ∧
            (if waitsFor kind subject e then coalesce frame data e else e).carried = e.carried := by
        intro e
        split
        · exact ⟨rfl, rfl⟩
        · exact ⟨rfl, rfl⟩
      refine ⟨by simpa [setList] using hlength, ?_, ?_⟩
      · simp only [setList, ← List.map_drop, List.map_map]
        have hsame : (keyOf ∘ fun e => if waitsFor kind subject e then coalesce frame data e else e) = keyOf :=
          funext fun e => (hkey e).1
        rw [hsame]
        exact hnodup
      · simp only [setList, ← List.map_drop, List.mem_map]
        rintro _ ⟨e, he, rfl⟩
        exact (hkey e).2.trans (hfree e he)
    · refine ⟨by simp [setList]; omega, ?_, ?_⟩
      · simp only [setList, List.drop_append_of_le_length hlength, List.map_append, List.map_singleton]
        rw [List.nodup_append]
        refine ⟨hnodup, List.nodup_singleton _, ?_⟩
        simp only [List.mem_map, List.mem_singleton, forall_exists_index, and_imp]
        rintro a e he rfl b rfl heq
        obtain ⟨hk, hx⟩ := Prod.mk.injEq .. ▸ heq
        rw [List.any_eq_false] at hnone
        refine hnone e (List.mem_of_mem_drop he) ?_
        simp only [waitsFor, Bool.and_eq_true, decide_eq_true_eq, Bool.not_eq_true']
        exact ⟨⟨hk, hx⟩, hfree e he⟩
      · simp only [setList, List.drop_append_of_le_length hlength, List.mem_append, List.mem_singleton]
        rintro e (he | rfl)
        · exact hfree e he
        · rfl
    · exact ⟨hlength, hnodup, hfree⟩

/-- A notice raised among others of an event is in the list where all the kinds and subjects the event can raise find room
beside it. -/
theorem raised_among {may may' : NoticeKind → Subject → Bool} {n p : Nat} {b u t : State} {kind : NoticeKind}
    {subject : Subject} {data : List Octet} (pre : Part may n b u) (post : Part may' p (raise kind subject data u) t)
    (hnot : may' kind subject = false) (keys : List (NoticeKind × Subject)) (hkeys : ∀ k x, may k x = true → (k, x) ∈ keys)
    (hkey : (kind, subject) ∈ keys) : Raised (keys.length - 1) kind subject data b t := by
  have hpost : Raised 0 kind subject data u t :=
    raised_within (Part.of_eq (may := may) (n := 0) rfl rfl rfl) (raised_raise kind subject data u) post hnot
  intro hmask hfits
  refine hpost (by rw [pre.mask]; exact hmask) ?_
  by_cases hwaits : ∃ e ∈ u.notices.list, e.kind = kind ∧ e.subject = subject ∧ e.carried = false
  · exact .inl hwaits
  right
  obtain ⟨hlength, hnodup, hfree⟩ := entered_fresh pre.entered
  have hsubset : (u.notices.list.drop b.notices.list.length).map keyOf ⊆ keys.erase (kind, subject) := by
    intro key hmem
    obtain ⟨e, he, rfl⟩ := List.mem_map.1 hmem
    have hne : keyOf e ≠ (kind, subject) := fun heq => by
      obtain ⟨hk, hx⟩ := Prod.mk.injEq .. ▸ heq
      exact hwaits ⟨e, List.mem_of_mem_drop he, hk, hx, hfree e he⟩
    refine (List.mem_erase_of_ne hne).2 ?_
    obtain ⟨i, hi⟩ := List.getElem?_of_mem he
    rw [List.getElem?_drop] at hi
    obtain ⟨-, hmay, -⟩ := pre.kept.2.fresh _ e (by omega) hi
    exact hkeys _ _ hmay
  have hle := (hnodup.subperm hsubset).length_le
  rw [List.length_map, List.length_drop, List.length_erase_of_mem hkey] at hle
  rcases hfits with ⟨e, he, hk, hx, hc⟩ | hroom
  · obtain ⟨i, hi⟩ := List.getElem?_of_mem he
    obtain ⟨e', he', hk', hx', hc', -⟩ := pre.kept.2.stands i e hi
    exact absurd ⟨e', List.mem_of_getElem? he', hk'.trans hk, hx'.trans hx, hc'.trans hc⟩ hwaits
  · omega

/-! ### Lanes switched -/

/-- The current source is a lane that goes off. -/
def sourceOff (off : LaneId → Bool) (tm : Timing) : Bool :=
  match tm.source with
  | some (.lane l) => off l
  | _ => false

/-- The notices that follow when the lanes in `off` go out. -/
def offNotices (off : LaneId → Bool) (s : State) : NoticeKind → Subject → Bool
  | .timingChange, .none => sourceOff off s.timing
  | .checkDone, .checker c => inProgress (s.checkers.get c) && off (s.checkers.get c).lane
  | .surveyDone, .none => decide (s.survey.state = .running) && off s.survey.lane
  | _, _ => false

/-- The kinds and subjects of those notices. -/
def offKeys : List (NoticeKind × Subject) :=
  (.timingChange, .none) :: (.surveyDone, .none) :: (List.finRange 4).map fun c => (.checkDone, .checker c)

theorem offNotices_mem {off : LaneId → Bool} {s : State} {k : NoticeKind} {x : Subject} (h : offNotices off s k x = true) :
    (k, x) ∈ offKeys := by
  unfold offNotices at h
  split at h
  · simp [offKeys]
  · simp [offKeys]
  · simp [offKeys]
  · cases h

/-- What has changed from `s` to `t` once the lanes in `off` have gone off and those in `on` have been enabled. -/
structure SwitchedBy (off on : LaneId → Bool) (s t : State) : Prop where
  lanes : ∀ l, t.lanes.get l =
    if off l then { s.lanes.get l with align := .off, confirmed := 0, missed := 0, assembly := none }
    else if on l ∧ (s.lanes.get l).align = .off then { s.lanes.get l with align := .seek }
    else s.lanes.get l
  stores : ∀ l, t.stores.get l =
    if off l then { s.stores.get l with state := .idle, records := [] }
    else if t.timing.source = some (.lane l) ∧ s.timing.source ≠ some (.lane l) then afterRecentre (s.stores.get l)
    else s.stores.get l
  quals : ∀ l, t.timing.laneQual.get l = if off l then ⟨false, 0⟩ else s.timing.laneQual.get l
  timing : t.timing =
    { s.timing with
      laneQual := t.timing.laneQual
      state := if sourceOff off s.timing then (choiceAtLoss t.timing s.params).1 else s.timing.state
      source := if sourceOff off s.timing then (choiceAtLoss t.timing s.params).2 else s.timing.source }
  change : sourceOff off s.timing = true →
    Raised 5 .timingChange .none [timingOctet t.timing.state, sourceOctet t.timing.source] s t
  checkers : ∀ c, t.checkers.get c =
    if inProgress (s.checkers.get c) ∧ off (s.checkers.get c).lane then
      { s.checkers.get c with state := .done, result := some .laneLost, round := none }
    else s.checkers.get c
  ended : ∀ c, inProgress (s.checkers.get c) → off (s.checkers.get c).lane = true →
    Raised 5 .checkDone (.checker c) (checkDoneOctets 0x05#8 (s.checkers.get c)) s t
  survey : t.survey =
    if s.survey.state = .running ∧ off s.survey.lane then { s.survey with state := .aborted } else s.survey
  aborted : s.survey.state = .running → off s.survey.lane = true →
    Raised 5 .surveyDone .none
      [BitVec.ofNat 8 s.survey.lane.val, 0x02#8, octetAt s.survey.observed 1, octetAt s.survey.observed 0] s t
  notices : ∃ n, Part (offNotices off s) n s t

variable {off on : LaneId → Bool} {s u : State} {l : LaneId}

/-- A lane with the others. -/
def addLane (l : LaneId) (off : LaneId → Bool) (k : LaneId) : Bool := decide (k = l) || off k

theorem addLane_self (l : LaneId) (off : LaneId → Bool) : addLane l off l = true := by simp [addLane]

theorem addLane_ne {k : LaneId} (hk : k ≠ l) (off : LaneId → Bool) : addLane l off k = off k := by simp [addLane, hk]

theorem sourceOff_addLane (l : LaneId) (off : LaneId → Bool) (tm : Timing) :
    sourceOff (addLane l off) tm = (decide (tm.source = some (.lane l)) || sourceOff off tm) := by
  unfold sourceOff addLane
  split
  · next k h => simp [h]
  · next h =>
    have hne : tm.source ≠ some (.lane l) := fun heq => h l heq
    simp [hne]

theorem offNotices_addLane {k : NoticeKind} {x : Subject} (h : offNotices off s k x = true) :
    offNotices (addLane l off) s k x = true := by
  unfold offNotices at h ⊢
  split at h
  · simp [sourceOff_addLane, h]
  · simp only [Bool.and_eq_true] at h ⊢
    exact ⟨h.1, by simp [addLane, h.2]⟩
  · simp only [Bool.and_eq_true] at h ⊢
    exact ⟨h.1, by simp [addLane, h.2]⟩
  · cases h

/-- The record of a lane that is not chosen can go without changing the choice. -/
theorem choiceAtLoss_clear {t u : Timing} {p : Params} (hne : (choiceAtLoss t p).2 ≠ some (.lane l))
    (hlane : u.laneQual = t.laneQual.set l ⟨false, 0⟩) (hrefin : u.refinQual = t.refinQual) :
    choiceAtLoss u p = choiceAtLoss t p := by
  have hqualified : ∀ src, src ≠ some (.lane l) → qualified u src = qualified t src := by
    intro src hsrc
    cases src with
    | none => rfl
    | some src =>
      cases src with
      | refin => simp [qualified, hrefin]
      | lane k =>
        have hk : k ≠ l := fun hk => hsrc (by rw [hk])
        simp [qualified, hlane, Tab.get_set_ne _ _ hk]
  have hcleared : qualified u (some (.lane l)) = false := by simp [qualified, hlane]
  have hkeeps : ∀ src, qualified t src = true → src ≠ some (.lane l) → qualified u src = true := fun src h hsrc =>
    (hqualified src hsrc).trans h
  have hdrops : ∀ src, ¬ qualified t src = true → ¬ qualified u src = true := by
    intro src h
    by_cases hsrc : src = some (.lane l)
    · rw [hsrc, hcleared]
      simp
    · rwa [hqualified src hsrc]
  unfold choiceAtLoss at hne ⊢
  by_cases hp : qualified t (primarySource p) = true
  · rw [if_pos hp] at hne ⊢
    rw [if_pos (hkeeps _ hp hne)]
  · rw [if_neg hp] at hne ⊢
    rw [if_neg (hdrops _ hp)]
    by_cases hs : qualified t (secondarySource p) = true
    · rw [if_pos hs] at hne ⊢
      rw [if_pos (hkeeps _ hs hne)]
    · rw [if_neg hs, if_neg (hdrops _ hs)]

/-! ### A lane that goes off -/

/-- The part with the receiver of a lane disabled, nothing else having followed. -/
def laneOff (l : LaneId) (u : State) : State := setLane l (disabledLane (u.lanes.get l)) u

theorem disableLane_eq (l : LaneId) (u : State) : disableLane l u = abortSurvey l (laneGone l (laneOff l u)) := rfl

theorem around_disable (l : LaneId) (u : State) :
    Around 0 (surveysLane l u) l (only false .timingChange .none) u (laneOff l u) (disableLane l u) :=
  { around_resetSeek l (laneOff l u) with
    pre := .of_eq rfl rfl rfl, stores := rfl, timing := rfl, checkers := rfl, params := rfl }

/-- The notices of a lane that goes off, behind those before it. -/
theorem disable_part (l : LaneId) (u : State) :
    ∃ n, Part (leavesNotices (surveysLane l u) l u) n u (disableLane l u) :=
  ⟨_, (around_disable l u).part.mono (fun k x h => by simpa [only] using h) (le_refl _)⟩

theorem SwitchedBy.params (h : SwitchedBy off on s u) : u.params.noticeMask = s.params.noticeMask := by
  obtain ⟨n, h⟩ := h.notices
  exact h.mask

/-- The source of a state on the way: that of the first, or one chosen in its place. -/
theorem SwitchedBy.source_off (h : SwitchedBy off on s u) (hsource : u.timing.source = some (.lane l)) :
    sourceOff (addLane l off) s.timing = true := by
  rw [sourceOff_addLane]
  cases hoff : sourceOff off s.timing with
  | true => simp
  | false =>
    have htiming := congrArg Timing.source h.timing
    simp only [hoff, Bool.false_eq_true, if_false] at htiming
    simp [← htiming, hsource]

/-- A run in progress on the way was in progress at first, and its lane has not gone. -/
theorem SwitchedBy.running (h : SwitchedBy off on s u) {c : CheckerId} (hruns : inProgress (u.checkers.get c) = true) :
    u.checkers.get c = s.checkers.get c ∧ off (s.checkers.get c).lane = false := by
  have hc := h.checkers c
  split at hc
  · rw [hc] at hruns
    simp [inProgress] at hruns
  · next hstays =>
    refine ⟨hc, ?_⟩
    rw [hc] at hruns
    simpa [hruns] using hstays

theorem SwitchedBy.surveying (h : SwitchedBy off on s u) (hruns : u.survey.state = .running) :
    u.survey = s.survey ∧ off s.survey.lane = false := by
  have hv := h.survey
  split at hv
  · rw [hv] at hruns
    simp at hruns
  · next hstays =>
    refine ⟨hv, ?_⟩
    rw [hv] at hruns
    simpa [hruns] using hstays

theorem leaves_offNotices (h : SwitchedBy off on s u) {k : NoticeKind} {x : Subject}
    (hk : leavesNotices (surveysLane l u) l u k x = true) : offNotices (addLane l off) s k x = true := by
  unfold leavesNotices at hk
  split at hk
  · exact h.source_off (of_decide_eq_true hk)
  · next c =>
    obtain ⟨hruns, hlane⟩ := Bool.and_eq_true_iff.1 hk
    obtain ⟨hsame, -⟩ := h.running hruns
    rw [hsame] at hruns hlane
    simp only [decide_eq_true_eq] at hlane
    simp [offNotices, hruns, hlane, addLane]
  · obtain ⟨hruns, hlane⟩ := of_decide_eq_true hk
    obtain ⟨hsame, -⟩ := h.surveying hruns
    rw [hsame] at hruns hlane
    simp [offNotices, hruns, hlane, addLane]
  · cases hk

/-- A notice of a lane that goes off, raised in `v` after those of the lanes before it. -/
theorem SwitchedBy.raised (h : SwitchedBy off on s u) {may may' : NoticeKind → Subject → Bool} {n p : Nat} {v t : State}
    (pre : Part may n u v) (hmay : ∀ k x, may k x = true → leavesNotices (surveysLane l u) l u k x = true)
    {kind : NoticeKind} {subject : Subject} {data : List Octet} (post : Part may' p (raise kind subject data v) t)
    (hnot : may' kind subject = false) (hkey : (kind, subject) ∈ offKeys) : Raised 5 kind subject data s t := by
  obtain ⟨m, hpart⟩ := h.notices
  exact raised_among (hpart.trans pre) post hnot offKeys
    (fun k x hk => offNotices_mem (off := addLane l off) (s := s) (by
      simp only [either, Bool.or_eq_true] at hk
      exact hk.elim offNotices_addLane fun hk => leaves_offNotices h (hmay k x hk))) hkey

/-- The notices behind the disqualification. -/
theorem disable_post (l : LaneId) (u : State) :
    Part (fun k x => checksDone l u k x || only (surveysLane l u) .surveyDone .none k x) (4 + 1)
      (storeGone l (laneOff l u)) (disableLane l u) := by
  have hruns : runsOn l (storeGone l (laneOff l u)) = runsOn l u := storeGone_runsOn l (laneOff l u)
  have hchecks := loseCheckers_part l (storeGone l (laneOff l u))
  have habort := (around_disable l u).post
  rw [← laneGone_eq] at hchecks
  refine (hchecks.trans habort).mono (fun k x hk => ?_) ?_
  · simpa only [either, checksDone, hruns] using hk
  · have hcount := List.countP_le_length (p := runsOn l (storeGone l (laneOff l u))) (l := List.finRange 4)
    have habort : (surveysLane l u).toNat ≤ 1 := Bool.toNat_le _
    simp only [List.length_finRange] at hcount
    omega

theorem disable_change (h : SwitchedBy off on s u) (hsource : u.timing.source = some (.lane l)) :
    Raised 5 .timingChange .none
      [timingOctet (disableLane l u).timing.state, sourceOctet (disableLane l u).timing.source] s (disableLane l u) := by
  have htiming : (disableLane l u).timing = (storeGone l (laneOff l u)).timing := by
    rw [disableLane_eq, storeGone, ← laneGone_timing_disqualified]
    simp
  have hpost := disable_post l u
  rw [htiming]
  have hgone : storeGone l (laneOff l u) =
      moveTiming (chosenAtLoss (unqualified l (idleStore l (laneOff l u))).timing (laneOff l u).params)
        (unqualified l (idleStore l (laneOff l u))) := disqualifyLane_of_source (s := idleStore l (laneOff l u)) hsource
  have hmoves := moves_of_loss (s := idleStore l (laneOff l u)) hsource
  generalize hc : chosenAtLoss (unqualified l (idleStore l (laneOff l u))).timing (laneOff l u).params = c at hgone
  have hmoves : moves c (unqualified l (idleStore l (laneOff l u))) = true := hc ▸ hmoves
  rw [hgone] at hpost ⊢
  rw [moveTiming_timing]
  rw [moveTiming_of_moves hmoves] at hpost
  have hrecentre : Part (only false .timingChange .none) 0
      (raise .timingChange .none (timingData c) (retimed c (unqualified l (idleStore l (laneOff l u)))))
      (recentreEntered (unqualified l (idleStore l (laneOff l u))).timing.source c.2
        (raise .timingChange .none (timingData c) (retimed c (unqualified l (idleStore l (laneOff l u)))))) :=
    .of_eq (by simp) (by simp) (by simp)
  have hpre : Part (only false .timingChange .none) 0 u (retimed c (unqualified l (idleStore l (laneOff l u)))) :=
    .of_eq rfl rfl rfl
  exact h.raised (l := l) hpre (fun k x hk => by simp [only] at hk) (hrecentre.trans hpost)
    (by simp [either, only, checksDone, eachOf]) (by simp [offKeys])

theorem disable_ended (h : SwitchedBy off on s u) {c : CheckerId} (hruns : runsOn l u c = true) :
    Raised 5 .checkDone (.checker c) (checkDoneOctets 0x05#8 (u.checkers.get c)) s (disableLane l u) := by
  have hsame : runsOn l (storeGone l (laneOff l u)) = runsOn l u := storeGone_runsOn l (laneOff l u)
  have hcheckers : (storeGone l (laneOff l u)).checkers = u.checkers := storeGone_checkers l (laneOff l u)
  have hstore : Part (only (isSource l u) .timingChange .none) (isSource l u).toNat u (storeGone l (laneOff l u)) :=
    (disqualifyLane_part l (idleStore l (laneOff l u))).congr rfl rfl rfl rfl rfl rfl
  have habort := (around_disable l u).post
  rw [laneGone_eq, loseCheckers_eq, hsame, hcheckers] at habort
  obtain ⟨pre, post, hlist⟩ := List.append_of_mem (List.mem_finRange c)
  have hc : c ∉ post := by
    have hnodup := hlist ▸ List.nodup_finRange 4
    have := (List.nodup_append.1 hnodup).2.1
    exact (List.nodup_cons.1 this).1
  generalize hv : ({ storeGone l (laneOff l u) with checkers := endedOn l (List.finRange 4) (storeGone l (laneOff l u)) } : State) = v
    at habort
  rw [hlist, raiseEach_append, raiseEach_cons, if_pos hruns] at habort
  have hbefore : Part (only (isSource l u) .timingChange .none) (isSource l u).toNat u v :=
    hv ▸ hstore.congr rfl rfl rfl rfl rfl rfl
  have heach := Part.raiseEach (kind := .checkDone) (subject := .checker) (due := runsOn l u)
    (datas := fun c => checkDoneData .laneLost (u.checkers.get c)) (by decide)
  rw [← checkDoneData_laneLost]
  refine h.raised (l := l) (hbefore.trans (heach pre v)) (fun k x hk => ?_) ((heach post _).trans habort) ?_ ?_
  · simp only [either, Bool.or_eq_true, only_iff, eachOf, Bool.and_eq_true, decide_eq_true_eq, List.any_eq_true] at hk
    rcases hk with ⟨hsource, rfl, rfl⟩ | ⟨rfl, d, -, hd, rfl⟩
    · exact hsource
    · exact hd
  · simp only [either, only, eachOf, Bool.or_eq_false_iff]
    refine ⟨?_, by simp⟩
    simp only [decide_true, Bool.true_and, List.any_eq_false, Bool.and_eq_true, decide_eq_true_eq, not_and]
    intro d hd _ heq
    exact hc (Subject.checker.inj heq ▸ hd)
  · simp [offKeys]

theorem disable_aborted (h : SwitchedBy off on s u) (hsurvey : surveysLane l u = true) :
    Raised 5 .surveyDone .none
      [BitVec.ofNat 8 l.val, 0x02#8, octetAt u.survey.observed 1, octetAt u.survey.observed 0] s (disableLane l u) := by
  have hgone := (around_disable l u).gone
  have hsurveySame : (laneGone l (laneOff l u)).survey = u.survey := by simp [laneOff]
  have hsurveys : surveysLane l (laneGone l (laneOff l u)) = true := by
    rw [surveysLane_congr (s := u) (by rw [hsurveySame]) (by rw [hsurveySame])]
    exact hsurvey
  have hlane : u.survey.lane = l := (of_decide_eq_true hsurvey).2
  have hdata : surveyDoneData 0x02#8 (laneGone l (laneOff l u)).survey =
      [BitVec.ofNat 8 l.val, 0x02#8, octetAt u.survey.observed 1, octetAt u.survey.observed 0] := by
    rw [hsurveySame, surveyDoneData, hlane]
    rfl
  rw [disableLane_eq, abortSurvey_eq, if_pos hsurveys, hdata]
  generalize laneGone l (laneOff l u) = g at hgone
  have hpre : Part (leavesNotices false l u) (noticesLeaving false l u) u
      { g with survey := { g.survey with state := .aborted } } := hgone.congr rfl rfl rfl rfl rfl rfl
  have hnone : ∀ v : State, Part (only false .timingChange .none) 0 v v := fun v => .of_eq rfl rfl rfl
  refine h.raised (l := l) hpre (fun k x hk => ?_) (hnone _) rfl (by simp [offKeys])
  unfold leavesNotices at hk ⊢
  split at hk
  · exact hk
  · exact hk
  · cases hk
  · cases hk

end Sys2Proof.LaneSwitch
end

section
/-! SUPPORT. All lanes of one write of INGRESS_ENABLE (R16), lane by lane. -/

namespace Sys2Proof.LaneSwitched

open Sys2Proof.Machine Sys2Proof.Raising Sys2Proof.LaneGone Sys2Proof.LaneLoss Sys2Proof.CalmEvents Sys2Proof.LaneSwitch
  Sys2Proof.ItemRuns

variable {off on : LaneId → Bool} {s u : State} {l : LaneId}

theorem disableLane_timing (l : LaneId) (u : State) : (disableLane l u).timing = (laneGone l (laneOff l u)).timing := by
  rw [disableLane_eq]
  simp

/-- The choice at a loss, made from the records that stand behind it. -/
theorem disableLane_timing_eq (l : LaneId) (u : State) :
    (disableLane l u).timing =
      { u.timing with
        laneQual := u.timing.laneQual.set l ⟨false, 0⟩
        state := if u.timing.source = some (.lane l) then (choiceAtLoss (disableLane l u).timing u.params).1
          else u.timing.state
        source := if u.timing.source = some (.lane l) then (choiceAtLoss (disableLane l u).timing u.params).2
          else u.timing.source } := by
  rw [disableLane_timing]
  exact laneGone_timing l (laneOff l u)

theorem disableLane_stores (l : LaneId) (u : State) (k : LaneId) :
    (disableLane l u).stores.get k =
      if k = l then idled (u.stores.get k)
      else if u.timing.source = some (.lane l) ∧ (disableLane l u).timing.source = some (.lane k) then
        afterRecentre (u.stores.get k)
      else u.stores.get k := by
  have hstores : (disableLane l u).stores = (laneGone l (laneOff l u)).stores := by
    rw [disableLane_eq]
    simp
  rw [hstores, disableLane_timing]
  exact laneGone_stores l (laneOff l u) k

theorem disableLane_checkers (l : LaneId) (u : State) (c : CheckerId) :
    (disableLane l u).checkers.get c =
      if runsOn l u c then endedChecker .laneLost (u.checkers.get c) else u.checkers.get c := by
  have hcheckers : (disableLane l u).checkers = (laneGone l (laneOff l u)).checkers := by
    rw [disableLane_eq]
    simp
  rw [hcheckers]
  exact laneGone_checkers l (laneOff l u) c

theorem disableLane_survey (l : LaneId) (u : State) : (disableLane l u).survey = surveyAfter (surveysLane l u) u.survey := by
  have hsame : (laneGone l (laneOff l u)).survey = u.survey := by simp [laneOff]
  rw [disableLane_eq, abortSurvey_survey, hsame, surveysLane_congr (s := u) (by rw [hsame]) (by rw [hsame])]

theorem disableLane_lanes (l : LaneId) (u : State) :
    (disableLane l u).lanes = u.lanes.set l (disabledLane (u.lanes.get l)) := by
  rw [disableLane_eq]
  simp [laneOff]

theorem disableLane_source_ne (l : LaneId) (u : State) : (disableLane l u).timing.source ≠ some (.lane l) := by
  rw [disableLane_timing]
  exact laneGone_source_ne l _

/-- A lane chosen at a loss is qualified. -/
theorem choice_qualified {t : Timing} {p : Params} {k : LaneId} (h : (choiceAtLoss t p).2 = some (.lane k)) :
    (t.laneQual.get k).qualified = true := by
  obtain ⟨-, hnone⟩ | ⟨-, -, hq⟩ := chosenAtLoss_legal t p
  · rw [← chosenAtLoss_eq, hnone] at h
    cases h
  · rw [chosenAtLoss_eq, h] at hq
    exact hq

/-- All of the timing but state, source and the lanes' records. -/
def watchOf (t : Timing) : Qualification × Nat × Window × Bool × TimerOrigin × Num × Num :=
  (t.refinQual, t.missRun, t.window, t.pulseHeld, t.timer, t.number, t.steps)

theorem timing_of_watch {t s : Timing} {st : TimingState} {src : Option Source} (hwatch : watchOf t = watchOf s)
    (hstate : t.state = st) (hsource : t.source = src) :
    t = { s with laneQual := t.laneQual, state := st, source := src } := by
  cases t
  cases s
  simp only [watchOf, Prod.mk.injEq] at hwatch
  simp_all

section Disable

variable (h : SwitchedBy off on s u) (hoff : off l = false) (hon : on l = false) (hparams : u.params = s.params)
include h

/-- The source of `u` is that of `s` unless that has gone. -/
theorem source_stands (hsource : sourceOff off s.timing = false) :
    u.timing.source = s.timing.source ∧ u.timing.state = s.timing.state := by
  have hs := congrArg Timing.source h.timing
  have hst := congrArg Timing.state h.timing
  simp only [hsource, Bool.false_eq_true, if_false] at hs hst
  exact ⟨hs, hst⟩

theorem disable_quals (k : LaneId) : (disableLane l u).timing.laneQual.get k =
    if addLane l off k then ⟨false, 0⟩ else s.timing.laneQual.get k := by
  have hquals : (disableLane l u).timing.laneQual = u.timing.laneQual.set l ⟨false, 0⟩ := by
    rw [disableLane_timing_eq]
  rw [hquals, Tab.get_set]
  by_cases hk : k = l
  · subst hk
    simp [addLane_self]
  · rw [if_neg hk, addLane_ne hk, h.quals]

include hparams in
theorem disable_timing : (disableLane l u).timing =
    { s.timing with
      laneQual := (disableLane l u).timing.laneQual
      state := if sourceOff (addLane l off) s.timing then (choiceAtLoss (disableLane l u).timing s.params).1
        else s.timing.state
      source := if sourceOff (addLane l off) s.timing then (choiceAtLoss (disableLane l u).timing s.params).2
        else s.timing.source } := by
  have heq := disableLane_timing_eq l u
  rw [hparams] at heq
  have hquals := congrArg Timing.laneQual heq
  have hrefin := congrArg Timing.refinQual heq
  have hstate := congrArg Timing.state heq
  have hsrc := congrArg Timing.source heq
  have hwatch : watchOf (disableLane l u).timing = watchOf s.timing := by
    have hu : watchOf u.timing = watchOf s.timing := by rw [h.timing]; rfl
    rw [← hu, heq]
    rfl
  generalize disableLane l u = t at *
  by_cases hsource : u.timing.source = some (.lane l)
  · rw [h.source_off hsource]
    simp only [if_pos hsource] at hstate hsrc
    exact timing_of_watch hwatch (by simpa using hstate) (by simpa using hsrc)
  · simp only [if_neg hsource] at hstate hsrc
    rw [sourceOff_addLane]
    cases hgone : sourceOff off s.timing with
    | false =>
      obtain ⟨hs, hst⟩ := source_stands h hgone
      have hne : s.timing.source ≠ some (.lane l) := hs ▸ hsource
      simp only [hne, decide_false, Bool.or_false, Bool.false_eq_true, if_false]
      exact timing_of_watch hwatch (hstate.trans hst) (hsrc.trans hs)
    | true =>
      have hs := congrArg Timing.source h.timing
      have hst := congrArg Timing.state h.timing
      simp only [hgone, if_true] at hs hst
      have hchoice : choiceAtLoss t.timing s.params = choiceAtLoss u.timing s.params :=
        choiceAtLoss_clear (l := l) (hs ▸ hsource) hquals hrefin
      simp only [Bool.or_true, if_true, hchoice]
      exact timing_of_watch hwatch (hstate.trans hst) (hsrc.trans hs)

theorem disable_stores (k : LaneId) : (disableLane l u).stores.get k =
    if addLane l off k then { s.stores.get k with state := .idle, records := [] }
    else if (disableLane l u).timing.source = some (.lane k) ∧ s.timing.source ≠ some (.lane k) then
      afterRecentre (s.stores.get k)
    else s.stores.get k := by
  have hu := h.stores k
  rw [disableLane_stores]
  by_cases hk : k = l
  · rw [if_pos hk, hk, addLane_self, if_pos rfl, ← hk, hu]
    simp only [idled]
    split
    · rfl
    · split
      · unfold afterRecentre
        split
        · rfl
        · split <;> rfl
      · rfl
  · rw [if_neg hk, addLane_ne hk]
    cases hgone : off k with
    | true =>
      have hnot : ¬ (u.timing.source = some (.lane l) ∧ (disableLane l u).timing.source = some (.lane k)) := by
        rintro ⟨hsource, hchosen⟩
        have htiming := congrArg Timing.source (disableLane_timing_eq l u)
        simp only [if_pos hsource, hchosen] at htiming
        have hqualified := choice_qualified htiming.symm
        rw [disable_quals h, addLane_ne hk, hgone] at hqualified
        simp at hqualified
      rw [if_neg hnot, if_pos rfl, hu, hgone, if_pos rfl]
    | false =>
      rw [hgone] at hu
      simp only [Bool.false_eq_true, if_false] at hu ⊢
      by_cases hsource : u.timing.source = some (.lane l)
      · have huk : u.timing.source ≠ some (.lane k) := by
          rw [hsource]
          exact fun heq => hk (by simpa using heq.symm)
        rw [if_neg fun h' => huk h'.1] at hu
        have hsk : s.timing.source ≠ some (.lane k) := by
          intro heq
          have hstays : sourceOff off s.timing = false := by
            unfold sourceOff
            rw [heq]
            exact hgone
          exact huk ((source_stands h hstays).1.trans heq)
        rw [hu]
        exact if_congr ⟨fun h' => ⟨h'.2, hsk⟩, fun h' => ⟨hsource, h'.1⟩⟩ rfl rfl
      · have htiming := congrArg Timing.source (disableLane_timing_eq l u)
        simp only [if_neg hsource] at htiming
        rw [if_neg fun h' => hsource h'.1, htiming]
        exact hu

include hoff hon hparams in
/-- One lane more has gone off. -/
theorem switchedBy_disable : SwitchedBy (addLane l off) on s (disableLane l u) := by
  obtain ⟨n, hnotices⟩ := h.notices
  obtain ⟨p, hpart⟩ := disable_part l u
  have hnone : Part (only false .timingChange .none) 0 s s := .of_eq rfl rfl rfl
  have hlater : ∀ {k : NoticeKind} {x : Subject} {d : List Octet}, Raised 5 k x d s u →
      leavesNotices (surveysLane l u) l u k x = false → Raised 5 k x d s (disableLane l u) := fun hr hnot =>
    raised_mono (raised_within hnone hr hpart hnot) (by omega)
  constructor
  case lanes =>
    intro k
    rw [disableLane_lanes, Tab.get_set]
    by_cases hk : k = l
    · subst hk
      have hlane := h.lanes k
      rw [hoff, hon] at hlane
      simp only [Bool.false_eq_true, if_false, false_and] at hlane
      rw [if_pos rfl, addLane_self, if_pos rfl, hlane]
      rfl
    · rw [if_neg hk, addLane_ne hk]
      exact h.lanes k
  case stores => exact disable_stores h
  case quals => exact disable_quals h
  case timing => exact disable_timing h hparams
  case change =>
    intro hgone
    by_cases hsource : u.timing.source = some (.lane l)
    · exact disable_change h hsource
    · have hgone : sourceOff off s.timing = true := by
        rw [sourceOff_addLane] at hgone
        cases hoffs : sourceOff off s.timing with
        | true => rfl
        | false =>
          obtain ⟨hs, -⟩ := source_stands h hoffs
          rw [hoffs, Bool.or_false, decide_eq_true_eq] at hgone
          exact absurd (hs.trans hgone) hsource
      have hstate := congrArg Timing.state (disableLane_timing_eq l u)
      have hsrc := congrArg Timing.source (disableLane_timing_eq l u)
      simp only [if_neg hsource] at hstate hsrc
      rw [hstate, hsrc]
      exact hlater (h.change hgone) (by simp [leavesNotices, hsource])
  case checkers =>
    intro c
    rw [disableLane_checkers]
    by_cases hruns : runsOn l u c = true
    · obtain ⟨hin, hlane⟩ := Bool.and_eq_true_iff.1 hruns
      obtain ⟨hsame, -⟩ := h.running hin
      rw [hsame] at hin hlane
      have hlane : (s.checkers.get c).lane = l := of_decide_eq_true hlane
      rw [if_pos hruns, hsame, if_pos ⟨hin, by rw [hlane, addLane_self]⟩]
      rfl
    · rw [if_neg hruns, h.checkers]
      by_cases hin : inProgress (s.checkers.get c) = true ∧ off (s.checkers.get c).lane = true
      · rw [if_pos hin, if_pos ⟨hin.1, by simp [addLane, hin.2]⟩]
      · rw [if_neg hin]
        have hc := h.checkers c
        rw [if_neg hin] at hc
        refine (if_neg fun hin' => hin ⟨hin'.1, ?_⟩).symm
        rw [runsOn, hc, hin'.1] at hruns
        simp only [Bool.true_and, decide_eq_true_eq] at hruns
        have hin'' := hin'.2
        rwa [addLane_ne hruns] at hin''
  case ended =>
    intro c hin hlane
    by_cases hruns : runsOn l u c = true
    · obtain ⟨hsame, -⟩ := h.running (Bool.and_eq_true_iff.1 hruns).1
      rw [← hsame]
      exact disable_ended h hruns
    · refine hlater (h.ended c hin ?_) (by simpa [leavesNotices] using hruns)
      by_contra hstays
      have hc := h.checkers c
      rw [if_neg fun h' => hstays h'.2] at hc
      rw [runsOn, hc, hin] at hruns
      simp only [Bool.true_and, decide_eq_true_eq] at hruns
      exact hstays (by rwa [addLane_ne hruns] at hlane)
  case survey =>
    rw [disableLane_survey]
    by_cases hruns : surveysLane l u = true
    · obtain ⟨hin, hlane⟩ := of_decide_eq_true hruns
      obtain ⟨hsame, -⟩ := h.surveying hin
      rw [hsame] at hin hlane
      rw [hruns, hsame, surveyAfter, if_pos rfl, if_pos ⟨hin, by rw [hlane, addLane_self]⟩]
    · rw [surveyAfter, if_neg hruns, h.survey]
      by_cases hin : s.survey.state = .running ∧ off s.survey.lane = true
      · rw [if_pos hin, if_pos ⟨hin.1, by simp [addLane, hin.2]⟩]
      · rw [if_neg hin]
        have hv := h.survey
        rw [if_neg hin] at hv
        refine (if_neg fun hin' => hin ⟨hin'.1, ?_⟩).symm
        rw [surveysLane, hv, decide_eq_true_eq] at hruns
        have hne : s.survey.lane ≠ l := fun heq => hruns ⟨hin'.1, heq⟩
        have hin'' := hin'.2
        rwa [addLane_ne hne] at hin''
  case aborted =>
    intro hin hlane
    by_cases hruns : surveysLane l u = true
    · obtain ⟨hrun, hl⟩ := of_decide_eq_true hruns
      obtain ⟨hsame, -⟩ := h.surveying hrun
      rw [← hsame, hl]
      exact disable_aborted h hruns
    · refine hlater (h.aborted hin ?_) (by simpa [leavesNotices] using hruns)
      by_contra hstays
      have hv := h.survey
      rw [if_neg fun h' => hstays h'.2] at hv
      rw [surveysLane, hv, decide_eq_true_eq] at hruns
      have hne : s.survey.lane ≠ l := fun heq => hruns ⟨hin, heq⟩
      exact hstays (by rwa [addLane_ne hne] at hlane)
  case notices =>
    refine ⟨_, (hnotices.trans hpart).mono (fun k x hk => ?_) (le_refl _)⟩
    simp only [either, Bool.or_eq_true] at hk
    exact hk.elim offNotices_addLane (leaves_offNotices h)

end Disable

theorem addLane_on_ne {k : LaneId} (hk : k ≠ l) (on : LaneId → Bool) : addLane l on k = on k := addLane_ne hk on

/-- One lane more has been enabled. -/
theorem switchedBy_enable (h : SwitchedBy off on s u) (hoff : off l = false) (hon : on l = false) :
    SwitchedBy off (addLane l on) s (enableLane l u) := by
  have hlane := h.lanes l
  rw [hoff, hon] at hlane
  simp only [Bool.false_eq_true, if_false, false_and] at hlane
  have hlanes : ∀ k, (enableLane l u).lanes.get k =
      if k = l ∧ (u.lanes.get l).align = .off then { u.lanes.get k with align := .seek } else u.lanes.get k := by
    intro k
    unfold enableLane
    by_cases halign : (u.lanes.get l).align = .off
    · rw [if_pos halign, setLane_lanes, Tab.get_set]
      by_cases hk : k = l <;> simp [hk, halign]
    · simp [halign]
  have hrest : enableLane l u = { u with lanes := (enableLane l u).lanes } := by
    unfold enableLane
    split <;> rfl
  have heq : ∀ k, (enableLane l u).lanes.get k =
      if off k then { s.lanes.get k with align := .off, confirmed := 0, missed := 0, assembly := none }
      else if addLane l on k ∧ (s.lanes.get k).align = .off then { s.lanes.get k with align := .seek }
      else s.lanes.get k := by
    intro k
    rw [hlanes]
    by_cases hk : k = l
    · subst hk
      rw [hlane, hoff]
      simp [addLane_self]
    · rw [if_neg fun h' => hk h'.1, h.lanes, addLane_ne hk]
  obtain ⟨n, hnotices⟩ := h.notices
  generalize (enableLane l u).lanes = ls at hrest heq
  rw [hrest]
  exact { h with lanes := heq, notices := ⟨n, hnotices.congr rfl rfl rfl rfl rfl rfl⟩ }

/-! ### The lanes of one write -/

/-- Nothing has been switched yet. -/
theorem switchedBy_none (s : State) : SwitchedBy (fun _ => false) (fun _ => false) s s := by
  have hsource : sourceOff (fun _ => false) s.timing = false := by
    unfold sourceOff
    split <;> rfl
  constructor
  case stores =>
    intro l
    rw [if_neg (by simp), if_neg fun h => h.2 h.1]
  case ended => exact fun c _ h => by cases h
  case aborted => exact fun _ h => by cases h
  case notices => exact ⟨0, .of_eq rfl rfl rfl⟩
  all_goals simp [hsource]

variable {before after : Num}

/-- The lanes of `done` that go off, those already off in `off` counted. -/
def offAmong (before after : Num) (done : List LaneId) (k : LaneId) : Bool :=
  decide (k ∈ done) && turnsOff before after k

/-- The lanes of `done` that are enabled. -/
def onAmong (before after : Num) (done : List LaneId) (k : LaneId) : Bool :=
  decide (k ∈ done) && turnsOn before after k

theorem turnsOff_iff (l : LaneId) :
    turnsOff before after l = true ↔ inMask before l = true ∧ inMask after l = false := by
  simp [turnsOff, inMask]

theorem turnsOn_iff (l : LaneId) :
    turnsOn before after l = true ↔ inMask before l = false ∧ inMask after l = true := by
  simp [turnsOn, inMask]

theorem among_cons {f : LaneId → Bool} {done : List LaneId} (hf : f l = true) :
    (fun k => decide (k ∈ done ++ [l]) && f k) = addLane l fun k => decide (k ∈ done) && f k := by
  funext k
  by_cases hk : k = l
  · subst hk
    simp [addLane, hf]
  · simp [addLane, hk]

theorem among_same {f : LaneId → Bool} {done : List LaneId} (hf : f l = false) :
    (fun k => decide (k ∈ done ++ [l]) && f k) = fun k => decide (k ∈ done) && f k := by
  funext k
  by_cases hk : k = l
  · subst hk
    simp [hf]
  · simp [hk]

/-- One lane more of the write has been taken. -/
theorem switchedBy_switchLane {done : List LaneId} (hl : l ∉ done) (hparams : u.params = s.params)
    (h : SwitchedBy (offAmong before after done) (onAmong before after done) s u) :
    SwitchedBy (offAmong before after (done ++ [l])) (onAmong before after (done ++ [l])) s (switchLane before after u l) := by
  have hoff : offAmong before after done l = false := by simp [offAmong, hl]
  have hon : onAmong before after done l = false := by simp [onAmong, hl]
  unfold switchLane
  split
  · next hb ha =>
    have hturns : turnsOff before after l = true := (turnsOff_iff l).2 ⟨hb, ha⟩
    have hstays : turnsOn before after l = false := by
      rw [turnsOn, show before.getLsbD l.val = true from hb]
      rfl
    have hoffs : offAmong before after (done ++ [l]) = addLane l (offAmong before after done) := among_cons hturns
    have hons : onAmong before after (done ++ [l]) = onAmong before after done := among_same hstays
    rw [hoffs, hons]
    exact switchedBy_disable h hoff hon hparams
  · next hb ha =>
    have hturns : turnsOn before after l = true := (turnsOn_iff l).2 ⟨hb, ha⟩
    have hstays : turnsOff before after l = false := by
      rw [turnsOff, show before.getLsbD l.val = false from hb]
      rfl
    have hoffs : offAmong before after (done ++ [l]) = offAmong before after done := among_same hstays
    have hons : onAmong before after (done ++ [l]) = addLane l (onAmong before after done) := among_cons hturns
    rw [hoffs, hons]
    exact switchedBy_enable h hoff hon
  · next hnotOff hnotOn =>
    have hstaysOff : turnsOff before after l = false := by
      by_contra hc
      obtain ⟨hb, ha⟩ := (turnsOff_iff l).1 (by simpa using hc)
      exact hnotOff hb ha
    have hstaysOn : turnsOn before after l = false := by
      by_contra hc
      obtain ⟨hb, ha⟩ := (turnsOn_iff l).1 (by simpa using hc)
      exact hnotOn hb ha
    have hoffs : offAmong before after (done ++ [l]) = offAmong before after done := among_same hstaysOff
    have hons : onAmong before after (done ++ [l]) = onAmong before after done := among_same hstaysOn
    rwa [hoffs, hons]

theorem switchedBy_switchLanes (ls : List LaneId) : ∀ (done : List LaneId) (u : State), (done ++ ls).Nodup →
    u.params = s.params → SwitchedBy (offAmong before after done) (onAmong before after done) s u →
    SwitchedBy (offAmong before after (done ++ ls)) (onAmong before after (done ++ ls)) s
      (ls.foldl (switchLane before after) u) := by
  induction ls with
  | nil => exact fun done u _ _ h => by simpa using h
  | cons l ls ih =>
    intro done u hnodup hparams h
    have hl : l ∉ done := by
      have := (List.nodup_append.1 hnodup).2.2
      exact fun hmem => this l hmem l (by simp) rfl
    have hsplit : done ++ l :: ls = (done ++ [l]) ++ ls := by simp
    rw [hsplit] at hnodup ⊢
    exact ih (done ++ [l]) _ hnodup (by simpa using hparams) (switchedBy_switchLane hl hparams h)

theorem switchedBy_writeIngressEnable (v : Num) (s : State) :
    SwitchedBy (turnsOff s.params.ingressEnable v) (turnsOn s.params.ingressEnable v)
      { s with params := { s.params with ingressEnable := v } } (writeIngressEnable v s) := by
  have hoff : offAmong s.params.ingressEnable v [] = fun _ => false := by
    funext k
    simp [offAmong]
  have hon : onAmong s.params.ingressEnable v [] = fun _ => false := by
    funext k
    simp [onAmong]
  have h := switchedBy_switchLanes (s := { s with params := { s.params with ingressEnable := v } })
    (before := s.params.ingressEnable) (after := v) (List.finRange 16) []
    { s with params := { s.params with ingressEnable := v } } (List.nodup_finRange 16) rfl
    (by rw [hoff, hon]; exact switchedBy_none _)
  have hoffAll : offAmong s.params.ingressEnable v ([] ++ List.finRange 16) = turnsOff s.params.ingressEnable v := by
    funext k
    simp [offAmong]
  have honAll : onAmong s.params.ingressEnable v ([] ++ List.finRange 16) = turnsOn s.params.ingressEnable v := by
    funext k
    simp [onAmong]
  rw [hoffAll, honAll] at h
  exact h

/-- `SwitchedBy` for the lanes that a write turns off and on. -/
theorem lanesSwitched_of_switchedBy {v : Num} {s b t : State}
    (h : SwitchedBy (turnsOff s.params.ingressEnable v) (turnsOn s.params.ingressEnable v) b t) (hlanes : b.lanes = s.lanes)
    (hstores : b.stores = s.stores) (htiming : b.timing = s.timing) (hcheckers : b.checkers = s.checkers)
    (hsurvey : b.survey = s.survey) (hnotices : b.notices = s.notices) (hmask : b.params.noticeMask = s.params.noticeMask)
    (hchoice : choiceAtLoss t.timing b.params = choiceAtLoss t.timing s.params) : LanesSwitched v s t := by
  have hsource : sourceOff (turnsOff s.params.ingressEnable v) s.timing = sourceTurnsOff s.params.ingressEnable v s.timing :=
    rfl
  obtain ⟨n, hpart⟩ := h.notices
  constructor
  case lanes =>
    intro l
    rw [h.lanes, hlanes]
  case stores =>
    intro l
    rw [h.stores, hstores, htiming]
  case quals =>
    intro l
    rw [h.quals, htiming]
  case timing =>
    have heq := h.timing
    rwa [htiming, hchoice, hsource] at heq
  case change =>
    intro hs
    exact raised_congr (h.change (by rw [htiming]; exact hs)) hnotices.symm hmask.symm
  case checkers =>
    intro c
    rw [h.checkers, hcheckers]
  case ended =>
    intro c hin hoff
    have hr := h.ended c (by rw [hcheckers]; exact hin) (by rw [hcheckers]; exact hoff)
    rw [hcheckers] at hr
    exact raised_congr hr hnotices.symm hmask.symm
  case survey => rw [h.survey, hsurvey]
  case aborted =>
    intro hin hoff
    have hr := h.aborted (by rw [hsurvey]; exact hin) (by rw [hsurvey]; exact hoff)
    rw [hsurvey] at hr
    exact raised_congr hr hnotices.symm hmask.symm
  case notices =>
    have hkept := (hpart.congr (b' := s) (t' := t) hnotices.symm hmask.symm (by rw [htiming]) rfl rfl rfl).kept
    refine hkept.mono fun k x hk => ?_
    unfold offNotices at hk
    rw [htiming, hcheckers, hsurvey] at hk
    exact hk

theorem lanesSwitched_writeIngressEnable (v : Num) (s : State) : LanesSwitched v s (writeIngressEnable v s) :=
  lanesSwitched_of_switchedBy (switchedBy_writeIngressEnable v s) rfl rfl rfl rfl rfl rfl rfl rfl

/-- Settles O45. -/
theorem ingressEnableActsOnEveryChangedLane : Obligations.IngressEnableActsOnEveryChangedLane := by
  unfold Obligations.IngressEnableActsOnEveryChangedLane
  rintro group serial hi lo v s r rfl rfl
  rw [judgeItem_paramWrite]
  have hwrite : itemParamWrite group serial [9#8, hi, lo] s =
      settled (if inMask (hi ++ lo) s.channel.mgmtIngress then (.done, writeIngressEnable (hi ++ lo) s) else (.notAllowed, s)) := by
    cases group <;> rfl
  rw [hwrite]
  constructor
  · intro hbit
    rw [if_neg (by simp only [inMask, hbit]; simp)]
    rfl
  · intro hbit
    rw [if_pos (show inMask (hi ++ lo) s.channel.mgmtIngress = true from hbit)]
    refine ⟨_, rfl, ParamStores.writeIngressEnable_params _ s, lanesSwitched_writeIngressEnable _ s, by simp, ?_⟩
    rw [ParamStores.writeIngressEnable_params]
    exact (writeIngressEnable_calm (hi ++ lo) s).kept

end Sys2Proof.LaneSwitched
end

section
/-! SUPPORT. The bit sequences of the generators (R90): each bit shifted in is the exclusive-or that the polynomial gives. -/

namespace Sys2Proof.Sequences

open Sys2Proof.Machine

variable {ts : List Nat}

theorem prBit_zero (r : Word) :
    (prBit ts r).getLsbD 0 = ts.foldl (fun b t => b ^^ r.getLsbD (t - 1)) false := by
  unfold prBit
  cases ts.foldl (fun b t => b ^^ r.getLsbD (t - 1)) false <;> simp

theorem prBit_succ (r : Word) {j : Nat} (hj : j + 1 < 32) : (prBit ts r).getLsbD (j + 1) = r.getLsbD j := by
  unfold prBit
  split <;> simp [hj, BitVec.getLsbD_eq_getElem (show j < 32 by omega)]

theorem prBits_succ (n : Nat) (r : Word) : prBits ts (n + 1) r = prBit ts (prBits ts n r) := by
  induction n generalizing r with
  | zero => rfl
  | succ n ih => exact ih (prBit ts r)

/-- What stood in the register moves up. -/
theorem prBits_high (n : Nat) (r : Word) {j : Nat} (hn : n ≤ j) (hj : j < 32) :
    (prBits ts n r).getLsbD j = r.getLsbD (j - n) := by
  induction n generalizing j with
  | zero => rfl
  | succ n ih =>
    obtain ⟨i, rfl⟩ := Nat.exists_eq_add_of_lt (Nat.lt_of_lt_of_le (Nat.succ_pos n) hn)
    simp only [Nat.zero_add] at hn hj ⊢
    rw [prBits_succ, prBit_succ _ hj, ih (by omega) (by omega)]
    congr 1
    omega

/-- The bits shifted in, and before them the register they were shifted into, as one sequence back from the latest. -/
def stream (ts : List Nat) (n : Nat) (r : Word) (j : Nat) : Bool :=
  if j < 32 then (prBits ts n r).getLsbD j else r.getLsbD (j - n)

theorem stream_succ {n : Nat} (hn : n < 32) (r : Word) (j : Nat) : stream ts (n + 1) r (j + 1) = stream ts n r j := by
  unfold stream
  by_cases hj : j + 1 < 32
  · rw [if_pos hj, if_pos (by omega), prBits_succ, prBit_succ _ hj]
  · rw [if_neg hj]
    by_cases h31 : j < 32
    · rw [if_pos h31, prBits_high n r (by omega) h31]
      congr 1
      omega
    · rw [if_neg h31]
      congr 1
      omega

theorem foldl_xor_congr {f g : Nat → Bool} (h : ∀ t ∈ ts, f t = g t) (b : Bool) :
    ts.foldl (fun x t => x ^^ f t) b = ts.foldl (fun x t => x ^^ g t) b := by
  induction ts generalizing b with
  | nil => rfl
  | cons t ts ih =>
    rw [List.foldl_cons, List.foldl_cons, h t (by simp)]
    exact ih (fun u hu => h u (by simp [hu])) _

/-- Each bit shifted in is the exclusive-or of the bits at the offsets back from it. -/
theorem stream_rec (hts : ∀ t ∈ ts, 1 ≤ t ∧ t ≤ 32) (n : Nat) (hn : n ≤ 32) (r : Word) (i : Nat) (hi : i < n) :
    stream ts n r i = ts.foldl (fun x t => x ^^ stream ts n r (i + t)) false := by
  induction n generalizing i with
  | zero => omega
  | succ n ih =>
    cases i with
    | zero =>
      have hzero : stream ts (n + 1) r 0 = (prBit ts (prBits ts n r)).getLsbD 0 := by
        rw [stream, if_pos (by omega), prBits_succ]
      rw [hzero, prBit_zero]
      refine foldl_xor_congr (fun t ht => ?_) _
      obtain ⟨hpos, hle⟩ := hts t ht
      obtain ⟨u, rfl⟩ : ∃ u, t = u + 1 := ⟨t - 1, by omega⟩
      rw [Nat.zero_add, stream_succ (by omega), stream, if_pos (by omega)]
      rfl
    | succ i =>
      rw [stream_succ (by omega), ih (by omega) i (by omega)]
      refine foldl_xor_congr (fun t _ => ?_) _
      rw [show i + 1 + t = (i + t) + 1 by omega, stream_succ (by omega)]

/-- A word and the next one, read as one sequence. -/
theorem append_getLsbD (w : Word) (j : Nat) : (w ++ prBits ts 32 w).getLsbD j = stream ts 32 w j := by
  rw [BitVec.getLsbD_append, stream]

theorem nextWord_rec (hts : ∀ t ∈ ts, 1 ≤ t ∧ t ≤ 32) (w : Word) (i : Nat) (hi : i < 32) :
    (w ++ prBits ts 32 w).getLsbD i = ts.foldl (fun x t => x ^^ (w ++ prBits ts 32 w).getLsbD (i + t)) false := by
  rw [append_getLsbD, stream_rec hts 32 (le_refl _) w i hi]
  exact foldl_xor_congr (fun t _ => (append_getLsbD w (i + t)).symm) _

theorem ones_getLsbD {L i : Nat} (hL : L ≤ 32) (hi : i < L) : (BitVec.ofNat 32 (2 ^ L - 1)).getLsbD i = true := by
  simp [BitVec.getLsbD_ofNat, Nat.testBit_two_pow_sub_one, hi]
  omega

theorem firstWord_rec {L : Nat} (hL : L ≤ 32) (hts : ∀ t ∈ ts, 1 ≤ t ∧ t ≤ L) (i : Nat) (hi : i < 32) :
    (prBits ts (32 - L) (BitVec.ofNat 32 (2 ^ L - 1))).getLsbD i =
      if 32 ≤ i + L then true
      else ts.foldl (fun x t => x ^^ (prBits ts (32 - L) (BitVec.ofNat 32 (2 ^ L - 1))).getLsbD (i + t)) false := by
  split
  · rw [prBits_high _ _ (by omega) hi]
    exact ones_getLsbD hL (by omega)
  · have hrec := stream_rec (fun t ht => ⟨(hts t ht).1, le_trans (hts t ht).2 hL⟩) (32 - L) (by omega)
      (BitVec.ofNat 32 (2 ^ L - 1)) i (by omega)
    rw [stream, if_pos hi] at hrec
    rw [hrec]
    refine foldl_xor_congr (fun t ht => ?_) _
    have := (hts t ht).2
    rw [stream, if_pos (by omega)]

/-- Settles O26. -/
theorem generatorWordsFollowTheirPolynomial : Obligations.GeneratorWordsFollowTheirPolynomial := by
  unfold Obligations.GeneratorWordsFollowTheirPolynomial
  refine ⟨rfl, fun _ => rfl, ?_⟩
  rintro kind offsets hkind rfl
  cases kind with
  | count => exact absurd rfl hkind
  | pr13 => exact ⟨nextWord_rec (by decide), firstWord_rec (L := 13) (by decide) (by decide)⟩
  | pr19 => exact ⟨nextWord_rec (by decide), firstWord_rec (L := 19) (by decide) (by decide)⟩
  | pr29 => exact ⟨nextWord_rec (by decide), firstWord_rec (L := 29) (by decide) (by decide)⟩

end Sys2Proof.Sequences
end

section
/-! SUPPORT. Detection and tracking (R95 to R98): a round of five words, and the comparison with the reference. -/

namespace Sys2Proof.Detection

open Sys2Proof.Machine

/-! ### The candidates of a seed (R95) -/

/-- The seven candidates in their order of preference. -/
def preference : List (SequenceKind × Bool) :=
  [(.count, false), (.pr13, false), (.pr19, false), (.pr29, false), (.pr13, true), (.pr19, true), (.pr29, true)]

/-- A kind is formed from a seed unless its L bits are all 0. -/
def formed (seed : Word) (c : SequenceKind × Bool) : Bool :=
  decide (c.1 = .count ∨ (if c.2 then ~~~ seed else seed).toNat % 2 ^ degree c.1 ≠ 0)

/-- The candidate of a kind with the word it predicts after `w`. -/
def candidate (w : Word) (c : SequenceKind × Bool) : Candidate :=
  { kind := c.1, inverted := c.2, predicted := nextReceived c.1 c.2 w }

theorem and_ones_eq_zero (x : Word) {L : Nat} (hL : L ≤ 32) :
    x &&& BitVec.ofNat 32 (2 ^ L - 1) = 0 ↔ x.toNat % 2 ^ L = 0 := by
  have hpow : 2 ^ L ≤ 2 ^ 32 := Nat.pow_le_pow_right (by decide) hL
  have hpos : 0 < 2 ^ L := Nat.two_pow_pos L
  have hones : (BitVec.ofNat 32 (2 ^ L - 1)).toNat = 2 ^ L - 1 := by
    rw [BitVec.toNat_ofNat, Nat.mod_eq_of_lt (by omega)]
  have hand : (x &&& BitVec.ofNat 32 (2 ^ L - 1)).toNat = x.toNat % 2 ^ L := by
    rw [BitVec.toNat_and, hones, Nat.and_two_pow_sub_one_eq_mod]
  constructor
  · intro h
    rw [← hand, h]
    rfl
  · intro h
    exact BitVec.eq_of_toNat_eq (by rw [hand, h]; rfl)

theorem prCandidate_eq {kind : SequenceKind} (hkind : kind ≠ .count) (inverted : Bool) (seed : Word) :
    prCandidate kind inverted seed = ([(kind, inverted)].filter (formed seed)).map (candidate seed) := by
  have hdegree : degree kind ≤ 32 := by cases kind <;> decide
  unfold prCandidate
  by_cases h : (if inverted then ~~~ seed else seed) &&& BitVec.ofNat 32 (2 ^ degree kind - 1) = 0
  · have hnot : ¬ formed seed (kind, inverted) = true := by
      simp [formed, hkind, (and_ones_eq_zero _ hdegree).1 h]
    rw [if_pos h, List.filter_cons_of_neg hnot]
    rfl
  · have hformed : formed seed (kind, inverted) = true :=
      decide_eq_true (.inr fun h0 => h ((and_ones_eq_zero _ hdegree).2 h0))
    rw [if_neg h, List.filter_cons_of_pos hformed]
    rfl

/-- The candidates that a new round begins with. -/
theorem startRound_standing (seed : Word) :
    (startRound seed).standing = (preference.filter (formed seed)).map (candidate seed) := by
  have hsplit : preference = (.count, false) :: ([(.pr13, false)] ++ [(.pr19, false)] ++ [(.pr29, false)] ++
      [(.pr13, true)] ++ [(.pr19, true)] ++ [(.pr29, true)]) := rfl
  have hcount : formed seed (.count, false) = true := decide_eq_true (.inl rfl)
  rw [hsplit, List.filter_cons_of_pos hcount]
  simp only [List.filter_append, List.map_append, List.map_cons]
  rw [← prCandidate_eq (by decide), ← prCandidate_eq (by decide), ← prCandidate_eq (by decide),
    ← prCandidate_eq (by decide), ← prCandidate_eq (by decide), ← prCandidate_eq (by decide)]
  rfl

/-- The candidates that a word leaves standing, before it predicting what follows `v`, after it what follows the word. -/
theorem survivors_candidates (w v : Word) (cs : List (SequenceKind × Bool)) :
    survivors w (cs.map (candidate v)) = (cs.filter fun c => decide (nextReceived c.1 c.2 v = w)).map (candidate w) := by
  unfold survivors
  rw [List.filter_map, List.map_map]
  refine List.map_congr_left fun c hc => ?_
  have hpredicted : nextReceived c.1 c.2 v = w := of_decide_eq_true (List.mem_filter.1 hc).2
  simp [advanceCandidate, candidate, hpredicted]

/-! ### Words in DETECT (R96) -/

/-- The checker with a detection round. -/
def inRound (k : Checker) (cs : List (SequenceKind × Bool)) (seed w : Word) (m : Nat) : Checker :=
  { k with round := some { seed := seed, standing := cs.map (candidate w), compared := m } }

theorem detectWord_none {k : Checker} (h : k.round = none) (w : Word) :
    detectWord w k = inRound k (preference.filter (formed w)) w w 0 := by
  have hround : startRound w =
      { seed := w, standing := (preference.filter (formed w)).map (candidate w), compared := 0 } := by
    rw [← startRound_standing]
    rfl
  unfold detectWord
  rw [h]
  simp only [hround]
  rfl

/-- The kinds of `cs` that predict `w` after `v`. -/
def predicting (v w : Word) (cs : List (SequenceKind × Bool)) : List (SequenceKind × Bool) :=
  cs.filter fun c => decide (nextReceived c.1 c.2 v = w)

variable {k : Checker} {cs : List (SequenceKind × Bool)} {seed v w : Word} {m : Nat}

theorem detectWord_inRound (k : Checker) (cs : List (SequenceKind × Bool)) (seed v w : Word) (m : Nat) :
    detectWord w (inRound k cs seed v m) =
      match predicting v w cs with
      | [] => inRound k (preference.filter (formed w)) w w 0
      | c :: rest =>
        if m + 1 < 4 then inRound k (c :: rest) seed w (m + 1)
        else
          { k with state := .track, detected := some c, tracked := true, reference := nextReceived c.1 c.2 w
                   erroredRun := 0, round := none } := by
  have hsurvivors : survivors w (cs.map (candidate v)) = (predicting v w cs).map (candidate w) := survivors_candidates w v cs
  have hrestart : ({ k with round := some (startRound w) } : Checker) = inRound k (preference.filter (formed w)) w w 0 :=
    detectWord_none (k := { k with round := none }) rfl w
  unfold detectWord inRound
  simp only [hsurvivors]
  cases predicting v w cs with
  | nil => exact hrestart
  | cons c rest => rfl

/-- A round that has compared fewer than four words. -/
def Rounds (k t : Checker) (m : Nat) : Prop :=
  ∃ cs seed v n, n ≤ m ∧ t = inRound k cs seed v n

theorem Rounds.word {t : Checker} (h : Rounds k t m) (hm : m + 1 < 4) (w : Word) : Rounds k (detectWord w t) (m + 1) := by
  obtain ⟨cs, seed, v, n, hn, rfl⟩ := h
  rw [detectWord_inRound]
  split
  · exact ⟨_, _, _, _, Nat.zero_le _, rfl⟩
  · rw [if_pos (by omega)]
    exact ⟨_, _, _, _, by omega, rfl⟩

theorem Rounds.detect {t : Checker} (h : Rounds k t m) (hdetect : k.state = .detect) (hround : k.round = none) :
    t.state = .detect ∧ { t with round := none } = k := by
  obtain ⟨cs, seed, v, n, -, rfl⟩ := h
  refine ⟨hdetect, ?_⟩
  rw [← hround]
  rfl

/-- A word that no kind standing predicts begins a new round. -/
theorem rounds_of_restart (h : predicting v w cs = []) : Rounds k (detectWord w (inRound k cs seed v m)) 0 := by
  rw [detectWord_inRound, h]
  exact ⟨_, _, _, _, le_refl 0, rfl⟩

theorem detectWord_stands (hne : predicting v w cs ≠ []) (hm : m + 1 < 4) :
    detectWord w (inRound k cs seed v m) = inRound k (predicting v w cs) seed w (m + 1) := by
  rw [detectWord_inRound]
  split
  · next h => exact absurd h hne
  · next h => rw [if_pos hm, h]

/-- The kinds left by four words after a seed. -/
def predictingAll (seed w1 w2 w3 w4 : Word) : List (SequenceKind × Bool) :=
  predicting w3 w4 (predicting w2 w3 (predicting w1 w2 (predicting seed w1 (preference.filter (formed seed)))))

theorem predicting_nil (v w : Word) : predicting v w [] = [] := rfl

/-- The five words of a round: the first kind left wins; where none is left the checker stays in DETECT. -/
theorem detect_five (hround : k.round = none) (seed w1 w2 w3 w4 : Word) :
    match (predictingAll seed w1 w2 w3 w4).head? with
    | some c => detectWord w4 (detectWord w3 (detectWord w2 (detectWord w1 (detectWord seed k)))) =
        { k with state := .track, detected := some c, tracked := true, reference := nextReceived c.1 c.2 w4
                 erroredRun := 0, round := none }
    | none => Rounds k (detectWord w4 (detectWord w3 (detectWord w2 (detectWord w1 (detectWord seed k))))) 3 := by
  rw [detectWord_none hround]
  unfold predictingAll
  generalize preference.filter (formed seed) = cs
  by_cases h1 : predicting seed w1 cs = []
  · have hrounds := rounds_of_restart (k := k) (seed := seed) (m := 0) h1
    rw [h1]
    exact ((hrounds.word (by omega) w2).word (by omega) w3).word (by omega) w4
  rw [detectWord_stands h1 (by omega)]
  by_cases h2 : predicting w1 w2 (predicting seed w1 cs) = []
  · obtain ⟨_, _, _, _, hle, heq⟩ := ((rounds_of_restart (k := k) (seed := seed) (m := 0 + 1) h2).word (by omega) w3).word
      (by omega) w4
    rw [h2]
    exact ⟨_, _, _, _, by omega, heq⟩
  rw [detectWord_stands h2 (by omega)]
  by_cases h3 : predicting w2 w3 (predicting w1 w2 (predicting seed w1 cs)) = []
  · obtain ⟨_, _, _, _, hle, heq⟩ := (rounds_of_restart (k := k) (seed := seed) (m := 0 + 1 + 1) h3).word (by omega) w4
    rw [h3]
    exact ⟨_, _, _, _, by omega, heq⟩
  rw [detectWord_stands h3 (by omega)]
  by_cases h4 : predicting w3 w4 (predicting w2 w3 (predicting w1 w2 (predicting seed w1 cs))) = []
  · obtain ⟨_, _, _, _, hle, heq⟩ := rounds_of_restart (k := k) (seed := seed) (m := 0 + 1 + 1 + 1) h4
    rw [h4]
    exact ⟨_, _, _, _, by omega, heq⟩
  · rw [detectWord_inRound]
    cases hlast : predicting w3 w4 (predicting w2 w3 (predicting w1 w2 (predicting seed w1 cs))) with
    | nil => exact absurd hlast h4
    | cons c rest => simp

/-- The first of the seven kinds that is formed and predicts all four words. -/
def winner (seed w1 w2 w3 w4 : Word) : Option (SequenceKind × Bool) :=
  preference.find? fun c => formed seed c &&
    decide (nextReceived c.1 c.2 seed = w1 ∧ nextReceived c.1 c.2 w1 = w2 ∧ nextReceived c.1 c.2 w2 = w3 ∧
      nextReceived c.1 c.2 w3 = w4)

theorem predictingAll_head (seed w1 w2 w3 w4 : Word) :
    (predictingAll seed w1 w2 w3 w4).head? = winner seed w1 w2 w3 w4 := by
  have hall : predictingAll seed w1 w2 w3 w4 = preference.filter fun c => formed seed c &&
      decide (nextReceived c.1 c.2 seed = w1 ∧ nextReceived c.1 c.2 w1 = w2 ∧ nextReceived c.1 c.2 w2 = w3 ∧
        nextReceived c.1 c.2 w3 = w4) := by
    simp only [predictingAll, predicting, List.filter_filter]
    refine List.filter_congr fun c _ => ?_
    rw [Bool.eq_iff_iff]
    simp only [Bool.and_eq_true, decide_eq_true_eq]
    tauto
  rw [hall, List.head?_filter]
  rfl

/-- A counting sequence is found at once. -/
theorem detect_count (hround : k.round = none) (w : Word) :
    detectWord (w + 4) (detectWord (w + 3) (detectWord (w + 2) (detectWord (w + 1) (detectWord w k)))) =
      { k with state := .track, detected := some (.count, false), tracked := true, reference := w + 5, erroredRun := 0
               round := none } := by
  have hstep : ∀ a b : Word, a + b + 1 = a + (b + 1) := fun a b => by rw [BitVec.add_assoc]
  have hfive := detect_five hround w (w + 1) (w + 2) (w + 3) (w + 4)
  have hhead : (predictingAll w (w + 1) (w + 2) (w + 3) (w + 4)).head? = some (.count, false) := by
    rw [predictingAll_head]
    refine List.find?_cons_of_pos ?_
    simp only [Bool.and_eq_true, decide_eq_true_eq]
    exact ⟨decide_eq_true (.inl rfl), rfl, hstep w 1, hstep w 2, hstep w 3⟩
  have hnext : nextReceived .count false (w + 4) = w + 5 := hstep w 4
  rw [hhead] at hfive
  simp only [hnext] at hfive
  exact hfive

/-! ### Words in TRACK (R97, R98) -/

theorem differingBits_eq (a b : Word) :
    differingBits a b = ((List.range 32).filter fun i => decide (a.getLsbD i ≠ b.getLsbD i)).length := by
  unfold differingBits
  rw [List.countP_eq_length_filter]
  congr 1
  refine List.filter_congr fun i _ => ?_
  rw [BitVec.getLsbD_xor]
  cases a.getLsbD i <;> cases b.getLsbD i <;> rfl

theorem bumpBy_word (c : Word) (n : Nat) :
    bumpBy c n = if c.toNat + n < 2 ^ 32 then c + BitVec.ofNat 32 n else 0xFFFFFFFF#32 := rfl

theorem trackWord_eq (w : Word) (k : Checker) :
    trackWord w k =
      if w = k.reference then { k with compared := bump k.compared, erroredRun := 0, reference := nextReference k }
      else
        { k with
          compared := bump k.compared, errored := bump k.errored, reference := nextReference k
          bitErrors := bumpBy k.bitErrors (differingBits w k.reference)
          erroredRun := if k.erroredRun + 1 < 8 then k.erroredRun + 1 else 0
          state := if k.erroredRun + 1 < 8 then k.state else .detect
          round := if k.erroredRun + 1 < 8 then k.round else none
          lost := if k.erroredRun + 1 < 8 then k.lost else bump k.lost } := by
  unfold trackWord
  by_cases h : k.erroredRun + 1 < 8
  · simp only [show k.erroredRun + 1 < Config.trackLimit from h, if_true]
  · simp only [show ¬ k.erroredRun + 1 < Config.trackLimit from h, if_false]

/-- Settles O27. -/
theorem sampledWordsAreDetectedAndTracked : Obligations.SampledWordsAreDetectedAndTracked := by
  unfold Obligations.SampledWordsAreDetectedAndTracked
  refine ⟨fun w k _ hround => ?_, ?_, ?_, ?_⟩
  case refine_1 =>
    rw [detect_count hround]
    exact ⟨_, rfl, rfl, rfl, rfl, rfl, rfl, rfl, rfl, rfl, rfl⟩
  case refine_2 =>
    rintro seed w1 w2 w3 w4 k t next hdetect hround hnext rfl
    have hreceived : next = nextReceived := by
      funext kind inverted w
      exact hnext kind inverted w
    subst hreceived
    have hfive := detect_five hround seed w1 w2 w3 w4
    rw [predictingAll_head] at hfive
    generalize detectWord w4 (detectWord w3 (detectWord w2 (detectWord w1 (detectWord seed k)))) = t at hfive ⊢
    split
    · next kind inverted hwin =>
      rw [show winner seed w1 w2 w3 w4 = some (kind, inverted) from hwin] at hfive
      exact hfive
    · next hnone =>
      rw [show winner seed w1 w2 w3 w4 = none from hnone] at hfive
      exact Rounds.detect hfive hdetect hround
  case refine_3 =>
    rintro w k r hround hnone
    have hsurvivors : survivors w r.standing = [] := by
      unfold survivors
      rw [List.map_eq_nil_iff, List.filter_eq_nil_iff]
      exact fun c hc => by simpa using hnone c hc
    unfold detectWord
    rw [hround]
    simp only [hsurvivors]
  case refine_4 =>
    rintro w next k kind inverted wrong hkind rfl rfl
    have hreference : nextReference k =
        if inverted then ~~~ (nextInSequence kind (~~~ k.reference)) else nextInSequence kind k.reference := by
      unfold nextReference
      rw [hkind]
      rfl
    rw [trackWord_eq, ← hreference, ← differingBits_eq, ← bumpBy_word]

end Sys2Proof.Detection
end

section
/-! SUPPORT. The steps the part takes itself (logs 2 and 6): each as the statement writes it, due or not. -/

namespace Sys2Proof.OwnSteps

open Sys2Proof.Machine

theorem abortWord_eq : abortWord = 0xDD000000#32 := by decide

theorem fifoFull_eq_false {s : State} : fifoFull s = false ↔ s.channel.fifo.length < 128 := by
  simp [fifoFull, Config.fifoDepth]

theorem fifoFull_eq_true {s : State} : fifoFull s = true ↔ 128 ≤ s.channel.fifo.length := by
  simp [fifoFull, Config.fifoDepth]

theorem abortDue_iff {s : State} : abortDue s = true ↔ s.channel.abortOwed = true ∧ s.channel.fifo.length < 128 := by
  simp only [abortDue, Bool.and_eq_true, Bool.not_eq_true', fifoFull_eq_false]

theorem copyEndDue_of_done {s : State} {k : Nat} (h : s.map.copy = some k) (hk : 16 ≤ k) : copyEndDue s = true := by
  simp [copyEndDue, h, hk]

theorem copyEndDue_of_running {s : State} (h : ∀ k, s.map.copy = some k → k < 16) : copyEndDue s = false := by
  unfold copyEndDue
  split
  · next k hk => exact decide_eq_false (by have := h k hk; omega)
  · rfl

theorem checkEndDue_iff {c : CheckerId} {s : State} :
    checkEndDue c s = true ↔
      ((s.checkers.get c).state = .detect ∨ (s.checkers.get c).state = .track) ∧ (s.checkers.get c).remaining = 0 := by
  simp [checkEndDue, checking]

theorem surveyEndDue_iff {s : State} :
    surveyEndDue s = true ↔ s.survey.state = .running ∧ s.survey.remaining = 0 := by
  simp [surveyEndDue]

theorem checkDoneData_eq (r : CheckResult) (k : Checker) :
    checkDoneData r k =
      [checkResultOctet (some r), detectedOctet k.detected] ++
        (if k.errored.toNat ≤ 65534 then [octetAt k.errored 1, octetAt k.errored 0] else [0xFF#8, 0xFF#8]) := by
  unfold checkDoneData
  rw [LaneGone.erroredOctets_eq]

/-- The result of a run that ends by its count (R99). -/
theorem countedResult_eq (k : Checker) :
    countedResult k = if k.tracked = false then .notFound else if k.errored = 0 then .clean else .errors := by
  unfold countedResult
  cases k.tracked <;> simp

theorem takeCheckEnd_eq (c : CheckerId) (s : State) :
    takeCheckEnd c s =
      if ((s.checkers.get c).state = .detect ∨ (s.checkers.get c).state = .track) ∧ (s.checkers.get c).remaining = 0 then
        raise .checkDone (.checker c)
          (checkDoneData (countedResult (s.checkers.get c)) (s.checkers.get c))
          { s with
            checkers := s.checkers.set c
              { s.checkers.get c with state := .done, result := some (countedResult (s.checkers.get c)), round := none } }
      else s :=
  if_congr checkEndDue_iff rfl rfl

theorem takeSurveyEnd_eq (s : State) :
    takeSurveyEnd s =
      if s.survey.state = .running ∧ s.survey.remaining = 0 then
        raise .surveyDone .none
          [BitVec.ofNat 8 s.survey.lane.val, 0x01#8, octetAt s.survey.observed 1, octetAt s.survey.observed 0]
          { s with survey := { s.survey with state := .done } }
      else s :=
  if_congr surveyEndDue_iff rfl rfl

theorem storeOwedAbort_eq (s : State) :
    storeOwedAbort s =
      if s.channel.abortOwed = true ∧ s.channel.fifo.length < 128 then
        { s with
          channel := { s.channel with
            fifo := s.channel.fifo ++ [{ word := 0xDD000000#32, entered := s.starts }], abortOwed := false } }
      else s := by
  unfold storeOwedAbort
  rw [abortWord_eq]
  exact if_congr abortDue_iff rfl rfl

theorem takeExpiry_eq (s : State) :
    takeExpiry s =
      if s.notices.timer = some 0 then
        (if s.notices.retries < s.params.noticeRetries.toNat then
          { s with notices := { s.notices with timer := none, copy := .owed true } }
        else { s with notices := { s.notices with timer := none, state := .stalled, copy := .idle } })
      else s := by
  refine if_congr decide_eq_true_iff ?_ rfl
  unfold expired
  split <;> rfl

theorem beginAttempt_eq (s : State) :
    beginAttempt s =
      if s.loader.next = .due then
        { s with
          loader := { s.loader with
            attempts := s.loader.attempts + 1, engine := some 0, sent := [0x03#8, 0#8, 0#8, 0#8], taken := []
            next := .none } }
      else s :=
  if_congr decide_eq_true_iff rfl rfl

/-- Settles O28: each own step is its command's meaning, and its test is the rule's. -/
theorem stepsOfThePartActWhenDue : Obligations.StepsOfThePartActWhenDue := by
  unfold Obligations.StepsOfThePartActWhenDue
  refine ⟨⟨fun s => ⟨?_, ?_⟩, ?_, ?_⟩, ?_⟩
  · intro k hk hdone
    exact congrArg Host.Outcome.next (if_pos (copyEndDue_of_done hk hdone))
  · intro hrunning
    exact congrArg Host.Outcome.next (if_neg (by simp [copyEndDue_of_running hrunning]))
  · rintro c s k res rfl rfl
    rw [← countedResult_eq, ← checkDoneData_eq]
    exact congrArg Host.Outcome.next (takeCheckEnd_eq c s)
  · exact fun s => congrArg Host.Outcome.next (takeSurveyEnd_eq s)
  · exact fun s => ⟨congrArg Host.Outcome.next (storeOwedAbort_eq s), congrArg Host.Outcome.next (takeExpiry_eq s),
      congrArg Host.Outcome.next (beginAttempt_eq s)⟩

end Sys2Proof.OwnSteps
end

section
/-! SUPPORT. The receive parser (R103 to R112) as a table: the kind of a service word against BETWEEN and IN_MESSAGE, and
what a word of a forwarded copy does to the FIFO. -/

namespace Sys2Proof.Parser

open Sys2Proof.Machine

variable {h : Heard} {s : State} {m : OpenMessage}

/-! ### The kind of a service word (R103) -/

theorem heardKind_of_flagged (hf : h.flagged = true) : heardKind h = .malformed := if_pos hf

theorem heardKind_of_clean (hf : h.flagged = false) : heardKind h = wordKind h.content := by simp [heardKind, hf]

theorem wordKind_of_top {w : Word} {top : Octet} {k : WordKind} (htop : octetAt w 3 = top)
    (hk : (if top = 0x00#8 then .idle else if top = 0xA1#8 then .head else if top = 0xB2#8 then .body
      else if top = 0xC3#8 then .tail else if top = 0xDD#8 then .abort else .malformed) = k) : wordKind w = k := by
  subst htop
  exact hk

theorem heardKind_idle (hf : h.flagged = false) (htop : octetAt h.content 3 = 0x00#8) : heardKind h = .idle :=
  (heardKind_of_clean hf).trans (wordKind_of_top htop (by decide))

theorem heardKind_head (hf : h.flagged = false) (htop : octetAt h.content 3 = 0xA1#8) : heardKind h = .head :=
  (heardKind_of_clean hf).trans (wordKind_of_top htop (by decide))

theorem heardKind_body (hf : h.flagged = false) (htop : octetAt h.content 3 = 0xB2#8) : heardKind h = .body :=
  (heardKind_of_clean hf).trans (wordKind_of_top htop (by decide))

theorem heardKind_tail (hf : h.flagged = false) (htop : octetAt h.content 3 = 0xC3#8) : heardKind h = .tail :=
  (heardKind_of_clean hf).trans (wordKind_of_top htop (by decide))

theorem heardKind_abort (hf : h.flagged = false) (htop : octetAt h.content 3 = 0xDD#8) : heardKind h = .abort :=
  (heardKind_of_clean hf).trans (wordKind_of_top htop (by decide))

/-- A flagged word, or one of no kind but BODY and TAIL, is a BODY, a TAIL or malformed. -/
theorem heardKind_stray (ht : h.flagged = true ∨
    (octetAt h.content 3 ≠ 0x00#8 ∧ octetAt h.content 3 ≠ 0xDD#8 ∧ octetAt h.content 3 ≠ 0xA1#8)) :
    heardKind h = .body ∨ heardKind h = .tail ∨ heardKind h = .malformed := by
  obtain hf | ⟨hidle, habort, hhead⟩ := ht
  · exact .inr (.inr (heardKind_of_flagged hf))
  · unfold heardKind wordKind headOctet abortOctet
    rw [if_neg hidle, if_neg hhead, if_neg habort]
    (repeat' split) <;> simp

/-- A flagged word, or one of no other kind, is an ABORT or malformed. -/
theorem heardKind_abandons (ht : h.flagged = true ∨ (octetAt h.content 3 ≠ 0x00#8 ∧ octetAt h.content 3 ≠ 0xA1#8 ∧
    octetAt h.content 3 ≠ 0xB2#8 ∧ octetAt h.content 3 ≠ 0xC3#8)) : heardKind h = .abort ∨ heardKind h = .malformed := by
  obtain hf | ⟨hidle, hhead, hbody, htail⟩ := ht
  · exact .inr (heardKind_of_flagged hf)
  · unfold heardKind wordKind headOctet bodyOctet tailOctet
    rw [if_neg hidle, if_neg hhead, if_neg hbody, if_neg htail]
    (repeat' split) <;> simp

/-! ### The parser's table -/

theorem parseWord_idle (hk : heardKind h = .idle) : parseWord h s = s := by
  unfold parseWord
  rw [hk]

theorem parseWord_abort_between (hk : heardKind h = .abort) (hp : s.channel.parser = none) : parseWord h s = s := by
  unfold parseWord
  rw [hk, hp]

theorem parseWord_stray (hk : heardKind h = .body ∨ heardKind h = .tail ∨ heardKind h = .malformed)
    (hp : s.channel.parser = none) : parseWord h s = strayWord s := by
  unfold parseWord
  obtain hk | hk | hk := hk <;> rw [hk, hp]

theorem parseWord_head_between (hk : heardKind h = .head) (hp : s.channel.parser = none) :
    parseWord h s = openMessage h.content s := by
  unfold parseWord
  rw [hk, hp]

theorem parseWord_head_inMessage (hk : heardKind h = .head) (hp : s.channel.parser = some m) :
    parseWord h s = openMessage h.content (abandonMessage s) := by
  unfold parseWord
  rw [hk, hp]

theorem parseWord_body (hk : heardKind h = .body) (hp : s.channel.parser = some m) :
    parseWord h s = takeBody h.content m s := by
  unfold parseWord
  rw [hk, hp]

theorem parseWord_tail (hk : heardKind h = .tail) (hp : s.channel.parser = some m) :
    parseWord h s = takeTail h.content m s := by
  unfold parseWord
  rw [hk, hp]

theorem parseWord_abandons (hk : heardKind h = .abort ∨ heardKind h = .malformed) (hp : s.channel.parser = some m) :
    parseWord h s = abandonMessage s := by
  unfold parseWord
  obtain hk | hk := hk <;> rw [hk, hp]

/-! ### A raise beside a change of the channel -/

/-- A raise neither reads nor changes the channel: a change of the channel behind it is one in front of it. -/
theorem raise_onChannel (f : Channel → Channel) (k : NoticeKind) (x : Subject) (d : List Octet) (s : State) :
    { raise k x d s with channel := f (raise k x d s).channel } = raise k x d { s with channel := f s.channel } := by
  unfold raise
  cases noticeEnabled s.params.noticeMask k <;> simp

/-! ### Dispositions (R106) -/

theorem any_toList_iff {n : Nat} {α : Type} (t : Tab n α) (p : α → Bool) :
    t.toList.any p = true ↔ ∃ i, p (t.get i) = true := by
  rw [List.any_eq_true]
  constructor
  · rintro ⟨x, hx, hpx⟩
    obtain ⟨i, hi, rfl⟩ := List.getElem_of_mem hx
    exact ⟨⟨i, by rw [← t.size_eq]; exact hi⟩, hpx⟩
  · rintro ⟨i, hi⟩
    exact ⟨t.get i, List.getElem_mem _, hi⟩

theorem memberOf_iff {d : Octet} {p : Params} :
    memberOf d p = true ↔ d = 31 ∨ (32 ≤ d.toNat ∧ d.toNat ≤ 62 ∧ ∃ i, p.groups.get i = d.setWidth 16) := by
  simp only [memberOf, Bool.or_eq_true, Bool.and_eq_true, decide_eq_true_iff, any_toList_iff, and_assoc]
  rfl

theorem dispositionOf_own {d : Octet} (hd : d ≠ 0) (ha : d = s.address) : dispositionOf d s = .consume := if_pos ⟨hd, ha⟩

theorem dispositionOf_other {d : Octet} (hd : d = 0 ∨ d ≠ s.address) :
    dispositionOf d s =
      if d = 31 ∨ (32 ≤ d.toNat ∧ d.toNat ≤ 62 ∧ ∃ i, s.params.groups.get i = d.setWidth 16) then .both else .forward := by
  unfold dispositionOf
  rw [if_neg (by rintro ⟨h0, ha⟩; exact hd.elim h0 (· ha))]
  exact if_congr memberOf_iff rfl rfl

/-! ### The words of a forwarded copy (R112) -/

theorem headRefused_eq_false : headRefused s = false ↔ s.channel.fifo.length < 128 ∧ s.channel.abortOwed = false := by
  simp [headRefused, OwnSteps.fifoFull_eq_false]

/-- An open message under FORWARD or BOTH, by whether its HEAD found room. -/
theorem openMessage_forwarded {w : Word} (hd : dispositionOf (octetAt w 2) s ≠ .consume) :
    openMessage w s =
      if s.channel.fifo.length < 128 ∧ s.channel.abortOwed = false then
        { s with
          channel := { s.channel with
            fifo := s.channel.fifo ++ [{ word := w, entered := s.starts }]
            parser := some
              { disposition := dispositionOf (octetAt w 2) s, count := 1, dest := octetAt w 2, src := octetAt w 1
                mtype := octetAt w 0, octets := [], storing := true } } }
      else
        raise .forwardOverflow .none
          [octetAt (bump s.channel.forwardOverflow) 1, octetAt (bump s.channel.forwardOverflow) 0]
          { s with
            channel := { s.channel with
              forwardOverflow := bump s.channel.forwardOverflow
              parser := some
                { disposition := dispositionOf (octetAt w 2) s, count := 1, dest := octetAt w 2, src := octetAt w 1
                  mtype := octetAt w 0, octets := [], storing := false } } } := by
  unfold openMessage forwardHead openedMessage
  rw [if_neg hd]
  by_cases hroom : headRefused s = false
  · rw [if_pos (headRefused_eq_false.1 hroom), hroom]
    simp [hd, setParser, pushWord]
  · rw [if_neg (fun h => hroom (headRefused_eq_false.2 h)), Bool.eq_true_of_not_eq_false hroom]
    simp only [hd, ne_eq, not_false_eq_true, decide_true, Bool.not_true, Bool.and_false, if_true]
    exact raise_onChannel (fun ch => { ch with parser := _ }) _ _ _ _

/-- A BODY word or TAIL of a message of which `next` remains open: without a copy being stored, with room, and without. -/
theorem setParser_forwardLater (next : Option OpenMessage) (storing : Bool) (w : Word) (s : State) :
    setParser next (forwardLater storing w s) =
      if storing = false then { s with channel := { s.channel with parser := next } }
      else if s.channel.fifo.length < 128 then
        { s with
          channel := { s.channel with parser := next, fifo := s.channel.fifo ++ [{ word := w, entered := s.starts }] } }
      else
        raise .forwardOverflow .none
          [octetAt (bump s.channel.forwardOverflow) 1, octetAt (bump s.channel.forwardOverflow) 0]
          { s with
            channel := { s.channel with
              parser := next, abortOwed := true, forwardOverflow := bump s.channel.forwardOverflow } } := by
  unfold forwardLater
  cases storing with
  | false => rfl
  | true =>
    by_cases hroom : fifoFull s = false
    · rw [hroom, if_pos (OwnSteps.fifoFull_eq_false.1 hroom)]
      rfl
    · rw [if_neg (fun h => hroom (OwnSteps.fifoFull_eq_false.2 h)), Bool.eq_true_of_not_eq_false hroom]
      exact raise_onChannel (fun ch => { ch with parser := next, abortOwed := true }) _ _ _ _

/-- A message that is closed with its forwarded copy unfinished (R110): the ABORT is placed, or owed. -/
theorem closed_eq (m : OpenMessage) (s : State) :
    setParser none (if m.storing then placeAbort s else s) =
      { s with
        channel := { s.channel with
          parser := none
          fifo := if m.storing ∧ s.channel.fifo.length < 128 then
              s.channel.fifo ++ [{ word := 0xDD000000#32, entered := s.starts }]
            else s.channel.fifo
          abortOwed := s.channel.abortOwed || (m.storing && decide (128 ≤ s.channel.fifo.length)) } } := by
  cases hstoring : m.storing with
  | false => simp [setParser]
  | true =>
    unfold placeAbort
    by_cases hroom : fifoFull s = false
    · have hlt := OwnSteps.fifoFull_eq_false.1 hroom
      simp [hroom, hlt, setParser, pushWord, OwnSteps.abortWord_eq, Nat.not_le.2 hlt]
    · have hfull := Bool.eq_true_of_not_eq_false hroom
      have hge := OwnSteps.fifoFull_eq_true.1 hfull
      simp [hfull, hge, setParser, oweAbort, Nat.not_lt.2 hge]

theorem abandonMessage_open (hp : s.channel.parser = some m) :
    abandonMessage s = setParser none (if m.storing then placeAbort s else s) := by
  unfold abandonMessage
  rw [hp]

/-- Settles O29: the kinds of R103 against BETWEEN. -/
theorem parserBetweenMessagesOpensOrCountsStrays : Obligations.ParserBetweenMessagesOpensOrCountsStrays := by
  unfold Obligations.ParserBetweenMessagesOpensOrCountsStrays
  rintro h s top d hp rfl rfl
  refine ⟨?_, fun hstray => parseWord_stray (heardKind_stray hstray) hp, ?_, ?_⟩
  · rintro hf (htop | htop)
    · exact parseWord_idle (heardKind_idle hf htop)
    · exact parseWord_abort_between (heardKind_abort hf htop) hp
  · intro hf htop h0 ha
    have hd := dispositionOf_own h0 ha
    rw [parseWord_head_between (heardKind_head hf htop) hp]
    simp [openMessage, openedMessage, hd, setParser]
  · rintro hf htop hother disp rfl
    rw [parseWord_head_between (heardKind_head hf htop) hp, ← dispositionOf_other hother]
    exact openMessage_forwarded (by rw [dispositionOf_other hother]; split <;> decide)

/-- Settles O30: the kinds of R103 against IN_MESSAGE, the TAIL apart. -/
theorem parserInMessageCollectsForwardsOrAbandons : Obligations.ParserInMessageCollectsForwardsOrAbandons := by
  unfold Obligations.ParserInMessageCollectsForwardsOrAbandons
  rintro h s u m top hp rfl hu
  have hclosed := (closed_eq m s).trans hu.symm
  have habandoned := (abandonMessage_open hp).trans hclosed
  refine ⟨fun hf htop => parseWord_idle (heardKind_idle hf htop), ?_, ?_, ?_, ?_⟩
  · rintro hf htop hcount m' rfl
    rw [parseWord_body (heardKind_body hf htop) hp]
    unfold takeBody
    rw [if_pos hcount, setParser_forwardLater]
    cases hstoring : m.storing with
    | false => simp [stillStoring, contentOctets]
    | true =>
      by_cases hroom : fifoFull s = false
      · simp [stillStoring, hroom, OwnSteps.fifoFull_eq_false.1 hroom, contentOctets]
      · have hfull := Bool.eq_true_of_not_eq_false hroom
        simp [stillStoring, hfull, Nat.not_lt.2 (OwnSteps.fifoFull_eq_true.1 hfull), contentOctets]
  · intro hf htop hcount
    rw [parseWord_body (heardKind_body hf htop) hp]
    exact (if_neg (Nat.not_lt.2 hcount)).trans hclosed
  · intro habandons
    rw [parseWord_abandons (heardKind_abandons habandons) hp, habandoned]
  · intro hf htop
    have hbetween : u.channel.parser = none := by rw [hu]
    rw [parseWord_head_inMessage (heardKind_head hf htop) hp, habandoned,
      parseWord_head_between (heardKind_head hf htop) hbetween]

end Sys2Proof.Parser
end

section
/-! SUPPORT. The TAIL of a message and the arrival of what it hands on (R104, R105, R108, R113, R117). -/

namespace Sys2Proof.Arrivals

open Sys2Proof.Machine

theorem checkGood_iff {m : OpenMessage} {tail : Word} :
    checkGood m tail = true ↔
      (octetAt tail 0).toNat ≤ 2 ∧ (m.octets ≠ [] ∨ (octetAt tail 0).toNat = 0) ∧
        checkCode (m.dest :: m.src :: m.mtype :: m.octets.take (m.octets.length - (octetAt tail 0).toNat)) =
          octetAt tail 2 ++ octetAt tail 1 := by
  simp only [checkGood, padValid, lessPad, num2, Bool.and_eq_true, Bool.or_eq_true, decide_eq_true_iff, and_assoc]
  exact Iff.and Iff.rfl (Iff.and Iff.rfl decide_eq_true_iff)

theorem judgeMessage_eq (m : OpenMessage) (tail : Word) (s : State) :
    judgeMessage m tail s =
      if (octetAt tail 0).toNat ≤ 2 ∧ (m.octets ≠ [] ∨ (octetAt tail 0).toNat = 0) ∧
          checkCode (m.dest :: m.src :: m.mtype :: m.octets.take (m.octets.length - (octetAt tail 0).toNat)) =
            octetAt tail 2 ++ octetAt tail 1 then
        match m.disposition with
        | .consume => unicastArrives (consumedCopy m tail) s
        | .both => groupArrives (consumedCopy m tail) s
        | .forward => s
      else countBadCheck s := by
  unfold judgeMessage
  exact if_congr checkGood_iff rfl rfl

theorem consumedCopy_unicast {m : OpenMessage} (hd : m.disposition = .consume) (tail : Word) :
    consumedCopy m tail =
      { group := false, dest := m.dest, mtype := m.mtype
        octets := m.octets.take (m.octets.length - (octetAt tail 0).toNat)
        check := octetAt tail 2 ++ octetAt tail 1 } := by
  simp [consumedCopy, hd, lessPad, num2]

theorem consumedCopy_group {m : OpenMessage} (hd : m.disposition = .both) (tail : Word) :
    consumedCopy m tail =
      { group := true, dest := m.dest, mtype := m.mtype
        octets := m.octets.take (m.octets.length - (octetAt tail 0).toNat)
        check := octetAt tail 2 ++ octetAt tail 1 } := by
  simp [consumedCopy, hd, lessPad, num2]

/-- The intake holds a request of that key (R113). -/
theorem keyInIntake_iff {tag : Octet} {check : Num} {intake : List IntakeMessage} :
    intake.any (sameKey tag check) = true ↔
      ∃ n ∈ intake, n.group = false ∧ n.octets.headD 0 = tag ∧ n.check = check := by
  simp [sameKey, requestTag, and_assoc]

theorem cached_eq (tag : Octet) (check : Num) (cache : List CacheEntry) :
    cached tag check cache = cache.find? fun e => decide (e.tag = tag ∧ e.check = check) := by
  simp only [cached, Bool.decide_and]

/-- A replay or BUSY reply is placed while the queue has a free slot, else the request is dropped (R113). -/
theorem answerOrDrop_eq (words : List Word) (s : State) :
    answerOrDrop words s =
      if s.channel.outgoing.length < 4 then
        { s with
          channel := { s.channel with
            outgoing := s.channel.outgoing ++ [{ kind := .answer, words := words, given := 0, placed := s.starts }] } }
      else
        raise .requestDropped .none
          [octetAt (bump s.channel.requestDropped) 1, octetAt (bump s.channel.requestDropped) 0]
          { s with channel := { s.channel with requestDropped := bump s.channel.requestDropped } } :=
  if_congr decide_eq_true_iff rfl rfl

/-- The table of R113, by what it answers with. -/
theorem unicastArrives_eq (m : IntakeMessage) (s : State) :
    unicastArrives m s =
      if s.dispatcher.restart.isSome then s
      else if ∃ n ∈ s.channel.intake, n.group = false ∧ n.octets.headD 0 = m.octets.headD 0 ∧ n.check = m.check then s
      else
        match s.channel.cache.find? fun e => decide (e.tag = m.octets.headD 0 ∧ e.check = m.check) with
        | some e => answerOrDrop e.words s
        | none =>
          if 2 ≤ s.channel.intake.length then
            answerOrDrop (messageWords 63 s.address 0x02#8 [m.octets.headD 0, 0x02#8, 0]) s
          else { s with channel := { s.channel with intake := s.channel.intake ++ [m] } } := by
  unfold unicastArrives
  rw [← cached_eq]
  exact if_congr Iff.rfl rfl (if_congr keyInIntake_iff rfl rfl)

/-- Settles O31: the TAIL by `judgeMessage_eq`, the arrivals by the tables of R113 and R117. -/
theorem tailJudgesTheMessageAndArrivalsAreTested : Obligations.TailJudgesTheMessageAndArrivalsAreTested := by
  unfold Obligations.TailJudgesTheMessageAndArrivalsAreTested
  constructor
  · rintro h s u m pad octets check hp hf htop rfl rfl rfl hu
    rw [Parser.parseWord_tail (Parser.heardKind_tail hf htop) hp]
    unfold takeTail
    rw [Parser.setParser_forwardLater, ← hu, judgeMessage_eq]
    refine if_congr Iff.rfl ?_ rfl
    cases hd : m.disposition with
    | consume => simp only [consumedCopy_unicast hd]
    | both => simp only [consumedCopy_group hd]
    | forward => rfl
  · rintro m s dropped tag rfl rfl
    refine ⟨fun answer hanswer => ?_, rfl⟩
    have hsame : ∀ words, answerOrDrop words s = answer words := fun words =>
      (answerOrDrop_eq words s).trans (hanswer words).symm
    rw [unicastArrives_eq]
    simp only [hsame] <;> rfl

end Sys2Proof.Arrivals
end

section
/-! SUPPORT. The egress arbiter (R119, R120): one equation per state and readiness. -/

namespace Sys2Proof.Arbiter

open Sys2Proof.Machine

variable {s : State} {w : Word}

/-- TAIL and ABORT end a forwarded message (R119). -/
theorem endsForward_iff : (wordKind w = .tail ∨ wordKind w = .abort) ↔ (octetAt w 3 = 0xC3#8 ∨ octetAt w 3 = 0xDD#8) := by
  unfold wordKind headOctet bodyOctet tailOctet abortOctet
  generalize octetAt w 3 = top
  by_cases htail : top = 0xC3#8
  · subst htail
    decide
  · by_cases habort : top = 0xDD#8
    · subst habort
      decide
    · simp only [htail, habort, if_false, or_self, iff_false]
      (repeat' split) <;> decide

theorem giveForward_eq (w : Word) (s : State) :
    giveForward w s =
      (⟨w, false⟩,
        { s with
          channel := { s.channel with
            fifo := s.channel.fifo.tail
            arbiter := if octetAt w 3 = 0xC3#8 ∨ octetAt w 3 = 0xDD#8 then .between else .sendingForward } }) := by
  unfold giveForward
  simp only [endsForward_iff]

/-! ### The states of the arbiter -/

theorem arbiterGives_between (h : s.channel.arbiter = .between) : arbiterGives s = chooseMessage s := by
  unfold arbiterGives
  rw [h]

theorem arbiterGives_forward (h : s.channel.arbiter = .sendingForward) (hw : fifoReady s = some w) :
    arbiterGives s = giveForward w s := by
  unfold arbiterGives
  rw [h, hw]

theorem arbiterGives_forward_idle (h : s.channel.arbiter = .sendingForward) (hw : fifoReady s = none) :
    arbiterGives s = (givenIdle, s) := by
  unfold arbiterGives
  rw [h, hw]

theorem arbiterGives_local (h : s.channel.arbiter = .sendingLocal) : arbiterGives s = giveLocal s := by
  unfold arbiterGives
  rw [h]

/-! ### The choice in BETWEEN (R120) -/

theorem chooseMessage_forward (hw : fifoReady s = some w) (hl : localReady s = false) :
    chooseMessage s = giveForward w s := by
  unfold chooseMessage
  rw [hw, hl]

theorem chooseMessage_passes (hw : fifoReady s = some w) (hl : localReady s = true) (hpass : s.channel.passOver < 2) :
    chooseMessage s = giveForward w (setPassOver (s.channel.passOver + 1) s) := by
  unfold chooseMessage
  rw [hw, hl]
  exact if_pos hpass

theorem chooseMessage_idle (hw : fifoReady s = none) (hl : localReady s = false) : chooseMessage s = (givenIdle, s) := by
  unfold chooseMessage
  rw [hw, hl]

theorem chooseMessage_local (hl : localReady s = true) (hw : fifoReady s = none ∨ 2 ≤ s.channel.passOver) :
    chooseMessage s = giveLocal (setPassOver 0 s) := by
  unfold chooseMessage
  rw [hl]
  cases hf : fifoReady s with
  | none => rfl
  | some w => exact if_neg (Nat.not_lt.2 (hw.resolve_left (by simp [hf])))

/-! ### The first message not given to its end (R115, R119) -/

section Queue

variable {pre post queue : List OutgoingMessage} {m : OutgoingMessage}

theorem giveInQueue_behind (hpre : ∀ x ∈ pre, x.words.length ≤ x.given) (hm : m.given < m.words.length) :
    giveInQueue (pre ++ m :: post) = pre ++ { m with given := m.given + 1 } :: post := by
  induction pre with
  | nil => exact if_pos hm
  | cons x xs ih =>
    rw [List.cons_append, giveInQueue, if_neg (Nat.not_lt.2 (hpre x (.head _))), ih fun y hy => hpre y (.tail _ hy)]
    rfl

theorem find_unfinished (hpre : ∀ x ∈ pre, x.words.length ≤ x.given) (hm : m.given < m.words.length) :
    (pre ++ m :: post).find? (fun m => decide (m.given < m.words.length)) = some m := by
  rw [List.find?_append, List.find?_eq_none.2 fun x hx => by simpa using hpre x hx, List.find?_cons_of_pos (by simpa using hm)]
  rfl

theorem giveLocal_of_unfinished (hu : unfinished s = some m) :
    giveLocal s =
      (⟨m.words.getD m.given 0, decide (m.given + 1 = m.words.length)⟩,
        { s with
          channel := { s.channel with
            outgoing := giveInQueue s.channel.outgoing
            arbiter := if m.given + 1 = m.words.length then .between else .sendingLocal } }) := by
  unfold giveLocal
  rw [hu]
  rfl

theorem giveLocal_of_none (hu : unfinished s = none) :
    giveLocal s = (⟨0#32, false⟩, { s with channel := { s.channel with arbiter := .between } }) := by
  unfold giveLocal
  rw [hu]
  rfl

/-- What SENDING from LOCAL gives does not depend on the state it is entered from. -/
theorem giveLocal_arbiter (a : Arbiter) (s : State) :
    giveLocal { s with channel := { s.channel with arbiter := a } } = giveLocal s := by
  have hsame : unfinished { s with channel := { s.channel with arbiter := a } } = unfinished s := rfl
  cases hu : unfinished s with
  | none => rw [giveLocal_of_none (hsame.trans hu), giveLocal_of_none hu]
  | some m => rw [giveLocal_of_unfinished (hsame.trans hu), giveLocal_of_unfinished hu]

end Queue

/-- Settles O32: the states of the arbiter and the readiness of both sides. -/
theorem arbiterChoosesByThePassOverRule : Obligations.ArbiterChoosesByThePassOverRule := by
  unfold Obligations.ArbiterChoosesByThePassOverRule
  intro s fwd loc hfwd hloc
  have hforward : fifoReady s = fwd := hfwd.symm
  have hlocal : localReady s = loc := hloc.symm
  clear hfwd hloc
  refine ⟨?_, ?_, ?_, ?_⟩
  · rintro w rfl (hsending | ⟨hbetween, hpass⟩)
    · rw [arbiterGives_forward hsending hforward, giveForward_eq]
      simp [hsending]
    · rw [arbiterGives_between hbetween]
      cases loc with
      | false =>
        rw [chooseMessage_forward hforward hlocal, giveForward_eq]
        simp
      | true =>
        rw [chooseMessage_passes hforward hlocal (hpass.resolve_left (by decide)), giveForward_eq]
        simp [hbetween, setPassOver]
  · rintro rfl (hsending | ⟨hbetween, rfl⟩)
    · exact arbiterGives_forward_idle hsending hforward
    · exact (arbiterGives_between hbetween).trans (chooseMessage_idle hforward hlocal)
  · intro hsending
    rw [arbiterGives_local hsending]
    constructor
    · intro pre m post hqueue hpre hm
      have hu : unfinished s = some m := by
        unfold unfinished
        rw [hqueue]
        exact find_unfinished hpre hm
      rw [giveLocal_of_unfinished hu, hqueue, giveInQueue_behind hpre hm]
    · intro hdone
      exact giveLocal_of_none (List.find?_eq_none.2 fun x hx => by simpa using hdone x hx)
  · rintro hbetween rfl hturn
    have hentered : arbiterGives { s with channel := { s.channel with arbiter := .sendingLocal, passOver := 0 } } =
        giveLocal (setPassOver 0 s) :=
      (arbiterGives_local rfl).trans (giveLocal_arbiter .sendingLocal (setPassOver 0 s))
    rw [arbiterGives_between hbetween, hentered]
    exact chooseMessage_local hlocal (hturn.imp_left fun h => hforward.trans h)

end Sys2Proof.Arbiter
end

section
/-! SUPPORT. The emission report (R86, R115, R122, R126, R152), by what the oldest frames carried. -/

namespace Sys2Proof.Emission

open Sys2Proof.Machine

variable {s b : State} {f : FrameSet} {rest : List FrameSet} {m : OutgoingMessage} {ms : List OutgoingMessage}

theorem emitServiceWord_nothing (h : b.egress.sending = []) : emitServiceWord b = b := by
  unfold emitServiceWord
  rw [h]

theorem emitServiceWord_frames (h : b.egress.sending = f :: rest) :
    emitServiceWord b =
      if f.localTail then messageEmitted { b with egress := { b.egress with sending := rest } }
      else { b with egress := { b.egress with sending := rest } } := by
  unfold emitServiceWord
  rw [h]

theorem messageEmitted_nothing (h : s.channel.outgoing = []) : messageEmitted s = s := by
  unfold messageEmitted
  rw [h]

theorem messageEmitted_head (h : s.channel.outgoing = m :: ms) :
    messageEmitted s = reportTail m { s with channel := { s.channel with outgoing := ms } } := by
  unfold messageEmitted popOutgoing
  rw [h]
  rfl

theorem armChange_eq (serial : Nat) (s : State) :
    armChange serial s =
      match s.dispatcher.change with
      | some c =>
        if c.holder = .request serial then
          { s with dispatcher := { s.dispatcher with change := some { c with armed := true } } }
        else s
      | none => s := rfl

theorem withNoticeEmitted_eq (s : State) :
    { s with notices := noticeEmitted s.params.noticeWait s.notices } =
      if s.notices.copy = .queued ∧ s.notices.outstanding.isSome then
        { s with notices := { s.notices with copy := .timing, timer := some s.params.noticeWait } }
      else s := by
  unfold noticeEmitted
  split <;> rfl

/-- Settles O34: by what the oldest frames carried and, at a local TAIL, by the kind of the message. -/
theorem emissionFreesTheSlotAndIsReported : Obligations.EmissionFreesTheSlotAndIsReported := by
  unfold Obligations.EmissionFreesTheSlotAndIsReported
  intro s b hb
  have hexec : exec .serviceWordEmitted s = .next (emitServiceWord b) := by rw [← hb]; rfl
  rw [hexec]
  refine ⟨fun h => by rw [emitServiceWord_nothing h], ?_, ?_⟩
  · intro f rest hsending hno
    rw [emitServiceWord_frames hsending]
    obtain hno | hno := hno
    · rw [if_neg (by simp [hno])]
    · rw [messageEmitted_nothing (by exact hno), ite_self]
  · intro f rest m ms u hsending htail hqueue hu
    have hreport : emitServiceWord b = reportTail m u := by
      rw [emitServiceWord_frames hsending, if_pos htail, messageEmitted_head (by exact hqueue), hu]
    have hnotices : u.notices = b.notices := by rw [hu]
    have hdispatcher : u.dispatcher = b.dispatcher := by rw [hu]
    have hparams : u.params = b.params := by rw [hu]
    rw [hreport]
    refine congrArg Host.Outcome.next ?_
    unfold reportTail
    cases m.kind with
    | answer => rfl
    | notice =>
      refine (withNoticeEmitted_eq u).trans ?_
      rw [hnotices, hparams]
    | reply serial =>
      refine if_congr (by rw [hdispatcher]) ?_ ?_
      · rw [hu]
        unfold resetPart
        rw [Resets.strapAddress_eq]
        rfl
      · rw [armChange_eq, hdispatcher] <;> rfl

end Sys2Proof.Emission
end

section
/-! SUPPORT. Octets of words and numbers (R170, R171): what stands where, most significant first. -/

namespace Sys2Proof.Octets

open Sys2Proof.Machine

theorem octetAt_append_zero {w : Nat} (x : BitVec w) (y : Octet) : octetAt (x ++ y) 0 = y := by
  unfold octetAt
  ext i hi
  simp [BitVec.getElem_extractLsb', BitVec.getLsbD_append, hi]

theorem octetAt_append_succ {w : Nat} (x : BitVec w) (y : Octet) (k : Nat) :
    octetAt (x ++ y) (k + 1) = octetAt x k := by
  unfold octetAt
  ext i hi
  have hlow : ¬ 8 * (k + 1) + i < 8 := by omega
  have hindex : 8 * (k + 1) + i - 8 = 8 * k + i := by omega
  simp only [BitVec.getElem_extractLsb', BitVec.getLsbD_append, hlow, if_false, hindex]

theorem octetAt_self (x : Octet) : octetAt x 0 = x := by
  unfold octetAt
  ext i hi
  simp

theorem word4_top (a b c d : Octet) : octetAt (word4 a b c d) 3 = a :=
  (octetAt_append_succ (a ++ b ++ c) d 2).trans <| (octetAt_append_succ (a ++ b) c 1).trans <|
    (octetAt_append_succ a b 0).trans (octetAt_self a)

theorem word4_second (a b c d : Octet) : octetAt (word4 a b c d) 2 = b :=
  (octetAt_append_succ (a ++ b ++ c) d 1).trans <| (octetAt_append_succ (a ++ b) c 0).trans (octetAt_append_zero a b)

theorem word4_third (a b c d : Octet) : octetAt (word4 a b c d) 1 = c :=
  (octetAt_append_succ (a ++ b ++ c) d 0).trans (octetAt_append_zero (a ++ b) c)

theorem word4_low (a b c d : Octet) : octetAt (word4 a b c d) 0 = d := octetAt_append_zero (a ++ b ++ c) d

/-- A 16-bit value is its two octets. -/
theorem num2_octets (x : Num) : num2 (octetAt x 1) (octetAt x 0) = x := by
  unfold num2 octetAt
  ext i hi
  rw [BitVec.getElem_append]
  split
  · next h => simp [h, ← BitVec.getLsbD_eq_getElem]
  · next h =>
    have hindex : 8 + (i - 8) = i := by omega
    simp [hindex, show i - 8 < 8 by omega, ← BitVec.getLsbD_eq_getElem]

theorem num2_high (hi lo : Octet) : octetAt (num2 hi lo) 1 = hi :=
  (octetAt_append_succ hi lo 0).trans (octetAt_self hi)

theorem num2_low (hi lo : Octet) : octetAt (num2 hi lo) 0 = lo := octetAt_append_zero hi lo

/-- The two octets of a value between two others form it again. -/
theorem word4_middle (top : Octet) (x : Num) (low : Octet) :
    word4 top (octetAt x 1) (octetAt x 0) low = top ++ x ++ low := by
  have hmiddle : (top ++ octetAt x 1 ++ octetAt x 0 : BitVec 24) = top ++ num2 (octetAt x 1) (octetAt x 0) := by
    ext i hi
    simp only [num2, BitVec.getElem_append]
    split
    · simp [show i < 16 by omega]
    · next h => 
      by_cases h' : i < 16
      · simp [h', show i - 8 < 8 by omega]
      · simp [h', show ¬ i - 8 < 8 by omega, show i - 8 - 8 = i - 16 by omega]
  have hwhole : word4 top (octetAt x 1) (octetAt x 0) low = (top ++ octetAt x 1 ++ octetAt x 0 : BitVec 24) ++ low := rfl
  rw [hwhole, hmiddle, num2_octets]

/-! ### Words of three octets each -/

/-- The chunks of a list, three to one, the last filled with 00H, by their positions. -/
theorem bodyWords_eq (body : List Octet) :
    bodyWords body = (List.range ((body.length + 2) / 3)).map fun i =>
      word4 0xB2#8 (body.getD (3 * i) 0) (body.getD (3 * i + 1) 0) (body.getD (3 * i + 2) 0) := by
  induction body using bodyWords.induct with
  | case1 a b c rest ih =>
    have hlength : ((a :: b :: c :: rest).length + 2) / 3 = (rest.length + 2) / 3 + 1 := by
      simp only [List.length_cons]
      omega
    have hshift : ∀ i, 3 * (i + 1) = 3 * i + 3 := fun i => by omega
    rw [hlength, List.range_succ_eq_map, List.map_cons, List.map_map, bodyWords, ih]
    simp [Function.comp_def, hshift, bodyOctet]
  | case2 a b => simp [bodyWords, bodyOctet]
  | case3 a => simp [bodyWords, bodyOctet]
  | case4 => simp [bodyWords]

end Sys2Proof.Octets
end

section
/-! SUPPORT. Messages as they are built and read back (R104, R105, R170, R171). -/

namespace Sys2Proof.Messages

open Sys2Proof.Machine

/-! ### The check code (R171) -/

theorem crcBit_eq (r : Num) (b : Bool) :
    crcBit r b = if r.getLsbD 15 ≠ b then (r <<< 1) ^^^ 0x1021#16 else r <<< 1 := by
  have hmsb : r.msb = r.getLsbD 15 := rfl
  unfold crcBit
  rw [hmsb]
  exact if_congr (by cases r.getLsbD 15 <;> cases b <;> decide) rfl rfl

theorem crcOctet_eq (r : Num) (o : Octet) :
    crcOctet r o =
      (List.range 8).foldl
        (fun (r : Num) i => if r.getLsbD 15 ≠ o.getLsbD (7 - i) then (r <<< 1) ^^^ 0x1021#16 else r <<< 1) r := by
  have horder : [7, 6, 5, 4, 3, 2, 1, 0] = (List.range 8).map (7 - ·) := rfl
  unfold crcOctet
  rw [horder, List.foldl_map]
  simp only [crcBit_eq]

theorem checkCode_snoc (octets : List Octet) (o : Octet) :
    checkCode (octets ++ [o]) =
      (List.range 8).foldl
        (fun (r : Num) i => if r.getLsbD 15 ≠ o.getLsbD (7 - i) then (r <<< 1) ^^^ 0x1021#16 else r <<< 1)
        (checkCode octets) := by
  rw [← crcOctet_eq]
  exact List.foldl_append

/-! ### The words of a message (R104, R170) -/

theorem messageWords_eq (dest src mtype : Octet) (body : List Octet) :
    messageWords dest src mtype body =
      [0xA1#8 ++ dest ++ src ++ mtype] ++
      ((List.range ((body.length + 2) / 3)).map fun i =>
        0xB2#8 ++ body.getD (3 * i) 0 ++ body.getD (3 * i + 1) 0 ++ body.getD (3 * i + 2) 0) ++
      [0xC3#8 ++ checkCode (dest :: src :: mtype :: body) ++ BitVec.ofNat 8 ((3 - body.length % 3) % 3)] := by
  unfold messageWords
  rw [Octets.word4_middle, Octets.bodyWords_eq]
  rfl

/-! ### Reading back (R107, R108) -/

/-- The octets of a body as its BODY words carry them. -/
def padded (body : List Octet) : List Octet := body ++ List.replicate (padCount body.length) 0

theorem padCount_le (n : Nat) : padCount n ≤ 2 := by
  unfold padCount
  omega

theorem padCount_add_three (n : Nat) : padCount (n + 3) = padCount n := by
  unfold padCount
  omega

theorem padded_cons (a b c : Octet) (rest : List Octet) : padded (a :: b :: c :: rest) = a :: b :: c :: padded rest := by
  simp [padded, padCount_add_three]

theorem lessPad_padded (body : List Octet) : lessPad (padded body) (padCount body.length) = body := by
  simp [lessPad, padded]

theorem padValid_padded (body : List Octet) : padValid (padded body) (padCount body.length) = true := by
  have hle := padCount_le body.length
  cases body with
  | nil => rfl
  | cons a rest => simpa [padValid, padded] using hle

theorem octetOf_padCount (n : Nat) : (octetOf (padCount n)).toNat = padCount n := by
  have hle := padCount_le n
  simp only [octetOf, BitVec.toNat_ofNat]
  omega

theorem setParser_of_parser {p : Option OpenMessage} {s : State} (h : s.channel.parser = p) : setParser p s = s := by
  subst h
  rfl

variable {m : OpenMessage}

/-- A BODY word of a message that is not forwarded joins it (R108). -/
theorem parseWord_bodyWord (hstoring : m.storing = false) (hcount : m.count < 63) (a b c : Octet) (s : State) :
    parseWord ⟨word4 bodyOctet a b c, false⟩ (setParser (some m) s) =
      setParser (some { m with count := m.count + 1, octets := m.octets ++ [a, b, c] }) s := by
  have hkind : heardKind ⟨word4 bodyOctet a b c, false⟩ = .body :=
    Parser.heardKind_body rfl (Octets.word4_top bodyOctet a b c)
  rw [Parser.parseWord_body hkind rfl]
  unfold takeBody forwardLater stillStoring contentOctets
  rw [if_pos hcount, Octets.word4_second, Octets.word4_third, Octets.word4_low]
  simp [hstoring, setParser]

/-- The BODY words of a body join the message one after another. -/
theorem foldl_bodyWords (body : List Octet) (s : State) :
    ∀ m : OpenMessage, m.storing = false → m.count + (body.length + 2) / 3 ≤ 63 →
      (bodyWords body).foldl (fun u w => parseWord ⟨w, false⟩ u) (setParser (some m) s) =
        setParser (some { m with count := m.count + (body.length + 2) / 3, octets := m.octets ++ padded body }) s := by
  induction body using bodyWords.induct with
  | case1 a b c rest ih =>
    intro m hstoring hcount
    have hwords : ((a :: b :: c :: rest).length + 2) / 3 = (rest.length + 2) / 3 + 1 := by
      simp only [List.length_cons]
      omega
    rw [hwords] at hcount ⊢
    have hrest := ih { m with count := m.count + 1, octets := m.octets ++ [a, b, c] } hstoring
      (by rw [Nat.add_assoc, Nat.add_comm 1]; exact hcount)
    rw [bodyWords, List.foldl_cons, parseWord_bodyWord hstoring (by omega), hrest]
    simp [padded_cons, Nat.add_assoc, Nat.add_comm 1]
  | case2 a b =>
    intro m hstoring hcount
    have hlt : m.count < 63 := by simpa using hcount
    simp [bodyWords, padded, padCount, parseWord_bodyWord hstoring hlt]
  | case3 a =>
    intro m hstoring hcount
    have hlt : m.count < 63 := by simpa using hcount
    simp [bodyWords, padded, padCount, parseWord_bodyWord hstoring hlt, List.replicate_succ]
  | case4 =>
    intro m _ _
    simp [bodyWords, padded, padCount]

/-- The HEAD of a message to the part opens it under CONSUME (R106, R107). -/
theorem parseWord_headWord {s : State} (haddress : s.address ≠ 0) (hp : s.channel.parser = none) (src mtype : Octet) :
    parseWord ⟨word4 headOctet s.address src mtype, false⟩ s =
      setParser (some
        { disposition := .consume, count := 1, dest := s.address, src := src, mtype := mtype, octets := []
          storing := false }) s := by
  have hkind : heardKind ⟨word4 headOctet s.address src mtype, false⟩ = .head :=
    Parser.heardKind_head rfl (Octets.word4_top headOctet s.address src mtype)
  rw [Parser.parseWord_head_between hkind hp]
  unfold openMessage openedMessage
  simp only [Octets.word4_second, Octets.word4_third, Octets.word4_low, Parser.dispositionOf_own haddress rfl, if_true]
  simp

/-- The TAIL the part builds for a body hands on the body the BODY words carried (R108). -/
theorem parseWord_tailWord {s : State} {body : List Octet} (hm : m.disposition = .consume) (hstoring : m.storing = false)
    (hoctets : m.octets = padded body) (hp : s.channel.parser = none) :
    parseWord
        ⟨word4 tailOctet (octetAt (checkCode (m.dest :: m.src :: m.mtype :: body)) 1)
          (octetAt (checkCode (m.dest :: m.src :: m.mtype :: body)) 0) (octetOf (padCount body.length)), false⟩
        (setParser (some m) s) =
      unicastArrives
        { group := false, dest := m.dest, mtype := m.mtype, octets := body
          check := checkCode (m.dest :: m.src :: m.mtype :: body) } s := by
  generalize hcode : checkCode (m.dest :: m.src :: m.mtype :: body) = code
  have hkind : heardKind
      ⟨word4 tailOctet (octetAt code 1) (octetAt code 0) (octetOf (padCount body.length)), false⟩ = .tail :=
    Parser.heardKind_tail rfl (Octets.word4_top tailOctet _ _ _)
  have hclosed : setParser none (forwardLater m.storing
      (word4 tailOctet (octetAt code 1) (octetAt code 0) (octetOf (padCount body.length))) (setParser (some m) s)) = s := by
    rw [hstoring]
    exact setParser_of_parser hp
  rw [Parser.parseWord_tail hkind rfl]
  unfold takeTail
  rw [hclosed]
  unfold judgeMessage checkGood consumedCopy
  simp only [Octets.word4_second, Octets.word4_third, Octets.word4_low, Octets.num2_octets, octetOf_padCount, hoctets,
    lessPad_padded, padValid_padded, hcode, hm]
  simp

/-- The body of a message to the part reaches the arrival whole. -/
theorem foldl_messageWords {s : State} (haddress : s.address ≠ 0) (hp : s.channel.parser = none) (src mtype : Octet)
    {body : List Octet} (hlength : body.length ≤ 186) :
    (messageWords s.address src mtype body).foldl (fun u w => parseWord ⟨w, false⟩ u) s =
      unicastArrives
        { group := false, dest := s.address, mtype := mtype, octets := body
          check := checkCode (s.address :: src :: mtype :: body) } s := by
  have hwords : 1 + (body.length + 2) / 3 ≤ 63 := by omega
  rw [messageWords, List.foldl_cons, List.foldl_append, parseWord_headWord haddress hp, foldl_bodyWords body s _ rfl hwords,
    List.foldl_cons, List.foldl_nil]
  exact parseWord_tailWord (m := ⟨.consume, 1 + (body.length + 2) / 3, s.address, src, mtype, [] ++ padded body, false⟩)
    rfl rfl rfl hp

/-- Settles O33: a body's words are read by `parseWord_headWord`, `foldl_bodyWords` and `parseWord_tailWord`. -/
theorem messageWordsAreReadBackWhole : Obligations.MessageWordsAreReadBackWhole := by
  unfold Obligations.MessageWordsAreReadBackWhole
  have hcheck : checkCode [0x31#8, 0x32#8, 0x33#8, 0x34#8, 0x35#8, 0x36#8, 0x37#8, 0x38#8, 0x39#8] = 0x29B1#16 := by
    decide +kernel
  exact ⟨⟨rfl, checkCode_snoc, hcheck⟩, messageWords_eq,
    fun src mtype body s haddress hp hlength => foldl_messageWords haddress hp src mtype hlength⟩

end Sys2Proof.Messages
end

section
/-! SUPPORT. What items answer (R125, R128, R132): the tests that come before an item's own rule, and, kind by kind, the
statuses and the data lengths its own rule can give. -/

namespace Sys2Proof.ItemAnswers

open Sys2Proof.Machine

/-! ### The kind octets (Table 11-4) -/

/-- The octet that names a kind. -/
def kindOctet : ItemKind → Octet
  | .echo => 0x01#8 | .status => 0x02#8 | .paramRead => 0x03#8 | .paramWrite => 0x04#8 | .mapWrite => 0x05#8
  | .mapRead => 0x06#8 | .mapCopy => 0x07#8 | .commit => 0x08#8 | .commitCancel => 0x09#8 | .laneRead => 0x0A#8
  | .laneReset => 0x0B#8 | .countsClear => 0x0C#8 | .checkStart => 0x0D#8 | .checkStop => 0x0E#8
  | .checkRead => 0x0F#8 | .surveyStart => 0x10#8 | .surveyRead => 0x11#8 | .noticeAck => 0x12#8
  | .groupRead => 0x13#8 | .imageReload => 0x14#8 | .restart => 0x15#8

theorem itemKind_kindOctet (k : ItemKind) : itemKind (kindOctet k) = some k := by cases k <;> rfl

theorem eq_kindOctet {o : Octet} {k : ItemKind} (h : itemKind o = some k) : o = kindOctet k := by
  apply BitVec.eq_of_toNat_eq
  unfold itemKind at h
  split at h <;> simp_all only [reduceCtorEq, Option.some.injEq] <;> (subst h; rfl)

theorem itemKind_eq_some_iff {o : Octet} {k : ItemKind} : itemKind o = some k ↔ o = kindOctet k :=
  ⟨eq_kindOctet, fun h => h ▸ itemKind_kindOctet k⟩

theorem kindOctet_range (k : ItemKind) : 1 ≤ (kindOctet k).toNat ∧ (kindOctet k).toNat ≤ 0x15 := by
  cases k <;> decide

theorem itemKind_of_outside {o : Octet} (h : o = 0 ∨ 0x15 < o.toNat) : itemKind o = none := by
  cases hk : itemKind o with
  | none => rfl
  | some k =>
    have hrange := kindOctet_range k
    rw [← eq_kindOctet hk] at hrange
    obtain rfl | h := h
    · exact absurd hrange.1 (by decide)
    · omega

theorem itemKind_of_inside {o : Octet} (hlow : 1 ≤ o.toNat) (hhigh : o.toNat ≤ 0x15) : ∃ k, itemKind o = some k := by
  unfold itemKind
  generalize o.toNat = n at hlow hhigh
  interval_cases n <;> exact ⟨_, rfl⟩

/-! ### The tests before an item's own rule (R125, R128, R132) -/

section Tests

variable {group : Bool} {serial : Nat} {k : ItemKind} {raw : RawItem} {s : State}

theorem judgeItem_unknown (h : itemKind raw.kind = none) : judgeItem group serial raw s = fails .unknownKind s := by
  unfold judgeItem
  rw [h]

theorem judgeItem_badLength (hkind : itemKind raw.kind = some k) (hlength : lengthAllowed k raw.args.length = false) :
    judgeItem group serial raw s = fails .badArgument s := by
  unfold judgeItem
  rw [hkind]
  simp [hlength]

theorem judgeItem_barred (hkind : itemKind raw.kind = some k) (hlength : lengthAllowed k raw.args.length = true)
    (hgroup : group = true) (hbarred : permittedInGroup k = false) :
    judgeItem group serial raw s = fails .notInGroup s := by
  unfold judgeItem
  rw [hkind]
  simp [hlength, hgroup, hbarred]

end Tests

/-! ### The answers of an item's own rule -/

/-- The number of data octets an item of a kind returns when it succeeds; MAP_READ's is the run's (R128). -/
def dataLength (args : List Octet) : ItemKind → Option Nat
  | .echo => some args.length
  | .status => some 34
  | .paramRead | .commit => some 2
  | .mapRead => none
  | .laneRead => some 17
  | .checkStop => some 1
  | .checkRead => some 24
  | .surveyRead => some (if args = [0x00#8] then 22 else 40)
  | .groupRead => some 9
  | .paramWrite | .mapWrite | .mapCopy | .commitCancel | .laneReset | .countsClear | .checkStart | .surveyStart
  | .noticeAck | .imageReload | .restart => some 0

/-- What an item can answer on a state: a failure, NOT_IN_GROUP among them only where it is `barred`, with no data and the
state as it was, or success with data of a given length. -/
inductive Answer (s : State) (barred : Prop) (length : Option Nat) : ItemResult → Prop where
  | failed (st : ItemStatus) (hdone : st ≠ .done) (hstarted : st ≠ .started) (hknown : st ≠ .unknownKind)
      (hgroup : st = .notInGroup → barred) : Answer s barred length (fails st s)
  | succeeded (st : ItemStatus) (hst : st = .done ∨ st = .started) (data : List Octet) (after : State)
      (hlength : ∀ n, length = some n → data.length = n) : Answer s barred length ⟨st, data, after⟩

section Answers

variable {s : State} {barred : Prop} {length : Option Nat} {args : List Octet}

/-- A failure whose status is written out. -/
theorem Answer.failing (st : ItemStatus) (h : st ∉ [.done, .started, .unknownKind, .notInGroup]) :
    Answer s barred length (fails st s) := by
  simp only [List.mem_cons, List.not_mem_nil, or_false, not_or] at h
  obtain ⟨hdone, hstarted, hknown, hgroup⟩ := h
  exact .failed st hdone hstarted hknown fun h => absurd h hgroup

theorem Answer.reading {data : List Octet} (h : ∀ n, length = some n → data.length = n) :
    Answer s barred length (reads data s) := .succeeded _ (.inl rfl) _ _ h

theorem Answer.acting {st : ItemStatus} (hst : st = .done ∨ st = .started) (after : State) :
    Answer s barred (some 0) (acts st after) := .succeeded _ hst _ _ fun n h => by cases h; rfl

theorem Answer.mono {barred' : Prop} {r : ItemResult} (h : Answer s barred length r) (hb : barred → barred') :
    Answer s barred' length r := by
  cases h with
  | failed st hdone hstarted hknown hgroup => exact .failed st hdone hstarted hknown fun h => hb (hgroup h)
  | succeeded st hst data after hlength => exact .succeeded st hst data after hlength

/-- Of a fixed number of data octets. -/
theorem Answer.reading_of_length {data : List Octet} {n : Nat} (h : data.length = n) :
    Answer s barred (some n) (reads data s) := .reading fun m hm => by cases hm; exact h

theorem itemParamRead_answers : Answer s barred (some 2) (itemParamRead args s) := by
  unfold itemParamRead
  split
  · split
    · exact .reading_of_length rfl
    · exact .failing _ (by decide)
  · exact .failing _ (by decide)

theorem settled_failing (st : ItemStatus) (h : st ∉ [.done, .started, .unknownKind, .notInGroup]) :
    Answer s barred (some 0) (settled (st, s)) := .failing st h

theorem settled_done (after : State) : Answer s barred (some 0) (settled (.done, after)) := .acting (.inl rfl) after

theorem writeMgmtIngress_answers (serial : Nat) (l : LaneId) :
    Answer s barred (some 0) (settled (writeMgmtIngress serial l s)) := by
  unfold writeMgmtIngress
  split_ifs
  · exact settled_failing _ (by decide)
  · exact settled_done _
  · exact settled_done _
  · exact settled_failing _ (by decide)

theorem writeMgmtEgress_answers (serial : Nat) (l : LaneId) :
    Answer s barred (some 0) (settled (writeMgmtEgress serial l s)) := by
  unfold writeMgmtEgress
  split_ifs
  · exact settled_failing _ (by decide)
  · exact settled_done _
  · exact settled_done _
  · exact settled_failing _ (by decide)

theorem writeParam_answers (group : Bool) (serial : Nat) (p : Param) (v : Num) :
    Answer s (group = true) (some 0) (settled (writeParam group serial p v s)) := by
  unfold writeParam
  split
  · exact settled_failing _ (by decide)
  split
  · exact settled_failing _ (by decide)
  split
  · next hgroup =>
    exact .failed .notInGroup (by decide) (by decide) (by decide) fun _ => (Bool.and_eq_true_iff.1 hgroup).1
  split
  · split
    · exact settled_done _
    · exact settled_failing _ (by decide)
  · split
    · exact settled_done _
    · exact settled_failing _ (by decide)
  · split
    · exact writeMgmtIngress_answers serial _
    · exact settled_failing _ (by decide)
  · split
    · exact writeMgmtEgress_answers serial _
    · exact settled_failing _ (by decide)
  · exact settled_done _

theorem itemParamWrite_answers (group : Bool) (serial : Nat) :
    Answer s (group = true) (some 0) (itemParamWrite group serial args s) := by
  unfold itemParamWrite
  split
  · split
    · exact writeParam_answers group serial _ _
    · exact .failing _ (by decide)
  · exact .failing _ (by decide)

theorem itemMapWrite_answers : Answer s barred (some 0) (itemMapWrite args s) := by
  unfold itemMapWrite
  split
  · exact .failing _ (by decide)
  split
  · exact .failing _ (by decide)
  split_ifs
  · exact .failing _ (by decide)
  · exact .failing _ (by decide)
  · exact .acting (.inl rfl) _

theorem itemMapRead_answers : Answer s barred none (itemMapRead args s) := by
  unfold itemMapRead
  split
  · split
    · split
      · exact .failing _ (by decide)
      · split_ifs
        · exact .failing _ (by decide)
        · exact .reading nofun
        · exact .failing _ (by decide)
        · exact .reading nofun
    · exact .failing _ (by decide)
  · exact .failing _ (by decide)

theorem itemMapCopy_answers : Answer s barred (some 0) (itemMapCopy s) := by
  unfold itemMapCopy
  split_ifs
  · exact .failing _ (by decide)
  · exact .failing _ (by decide)
  · exact .acting (.inr rfl) _

theorem itemCommit_answers : Answer s barred (some 2) (itemCommit args s) := by
  unfold itemCommit
  split
  · exact .failing _ (by decide)
  · split_ifs
    · exact .failing _ (by decide)
    · exact .failing _ (by decide)
    · exact .succeeded _ (.inr rfl) _ _ fun n h => by cases h; rfl
    · exact .failing _ (by decide)

theorem itemCommitCancel_answers : Answer s barred (some 0) (itemCommitCancel s) := by
  unfold itemCommitCancel
  split_ifs
  · exact .acting (.inl rfl) _
  · exact .failing _ (by decide)

theorem itemLaneRead_answers : Answer s barred (some 17) (itemLaneRead args s) := by
  unfold itemLaneRead
  split
  · split
    · exact .reading_of_length rfl
    · exact .failing _ (by decide)
  · exact .failing _ (by decide)

theorem itemLaneReset_answers : Answer s barred (some 0) (itemLaneReset args s) := by
  unfold itemLaneReset
  split
  · split
    · split_ifs
      · exact .failing _ (by decide)
      · exact .acting (.inl rfl) _
    · exact .failing _ (by decide)
  · exact .failing _ (by decide)

theorem itemCountsClear_answers : Answer s barred (some 0) (itemCountsClear args s) := by
  unfold itemCountsClear
  split
  · split_ifs
    · exact .acting (.inl rfl) _
    · exact .failing _ (by decide)
  · exact .failing _ (by decide)

theorem itemCheckStart_answers : Answer s barred (some 0) (itemCheckStart args s) := by
  unfold itemCheckStart
  split
  · split
    · split_ifs
      · exact .failing _ (by decide)
      · exact .failing _ (by decide)
      · exact .failing _ (by decide)
      · exact .acting (.inr rfl) _
    · exact .failing _ (by decide)
  · exact .failing _ (by decide)

theorem itemCheckStop_answers : Answer s barred (some 1) (itemCheckStop args s) := by
  unfold itemCheckStop
  split
  · split
    · split_ifs
      · exact .succeeded _ (.inl rfl) _ _ fun n h => by cases h; rfl
      · exact .succeeded _ (.inl rfl) _ _ fun n h => by cases h; rfl
    · exact .failing _ (by decide)
  · exact .failing _ (by decide)

theorem checkData_length (k : Checker) : (checkData k).length = 24 := by
  unfold checkData
  split <;> rfl

theorem itemCheckRead_answers : Answer s barred (some 24) (itemCheckRead args s) := by
  unfold itemCheckRead
  split
  · split
    · exact .reading_of_length (checkData_length _)
    · exact .failing _ (by decide)
  · exact .failing _ (by decide)

theorem itemSurveyStart_answers : Answer s barred (some 0) (itemSurveyStart args s) := by
  unfold itemSurveyStart
  split
  · split
    · split_ifs
      · exact .failing _ (by decide)
      · exact .failing _ (by decide)
      · exact .failing _ (by decide)
      · exact .acting (.inr rfl) _
    · exact .failing _ (by decide)
  · exact .failing _ (by decide)

theorem flatMap_octets2_length (l : List Num) : (l.flatMap octets2).length = 2 * l.length := by
  induction l with
  | nil => rfl
  | cons x xs ih => simp only [List.flatMap_cons, List.length_append, List.length_cons, ih, octets2, List.length_nil]; omega

theorem surveyPage_length {first : Nat} (h : first + 20 ≤ 40) (v : Survey) : (surveyPage first v).length = 40 := by
  unfold surveyPage
  rw [flatMap_octets2_length, List.length_take, List.length_drop, v.slotErrors.size_eq]
  omega

theorem itemSurveyRead_answers :
    Answer s barred (some (if args = [0x00#8] then 22 else 40)) (itemSurveyRead args s) := by
  unfold itemSurveyRead
  rcases args with _ | ⟨sel, _ | ⟨o, more⟩⟩
  · exact .failing _ (by decide)
  · by_cases hsummary : sel = 0x00#8
    · subst hsummary
      exact .reading_of_length rfl
    · have hpage : ¬ [sel] = [0x00#8] := by simp [hsummary]
      simp only [hsummary, hpage, if_false]
      split_ifs
      · exact .reading_of_length (surveyPage_length (by decide) _)
      · exact .reading_of_length (surveyPage_length (by decide) _)
      · exact .failing _ (by decide)
  · exact .failing _ (by decide)

theorem itemNoticeAck_answers : Answer s barred (some 0) (itemNoticeAck args s) := by
  unfold itemNoticeAck
  split
  · split
    · split_ifs
      · exact .acting (.inl rfl) _
      · exact .failing _ (by decide)
    · exact .failing _ (by decide)
  · exact .failing _ (by decide)

theorem statusData_length (s : State) : (statusData s).length = 34 := by
  have hcommit : (commitOctets s.map.commit).length = 3 := by cases s.map.commit <;> rfl
  simp only [statusData, List.length_append, List.length_cons, List.length_nil, octets2, hcommit]

theorem groupData_length (g : GroupRecord) : (groupData g).length = 9 := by
  unfold groupData
  split <;> rfl

theorem itemImageReload_answers : Answer s barred (some 0) (itemImageReload s) := by
  unfold itemImageReload
  split_ifs
  · exact .failing _ (by decide)
  · exact .failing _ (by decide)
  · exact .acting (.inr rfl) _

/-- Every kind's own rule answers as R125 and R128 say; NOT_IN_GROUP only PARAM_WRITE gives, in a group copy (R137). -/
theorem runItem_answers (group : Bool) (serial : Nat) (k : ItemKind) (args : List Octet) (s : State) :
    Answer s (group = true ∧ k = .paramWrite) (dataLength args k) (runItem group serial k args s) := by
  cases k with
  | echo => exact .reading_of_length rfl
  | status => exact .reading_of_length (statusData_length s)
  | paramRead => exact itemParamRead_answers
  | paramWrite => exact (itemParamWrite_answers group serial).mono fun h => ⟨h, rfl⟩
  | mapWrite => exact itemMapWrite_answers
  | mapRead => exact itemMapRead_answers
  | mapCopy => exact itemMapCopy_answers
  | commit => exact itemCommit_answers
  | commitCancel => exact itemCommitCancel_answers
  | laneRead => exact itemLaneRead_answers
  | laneReset => exact itemLaneReset_answers
  | countsClear => exact itemCountsClear_answers
  | checkStart => exact itemCheckStart_answers
  | checkStop => exact itemCheckStop_answers
  | checkRead => exact itemCheckRead_answers
  | surveyStart => exact itemSurveyStart_answers
  | surveyRead => exact itemSurveyRead_answers
  | noticeAck => exact itemNoticeAck_answers
  | groupRead => exact .reading_of_length (groupData_length _)
  | imageReload => exact itemImageReload_answers
  | restart => exact .acting (.inl rfl) _

end Answers

/-! ### Any item -/

section Items

variable (group : Bool) (serial : Nat) (raw : RawItem) (s : State)

/-- What any item of a known kind answers. -/
theorem judgeItem_answers {k : ItemKind} (hkind : itemKind raw.kind = some k) :
    Answer s (group = true ∧ (permittedInGroup k = false ∨ k = .paramWrite)) (dataLength raw.args k)
      (judgeItem group serial raw s) := by
  by_cases hlength : lengthAllowed k raw.args.length = true
  · by_cases hpermitted : group = false ∨ permittedInGroup k = true
    · rw [ItemRuns.judgeItem_runs hkind hlength hpermitted]
      exact (runItem_answers group serial k raw.args s).mono fun h => ⟨h.1, .inr h.2⟩
    · simp only [not_or, Bool.not_eq_false, Bool.not_eq_true] at hpermitted
      obtain ⟨hgroup, hbarred⟩ := hpermitted
      rw [judgeItem_barred hkind hlength hgroup hbarred]
      exact .failed _ (by decide) (by decide) (by decide) fun _ => ⟨hgroup, .inl hbarred⟩
  · rw [judgeItem_badLength hkind (by simpa using hlength)]
    exact .failing _ (by decide)

/-- An item that fails changes nothing and returns no data (R125, R128). -/
theorem judgeItem_fails (hdone : (judgeItem group serial raw s).status ≠ .done)
    (hstarted : (judgeItem group serial raw s).status ≠ .started) :
    (judgeItem group serial raw s).after = s ∧ (judgeItem group serial raw s).data = [] := by
  cases hkind : itemKind raw.kind with
  | none =>
    rw [judgeItem_unknown hkind]
    exact ⟨rfl, rfl⟩
  | some k =>
    generalize hr : judgeItem group serial raw s = r at hdone hstarted ⊢
    have hanswer := judgeItem_answers group serial raw s hkind
    rw [hr] at hanswer
    cases hanswer with
    | failed => exact ⟨rfl, rfl⟩
    | succeeded st hst => exact (hst.elim hdone hstarted).elim

end Items

/-- Settles O37: the tests in their order, and the answers of every kind. -/
theorem everyItemIsTestedFirstAndFailsWhole : Obligations.EveryItemIsTestedFirstAndFailsWhole := by
  unfold Obligations.EveryItemIsTestedFirstAndFailsWhole
  constructor
  · rintro group serial ⟨kind, args⟩ s r n allowed permitted rfl rfl hallowed hpermitted
    refine ⟨fun houtside => judgeItem_unknown (itemKind_of_outside houtside), fun hlow hhigh => ?_⟩
    obtain ⟨k, hkind⟩ := itemKind_of_inside hlow hhigh
    have hanswer := judgeItem_answers group serial ⟨kind, args⟩ s hkind
    have hoctet := eq_kindOctet hkind
    simp only at hoctet
    subst hoctet
    have hlength : allowed = lengthAllowed k args.length := by
      rw [hallowed]
      cases k <;> simp [kindOctet, lengthAllowed]
    have hgroup : permitted = permittedInGroup k := by
      rw [hpermitted]
      cases k <;> rfl
    have hwrite : kindOctet k ≠ 0x04#8 → k ≠ .paramWrite := by
      rintro h rfl
      exact h rfl
    refine ⟨?_, fun h => judgeItem_badLength hkind (hlength.symm.trans h),
      fun h hg hp => judgeItem_barred hkind (hlength.symm.trans h) hg (hgroup.symm.trans hp), ?_⟩
    · generalize judgeItem group serial ⟨kindOctet k, args⟩ s = r at hanswer ⊢
      cases hanswer with
      | failed st hdone hstarted hknown hg => exact hknown
      | succeeded st hst => rcases hst with rfl | rfl <;> simp
    · intro hallowedHere hst
      generalize judgeItem group serial ⟨kindOctet k, args⟩ s = r at hanswer hst
      cases hanswer with
      | failed st hdone hstarted hknown hg => 
        obtain ⟨hcopy, hbarred⟩ := hg hst
        obtain hunicast | ⟨hp, hk⟩ := hallowedHere
        · exact absurd hcopy (by simp [hunicast])
        · exact hbarred.elim (fun h => absurd (hgroup.trans h) (by simp [hp])) (hwrite hk)
      | succeeded st hst' => rcases hst' with rfl | rfl <;> simp at hst
  · rintro group serial ⟨kind, args⟩ s r rfl
    refine ⟨judgeItem_fails group serial _ s, fun hst hread => ?_⟩
    cases hkind : itemKind kind with
    | none =>
      rw [judgeItem_unknown hkind] at hst
      exact absurd hst (by simp [fails])
    | some k =>
      have hanswer := judgeItem_answers group serial ⟨kind, args⟩ s hkind
      have hoctet := eq_kindOctet hkind
      subst hoctet
      generalize judgeItem group serial ⟨kindOctet k, args⟩ s = r at hst hanswer ⊢
      cases hanswer with
      | failed st hdone hstarted => exact (hst.elim hdone hstarted).elim
      | succeeded st hst data after hlength => 
        cases k with
        | mapRead => exact absurd rfl hread
        | _ => exact hlength _ rfl

end Sys2Proof.ItemAnswers
end

section
/-! SUPPORT. The items of a request in order, and the body of its reply (R125, R126, R129, R130). -/

namespace Sys2Proof.Execution

open Sys2Proof.Machine

/-! ### One item (R129) -/

theorem succeeds_iff {st : ItemStatus} : Machine.succeeds st = true ↔ st = .done ∨ st = .started := by
  unfold Machine.succeeds
  simp

theorem replyFits_eq_false {used n behind : Nat} : replyFits used n behind = false ↔ 186 < used + 3 + n + 3 * behind := by
  simp only [replyFits, Config.bodyLimit, decide_eq_false_iff_not]
  omega

variable {group : Bool} {serial used behind : Nat} {raw : RawItem} {s : State}

theorem takeItem_eq :
    takeItem group serial used behind raw s =
      if group = false ∧ ((judgeItem group serial raw s).status = .done ∨ (judgeItem group serial raw s).status = .started) ∧
          186 < used + 3 + (judgeItem group serial raw s).data.length + 3 * behind then
        { status := .tooLong, data := [], after := s }
      else judgeItem group serial raw s := by
  unfold takeItem
  refine if_congr ?_ rfl rfl
  rw [Bool.and_eq_true, Bool.and_eq_true, Bool.not_eq_true', Bool.not_eq_true', succeeds_iff, replyFits_eq_false, and_assoc]

/-- RESTART ends the request early (R126). -/
theorem goesOn_iff {r : ItemResult} :
    (Machine.succeeds r.status && !endsRequest raw r) = true ↔ (r.status = .done ∨ r.status = .started) ∧ raw.kind ≠ 0x15#8 := by
  have hkind : itemKind raw.kind = some .restart ↔ raw.kind = 0x15#8 := ItemAnswers.itemKind_eq_some_iff
  unfold endsRequest
  rw [Bool.and_eq_true, succeeds_iff]
  refine and_congr_right fun hst => ?_
  simp [succeeds_iff.2 hst, hkind]

theorem takeAll_cons {rest : List RawItem} {r : ItemResult} {after : State}
    (hr : takeItem group serial used rest.length raw s = r) (hafter : after = noticeMoment (if group then 0 else 1) r.after) :
    takeAll group serial (raw :: rest) used s =
      if (r.status = .done ∨ r.status = .started) ∧ raw.kind ≠ 0x15#8 then
        ({ kind := raw.kind, status := r.status, data := r.data } ::
            (takeAll group serial rest (used + 3 + r.data.length) after).1,
          (takeAll group serial rest (used + 3 + r.data.length) after).2)
      else
        ({ kind := raw.kind, status := r.status, data := r.data } :: rest.map fun x => { kind := x.kind, status := .skipped, data := [] },
          after) := by
  subst hr hafter
  rw [takeAll]
  exact if_congr goesOn_iff rfl rfl

/-! ### The results of all items -/

theorem takeAll_kinds (group : Bool) (serial : Nat) (items : List RawItem) :
    ∀ (used : Nat) (s : State), ((takeAll group serial items used s).1.map fun x => x.kind) = items.map fun x => x.kind := by
  induction items with
  | nil => exact fun _ _ => rfl
  | cons raw rest ih =>
    intro used s
    rw [takeAll_cons rfl rfl]
    split
    · simp [ih]
    · simp [Function.comp_def]

/-- Behind a result that fails, or of a RESTART, there are only SKIPPED items (R125, R126). -/
theorem takeAll_skips (group : Bool) (serial : Nat) (items : List RawItem) :
    ∀ (used : Nat) (s : State) (i j : Nat) (a c : ItemReport), i < j →
      (takeAll group serial items used s).1[i]? = some a → (takeAll group serial items used s).1[j]? = some c →
      ((a.status ≠ .done ∧ a.status ≠ .started) ∨ a.kind = 0x15#8) → c.status = .skipped ∧ c.data = [] := by
  induction items with
  | nil => exact fun _ _ _ _ _ _ _ h => absurd h (by simp [takeAll])
  | cons raw rest ih =>
    intro used s i j a c hij ha hc hstops
    rw [takeAll_cons rfl rfl] at ha hc
    obtain ⟨j, rfl⟩ : ∃ k, j = k + 1 := ⟨j - 1, by omega⟩
    split at ha
    · next hgoes =>
      rw [if_pos hgoes] at hc
      cases i with
      | zero =>
        obtain rfl : _ = a := by simpa using ha
        obtain ⟨hdone, hstarted⟩ | hrestart := hstops
        · exact (hgoes.1.elim hdone hstarted).elim
        · exact absurd hrestart hgoes.2
      | succ i => exact ih _ _ i j a c (by omega) (by simpa using ha) (by simpa using hc) hstops
    · next hends =>
      rw [if_neg hends] at hc
      simp only [List.getElem?_cons_succ, List.getElem?_map, Option.map_eq_some_iff] at hc
      obtain ⟨x, -, rfl⟩ := hc
      exact ⟨rfl, rfl⟩

/-! ### The length of a reply (R129) -/

/-- The octets of results in a reply. -/
def reportsLength (reports : List ItemReport) : Nat := (reports.map fun r => 3 + r.data.length).sum

theorem reportsLength_cons (r : ItemReport) (rs : List ItemReport) :
    reportsLength (r :: rs) = 3 + r.data.length + reportsLength rs := by simp [reportsLength]

theorem reportsLength_skipped (rest : List RawItem) :
    reportsLength (rest.map fun x => { kind := x.kind, status := .skipped, data := [] }) = 3 * rest.length := by
  simp [reportsLength, Function.comp_def, Nat.mul_comm]

theorem resultsBody_length (tag : Octet) (reports : List ItemReport) :
    (resultsBody tag reports).length = 3 + reportsLength reports := by
  have hflat : (reports.flatMap reportOctets).length = reportsLength reports := by
    induction reports with
    | nil => rfl
    | cons r rs ih =>
      rw [List.flatMap_cons, List.length_append, ih, reportsLength_cons]
      simp only [reportOctets, List.length_append, List.length_cons, List.length_nil]
  rw [resultsBody, List.length_append, hflat]
  rfl

/-- A unicast item that is taken fits with three octets for each item behind it. -/
theorem takeItem_fits (serial used behind : Nat) (raw : RawItem) (s : State) (h : used + 3 * (behind + 1) ≤ 186) :
    used + 3 + (takeItem false serial used behind raw s).data.length + 3 * behind ≤ 186 := by
  rw [takeItem_eq]
  split
  · simp only [List.length_nil]
    omega
  · next hfits =>
    by_cases hst : (judgeItem false serial raw s).status = .done ∨ (judgeItem false serial raw s).status = .started
    · simp only [hst, true_and, not_lt] at hfits
      exact hfits
    · obtain ⟨hdone, hstarted⟩ := not_or.1 hst
      rw [(ItemAnswers.judgeItem_fails false serial raw s hdone hstarted).2]
      simp only [List.length_nil]
      omega

theorem takeAll_fits (serial : Nat) (items : List RawItem) :
    ∀ (used : Nat) (s : State), used + 3 * items.length ≤ 186 →
      used + reportsLength (takeAll false serial items used s).1 ≤ 186 := by
  induction items with
  | nil => exact fun used s h => by simpa [takeAll, reportsLength] using h
  | cons raw rest ih =>
    intro used s h
    have hfits := takeItem_fits serial used rest.length raw s h
    rw [takeAll_cons rfl rfl]
    split
    · have hrest := ih (used + 3 + (takeItem false serial used rest.length raw s).data.length)
        (noticeMoment 1 (takeItem false serial used rest.length raw s).after) (by omega)
      rw [reportsLength_cons]
      simp only [Bool.false_eq_true, if_false]
      omega
    · rw [reportsLength_cons, reportsLength_skipped]
      simp only
      omega

/-- Settles O39: `takeAll_cons` for the order, `takeAll_skips` behind an end, `takeAll_fits` for the bound. -/
theorem itemsAreTakenInOrder : Obligations.ItemsAreTakenInOrder := by
  unfold Obligations.ItemsAreTakenInOrder
  refine ⟨?_, ?_, ?_⟩
  · rintro group serial used raw rest s after j r rfl hr hafter
    exact ⟨rfl, takeAll_cons (takeItem_eq.trans hr.symm) hafter⟩
  · rintro group serial used items s reports rfl
    exact ⟨takeAll_kinds group serial items used s, takeAll_skips group serial items used s⟩
  · intro serial items s tag hlength
    rw [resultsBody_length]
    exact takeAll_fits serial items 3 s (by omega)

end Sys2Proof.Execution
end

section
/-! SUPPORT. Requests as octets, and their execution (R114, R116, R117, R118, R130). -/

namespace Sys2Proof.RequestRuns

open Sys2Proof.Machine

/-! ### Request bodies (Table 11-1) -/

/-- The octets of an item in a request body. -/
def itemOctets (i : RawItem) : List Octet := i.kind :: BitVec.ofNat 8 i.args.length :: i.args

theorem octet_ofNat_toNat {n : Nat} (h : n ≤ 255) : (BitVec.ofNat 8 n).toNat = n := by
  simp only [BitVec.toNat_ofNat]
  omega

theorem octet_toNat_le (o : Octet) : o.toNat ≤ 255 := by
  have := o.isLt
  omega

/-- The octets read as `n` items exactly when they are the octets of `n` items. -/
theorem takeItems_iff {n : Nat} {octets : List Octet} {items : List RawItem} :
    takeItems n octets = some items ↔
      items.length = n ∧ (∀ i ∈ items, i.args.length ≤ 255) ∧ octets = items.flatMap itemOctets := by
  induction n generalizing octets items with
  | zero =>
    cases octets with
    | nil =>
      constructor
      · intro h
        obtain rfl : [] = items := Option.some.inj h
        simp
      · rintro ⟨hnone, -, -⟩
        rw [List.length_eq_zero_iff.1 hnone]
        rfl
    | cons o rest =>
      refine ⟨nofun, ?_⟩
      rintro ⟨hnone, -, hoctets⟩
      rw [List.length_eq_zero_iff.1 hnone] at hoctets
      cases hoctets
  | succ n ih =>
    constructor
    · intro h
      rcases octets with _ | ⟨k, _ | ⟨len, rest⟩⟩
      · cases h
      · cases h
      · rw [takeItems] at h
        split at h
        · next hlen =>
          obtain ⟨later, hlater, rfl⟩ := Option.map_eq_some_iff.1 h
          obtain ⟨hcount, hargs, hrest⟩ := ih.1 hlater
          have htake : (rest.take len.toNat).length = len.toNat := by simp [hlen]
          refine ⟨by simp [hcount], ?_, ?_⟩
          · intro i hi
            obtain rfl | hi := List.mem_cons.1 hi
            · exact htake.trans_le (octet_toNat_le len)
            · exact hargs i hi
          · rw [List.flatMap_cons, ← hrest]
            simp only [itemOctets, htake, BitVec.ofNat_toNat, BitVec.setWidth_eq, List.cons_append, List.take_append_drop]
        · cases h
    · rintro ⟨hcount, hargs, hoctets⟩
      obtain ⟨⟨k, args⟩, later, rfl⟩ := List.exists_cons_of_length_eq_add_one hcount
      have hlen : (BitVec.ofNat 8 args.length).toNat = args.length := octet_ofNat_toNat (hargs _ (.head _))
      have hlater : takeItems n (later.flatMap itemOctets) = some later :=
        ih.2 ⟨by simpa using hcount, fun i hi => hargs i (.tail _ hi), rfl⟩
      rw [hoctets, List.flatMap_cons]
      simp only [itemOctets, List.cons_append, takeItems, hlen, List.length_append, Nat.le_add_right, if_true,
        List.take_left', List.drop_left', hlater, Option.map_some]

theorem requestItems_iff {mtype : Octet} {body : List Octet} {items : List RawItem} :
    requestItems mtype body = some items ↔
      mtype = 0x01#8 ∧ 1 ≤ items.length ∧ items.length ≤ 16 ∧ (∀ i ∈ items, i.args.length ≤ 255) ∧
        ∃ tag, body = tag :: BitVec.ofNat 8 items.length :: items.flatMap itemOctets := by
  constructor
  · intro h
    rcases body with _ | ⟨tag, _ | ⟨count, rest⟩⟩
    · cases h
    · cases h
    · rw [requestItems] at h
      split at h
      · next htests =>
        obtain ⟨htype, hlow, hhigh⟩ := htests
        obtain ⟨hcount, hargs, hrest⟩ := takeItems_iff.1 h
        refine ⟨htype, by rwa [hcount], by rwa [hcount], hargs, tag, ?_⟩
        rw [hcount, hrest]
        simp
      · cases h
  · rintro ⟨rfl, hlow, hhigh, hargs, tag, rfl⟩
    have hcount : (BitVec.ofNat 8 items.length).toNat = items.length := octet_ofNat_toNat (by omega)
    rw [requestItems, if_pos ⟨rfl, by rwa [hcount], by rwa [hcount]⟩, hcount]
    exact takeItems_iff.2 ⟨rfl, hargs, rfl⟩

/-! ### Replies (Table 11-2) -/

theorem noneFailed_iff {reports : List ItemReport} :
    noneFailed reports = true ↔ ∀ r ∈ reports, r.status = .done ∨ r.status = .started ∨ r.status = .skipped := by
  unfold noneFailed
  simp only [List.all_eq_true, Bool.or_eq_true, Execution.succeeds_iff, decide_eq_true_iff, or_assoc]

theorem resultsBody_eq (tag : Octet) (reports : List ItemReport) :
    resultsBody tag reports =
      tag ::
        (if ∀ r ∈ reports, r.status = .done ∨ r.status = .started ∨ r.status = .skipped then 0x00#8 else 0x01#8) ::
        BitVec.ofNat 8 reports.length ::
        reports.flatMap fun r => r.kind :: statusOctet r.status :: BitVec.ofNat 8 r.data.length :: r.data := by
  unfold resultsBody overallOf
  by_cases h : noneFailed reports = true
  · rw [if_pos h, if_pos (noneFailed_iff.1 h)]
    rfl
  · rw [if_neg h, if_neg fun h' => h (noneFailed_iff.2 h')]
    rfl

/-! ### The execution of a request (R114) -/

variable {b u : State} {m : IntakeMessage} {rest : List IntakeMessage}

theorem requestDue_iff (hintake : b.channel.intake = m :: rest) :
    requestDue b = true ↔ m.group = false ∧ b.dispatcher.restart = none ∧ b.channel.outgoing.length < 4 := by
  simp [requestDue, hintake, slotFree, Config.queueDepth, and_assoc]

theorem executeRequest_idle
    (h : ∀ m rest, b.channel.intake = m :: rest →
      m.group = true ∨ b.dispatcher.restart ≠ none ∨ 4 ≤ b.channel.outgoing.length) : executeRequest b = b := by
  unfold executeRequest
  split
  · next m rest hintake =>
    refine if_neg fun hdue => ?_
    obtain ⟨hgroup, hrestart, hroom⟩ := (requestDue_iff hintake).1 hdue
    obtain h | h | h := h m rest hintake
    · simp [hgroup] at h
    · exact h hrestart
    · omega
  · rfl

theorem executeRequest_due (hintake : b.channel.intake = m :: rest) (hgroup : m.group = false)
    (hrestart : b.dispatcher.restart = none) (hroom : b.channel.outgoing.length < 4) :
    executeRequest b = answerRequest b.dispatcher.nextSerial m (beginExecution b) := by
  unfold executeRequest
  rw [hintake]
  exact if_pos ((requestDue_iff hintake).2 ⟨hgroup, hrestart, hroom⟩)

theorem beginExecution_eq (hintake : b.channel.intake = m :: rest) :
    beginExecution b =
      noticeMoment 1
        { b with
          channel := { b.channel with intake := rest }
          dispatcher := { b.dispatcher with nextSerial := b.dispatcher.nextSerial + 1 }
          notices := if b.notices.state = .stalled then
              { b.notices with state := .awaiting, retries := 0, copy := .owed false }
            else b.notices } := by
  have htail : b.channel.intake.tail = rest := by rw [hintake]; rfl
  rw [← htail]
  rfl

theorem beginExecution_loader (b : State) : (beginExecution b).loader = b.loader := by
  simp [beginExecution, reportExecution]

theorem operating_of_loading (h : u.loader.state = .loading) : operating u = false := by simp [operating, h]

theorem operating_of_loaded (h : u.loader.state ≠ .loading) : operating u = true := by simp [operating, h]

variable {serial : Nat}

theorem answerRequest_starting (h : u.loader.state = .loading) :
    answerRequest serial m u = answerBare serial m .starting u := by
  unfold answerRequest
  rw [operating_of_loading h]
  rfl

theorem answerRequest_malformed (h : u.loader.state ≠ .loading) (hitems : requestItems m.mtype m.octets = none) :
    answerRequest serial m u = answerBare serial m .malformed u := by
  unfold answerRequest
  rw [operating_of_loaded h, hitems]
  rfl

theorem answerRequest_items {items : List RawItem} (h : u.loader.state ≠ .loading)
    (hitems : requestItems m.mtype m.octets = some items) :
    answerRequest serial m u =
      answerResults serial m (takeAll false serial items 3 u).1 (takeAll false serial items 3 u).2 := by
  unfold answerRequest
  rw [operating_of_loaded h, hitems]
  rfl

/-- Settles O35: the body by `requestItems_iff`, the execution by the loader's state and the body. -/
theorem requestExecutionPlacesOneReply : Obligations.RequestExecutionPlacesOneReply := by
  unfold Obligations.RequestExecutionPlacesOneReply
  refine ⟨fun mtype body items => requestItems_iff, fun st => by cases st <;> rfl, ?_⟩
  intro s b hb
  have hexec : exec .requestExecution s = .next (executeRequest b) := by rw [← hb]; rfl
  rw [hexec]
  refine ⟨fun h => by rw [executeRequest_idle h], ?_⟩
  intro m rest u tag hintake hgroup hrestart hroom htag hu place hplace
  rw [executeRequest_due hintake hgroup hrestart hroom, beginExecution_eq hintake, ← hu]
  have hloader : u.loader = b.loader := by
    rw [hu, ← beginExecution_eq hintake]
    exact beginExecution_loader b
  rw [← hloader]
  refine ⟨fun h => ?_, fun h hitems => ?_, ?_⟩
  · rw [answerRequest_starting h, hplace, htag]
    rfl
  · rw [answerRequest_malformed h hitems, hplace, htag]
    rfl
  · intro items reports v words h hitems htaken hwords
    rw [answerRequest_items h hitems, htaken]
    have hreply : words = replyWords v.address (resultsBody (requestTag m.octets) reports) := by
      rw [hwords, resultsBody_eq, htag]
      rfl
    rw [hplace, hreply, htag]
    rfl

/-! ### The execution of a group copy (R117, R118) -/

theorem groupDue_iff (hintake : b.channel.intake = m :: rest) :
    groupDue b = true ↔ m.group = true ∧ b.dispatcher.restart = none := by
  simp [groupDue, hintake]

theorem executeGroup_idle
    (h : ∀ m rest, b.channel.intake = m :: rest → m.group = false ∨ b.dispatcher.restart ≠ none) : executeGroup b = b := by
  unfold executeGroup
  split
  · next m rest hintake =>
    refine if_neg fun hdue => ?_
    obtain ⟨hgroup, hrestart⟩ := (groupDue_iff hintake).1 hdue
    obtain h | h := h m rest hintake
    · simp [hgroup] at h
    · exact h hrestart
  · rfl

theorem executeGroup_due (hintake : b.channel.intake = m :: rest) (hgroup : m.group = true)
    (hrestart : b.dispatcher.restart = none) :
    executeGroup b = answerGroup m { b with channel := { b.channel with intake := rest } } := by
  have hpop : popIntake b = { b with channel := { b.channel with intake := rest } } := by
    unfold popIntake
    rw [hintake]
    rfl
  unfold executeGroup
  rw [hintake]
  exact (if_pos ((groupDue_iff hintake).2 ⟨hgroup, hrestart⟩)).trans (congrArg (answerGroup m) hpop)

theorem answerGroup_dropped (h : u.loader.state = .loading ∨ requestItems m.mtype m.octets = none) :
    answerGroup m u = dropGroup u := by
  unfold answerGroup
  split
  · rfl
  · next hoperating =>
    have hloaded : u.loader.state ≠ .loading := fun h => hoperating (by simp [operating_of_loading h])
    rw [h.resolve_left hloaded]

theorem answerGroup_items {items : List RawItem} (h : u.loader.state ≠ .loading)
    (hitems : requestItems m.mtype m.octets = some items) :
    answerGroup m u =
      recordGroup m u.timing.number (takeAll true u.dispatcher.nextSerial items 3 u).1
        (takeAll true u.dispatcher.nextSerial items 3 u).2 := by
  unfold answerGroup
  rw [operating_of_loaded h, hitems]
  rfl

theorem firstFailure_eq (reports : List ItemReport) :
    ∀ i, firstFailure i reports =
      ((reports.zipIdx i).find? fun p => decide (p.1.status ≠ .done ∧ p.1.status ≠ .started)).map fun p =>
        (p.2, p.1.status) := by
  induction reports with
  | nil => exact fun _ => rfl
  | cons r rs ih =>
    intro i
    rw [firstFailure, List.zipIdx_cons]
    by_cases hst : r.status = .done ∨ r.status = .started
    · rw [if_pos (Execution.succeeds_iff.2 hst), ih, List.find?_cons_of_neg]
      simpa using fun h => hst.resolve_left h
    · rw [if_neg fun h => hst (Execution.succeeds_iff.1 h), List.find?_cons_of_pos]
      · rfl
      · simpa using not_or.1 hst

/-- Settles O36: dropped, or run and recorded. -/
theorem groupCopyExecutionReplacesTheRecord : Obligations.GroupCopyExecutionReplacesTheRecord := by
  unfold Obligations.GroupCopyExecutionReplacesTheRecord
  intro s b hb
  have hexec : exec .groupCopyExecution s = .next (executeGroup b) := by rw [← hb]; rfl
  rw [hexec]
  refine ⟨fun h => by rw [executeGroup_idle h], ?_⟩
  intro m rest u hintake hgroup hrestart hu
  have hloader : u.loader = b.loader := by rw [hu]
  have hdispatcher : u.dispatcher = b.dispatcher := by rw [hu]
  rw [executeGroup_due hintake hgroup hrestart, ← hu, ← hloader, ← hdispatcher]
  refine ⟨fun h => by rw [answerGroup_dropped h]; rfl, ?_⟩
  intro items reports v h hitems htaken
  rw [answerGroup_items h hitems, htaken]
  refine ⟨_, rfl, rfl, rfl, rfl, rfl, ?_, firstFailure_eq reports 1⟩
  exact List.countP_eq_length_filter

end Sys2Proof.RequestRuns
end

section
/-! SUPPORT. The reading items (R135 to R146): parameter identifiers, tables read in order, and the octets returned. -/

namespace Sys2Proof.ReadItems

open Sys2Proof.Machine

/-! ### Parameter identifiers (Table 8-3) -/

/-- The identifier of a parameter. -/
def identifier : Param → Octet
  | .deviceAddress => 1#8 | .timingPrimary => 2#8 | .timingSecondary => 3#8 | .timingRevert => 4#8
  | .qualifyFrames => 5#8 | .refinMiss => 6#8 | .mgmtIngress => 7#8 | .mgmtEgress => 8#8 | .ingressEnable => 9#8
  | .egressEnable => 10#8 | .confirmCount => 11#8 | .missLimit => 12#8 | .noticeMask => 13#8 | .noticeWait => 14#8
  | .noticeRetries => 15#8 | .group i => BitVec.ofNat 8 (16 + i.val) | .genKind g => BitVec.ofNat 8 (20 + g.val)

theorem paramOf_identifier (p : Param) : paramOf (identifier p) = some p := by
  cases p with
  | group i => fin_cases i <;> rfl
  | genKind g => fin_cases g <;> rfl
  | _ => rfl

theorem eq_identifier {o : Octet} {p : Param} (h : paramOf o = some p) : o = identifier p := by
  apply BitVec.eq_of_toNat_eq
  unfold paramOf at h
  split at h <;> simp_all only [reduceCtorEq, Option.some.injEq] <;> (subst h; rfl)

theorem paramOf_of_outside {o : Octet} (h : o = 0 ∨ 23 < o.toNat) : paramOf o = none := by
  have hnat : o.toNat = 0 ∨ 23 < o.toNat := h.imp_left (by rintro rfl; rfl)
  unfold paramOf
  split
  case h_24 => rfl
  all_goals omega

theorem paramOf_of_inside {o : Octet} (hlow : 1 ≤ o.toNat) (hhigh : o.toNat ≤ 23) : ∃ p, paramOf o = some p := by
  unfold paramOf
  generalize o.toNat = n at hlow hhigh
  interval_cases n <;> exact ⟨_, rfl⟩

theorem paramOf_cases (o : Octet) :
    ((o = 0 ∨ 23 < o.toNat) ∧ paramOf o = none) ∨ (¬ (o = 0 ∨ 23 < o.toNat) ∧ ∃ p, paramOf o = some p) := by
  by_cases h : o = 0 ∨ 23 < o.toNat
  · exact .inl ⟨h, paramOf_of_outside h⟩
  · have h0 : o.toNat ≠ 0 := fun h0 => h (.inl (BitVec.eq_of_toNat_eq h0))
    exact .inr ⟨h, paramOf_of_inside (by omega) (by omega)⟩

/-! ### Numbers within a range -/

theorem quadOf_of_eq {o : Octet} {c : Fin 4} (h : o.toNat = c.val) : quadOf o = some c := by
  unfold quadOf
  rw [dif_pos (by rw [h]; exact c.isLt)]
  simp [h]

theorem quadOf_of_ge {o : Octet} (h : 4 ≤ o.toNat) : quadOf o = none := by
  unfold quadOf
  rw [dif_neg (by omega)]

/-! ### Tables read in order -/

theorem toList_eq_map {n : Nat} {α : Type} (t : Tab n α) : t.toList = (List.finRange n).map t.get := by
  apply List.ext_getElem
  · simp [t.size_eq]
  · intro i h₁ h₂
    simp [Tab.get]

theorem surveyPage_first (v : Survey) :
    surveyPage 0 v = ((List.finRange 40).take 20).flatMap fun slot => octets2 (v.slotErrors.get slot) := by
  rw [surveyPage, toList_eq_map, List.drop_zero, ← List.map_take, List.flatMap_map]

theorem surveyPage_second (v : Survey) :
    surveyPage 20 v = ((List.finRange 40).drop 20).flatMap fun slot => octets2 (v.slotErrors.get slot) := by
  rw [surveyPage, toList_eq_map, ← List.map_drop, List.take_of_length_le (by simp), List.flatMap_map]

theorem deviceOctet_eq (s : State) :
    deviceOctet (operating s) = if s.loader.state = .loading then 0x00#8 else 0x01#8 := by
  unfold deviceOctet operating
  by_cases h : s.loader.state = .loading <;> simp [h]

/-! ### The reading items -/

section Reads

variable {serial : Nat} {s : State}

theorem judgeItem_status : judgeItem false serial ⟨0x02#8, []⟩ s = reads (statusData s) s :=
  ItemRuns.judgeItem_runs (k := .status) rfl rfl (.inl rfl) serial s

theorem judgeItem_paramRead (i : Octet) : judgeItem false serial ⟨0x03#8, [i]⟩ s = itemParamRead [i] s :=
  ItemRuns.judgeItem_runs (k := .paramRead) (raw := ⟨0x03#8, [i]⟩) rfl rfl (.inl rfl) serial s

theorem judgeItem_laneRead (o : Octet) : judgeItem false serial ⟨0x0A#8, [o]⟩ s = itemLaneRead [o] s :=
  ItemRuns.judgeItem_runs (k := .laneRead) (raw := ⟨0x0A#8, [o]⟩) rfl rfl (.inl rfl) serial s

theorem judgeItem_checkRead (o : Octet) : judgeItem false serial ⟨0x0F#8, [o]⟩ s = itemCheckRead [o] s :=
  ItemRuns.judgeItem_runs (k := .checkRead) (raw := ⟨0x0F#8, [o]⟩) rfl rfl (.inl rfl) serial s

theorem judgeItem_surveyRead (o : Octet) : judgeItem false serial ⟨0x11#8, [o]⟩ s = itemSurveyRead [o] s :=
  ItemRuns.judgeItem_runs (k := .surveyRead) (raw := ⟨0x11#8, [o]⟩) rfl rfl (.inl rfl) serial s

theorem judgeItem_groupRead : judgeItem false serial ⟨0x13#8, []⟩ s = reads (groupData s.channel.group) s :=
  ItemRuns.judgeItem_runs (k := .groupRead) rfl rfl (.inl rfl) serial s

theorem itemParamRead_known {i : Octet} {p : Param} (h : paramOf i = some p) :
    itemParamRead [i] s = reads (octets2 (paramValue s p)) s := by
  unfold itemParamRead
  simp only [h]

theorem itemParamRead_unknown {i : Octet} (h : paramOf i = none) : itemParamRead [i] s = fails .badArgument s := by
  unfold itemParamRead
  simp only [h]

theorem itemLaneRead_lane {o : Octet} {l : LaneId} (h : laneOf o = some l) :
    itemLaneRead [o] s = reads (laneData (s.lanes.get l) (s.stores.get l)) s := by
  unfold itemLaneRead
  simp only [h]

theorem itemLaneRead_none {o : Octet} (h : laneOf o = none) : itemLaneRead [o] s = fails .outOfRange s := by
  unfold itemLaneRead
  simp only [h]

theorem itemCheckRead_checker {o : Octet} {c : CheckerId} (h : quadOf o = some c) :
    itemCheckRead [o] s = reads (checkData (s.checkers.get c)) s := by
  unfold itemCheckRead
  simp only [h]

theorem itemCheckRead_none {o : Octet} (h : quadOf o = none) : itemCheckRead [o] s = fails .outOfRange s := by
  unfold itemCheckRead
  simp only [h]

theorem itemSurveyRead_unknown {sel : Octet} (h : 3 ≤ sel.toNat) : itemSurveyRead [sel] s = fails .badArgument s := by
  have hne : ∀ {o : Octet}, o.toNat < 3 → sel ≠ o := by
    rintro o ho rfl
    omega
  unfold itemSurveyRead
  simp only [hne (o := 0x00#8) (by decide), hne (o := 0x01#8) (by decide), hne (o := 0x02#8) (by decide), if_false]

end Reads

/-- Settles O38: each reading item by its own rule, field by field. -/
theorem readItemsReturnTheirFields : Obligations.ReadItemsReturnTheirFields := by
  unfold Obligations.ReadItemsReturnTheirFields
  intro serial s item data failed two four hitem hdata hfailed htwo hfour
  obtain rfl : two = octets2 := funext htwo
  obtain rfl : four = octets4 := funext hfour
  obtain rfl : data = fun octets => reads octets s := funext hdata
  obtain rfl : failed = fun st => fails st s := funext hfailed
  refine ⟨?_, ?_, ?_, ?_, ?_, ?_⟩
  · rw [hitem, judgeItem_status, statusData, deviceOctet_eq]
    rfl
  · intro i
    rw [hitem, judgeItem_paramRead]
    obtain ⟨houtside, hnone⟩ | ⟨hinside, p, hp⟩ := paramOf_cases i
    · rw [if_pos houtside, itemParamRead_unknown hnone]
    · rw [if_neg hinside, itemParamRead_known hp]
      obtain rfl := eq_identifier hp
      cases p with
      | group i => fin_cases i <;> rfl
      | genKind g => fin_cases g <;> rfl
      | _ => rfl
  · intro o
    refine ⟨fun h => ?_, ?_⟩
    · rw [hitem, judgeItem_laneRead, itemLaneRead_none (ItemRuns.laneOf_of_ge h)]
    · rintro l hl r st rfl rfl
      rw [hitem, judgeItem_laneRead, itemLaneRead_lane (ItemRuns.laneOf_of_eq hl)]
      rfl
  · intro o
    refine ⟨fun h => ?_, ?_⟩
    · rw [hitem, judgeItem_checkRead, itemCheckRead_none (quadOf_of_ge h)]
    · rintro c hc k rfl
      rw [hitem, judgeItem_checkRead, itemCheckRead_checker (quadOf_of_eq hc), checkData]
      obtain _ | ⟨kind, inverted⟩ := (s.checkers.get c).detected <;>
        obtain _ | (_ | _ | _ | _ | _) := (s.checkers.get c).result <;> rfl
  · rintro v rfl
    simp only [hitem, judgeItem_surveyRead]
    refine ⟨rfl, ?_, ?_, fun sel h => itemSurveyRead_unknown h⟩
    · rw [← surveyPage_first]
      rfl
    · rw [← surveyPage_second]
      rfl
  · rintro g rfl
    rw [hitem, judgeItem_groupRead, groupData]
    rcases s.channel.group.firstFailure with _ | ⟨i, st⟩ <;> rfl

end Sys2Proof.ReadItems
end

section
/-! SUPPORT. Map entries as octets and as runs (R53, R57, R58, Table 11-6): what is read from which octets, which entries
are in range, and what a run of a bank holds. -/

namespace Sys2Proof.MapEntries

open Sys2Proof.Machine

/-! ### The encoding of entries (Table 11-6) -/

theorem word4_octets (w : Word) : word4 (octetAt w 3) (octetAt w 2) (octetAt w 1) (octetAt w 0) = w := by
  unfold word4 octetAt
  ext i hi
  simp only [BitVec.getElem_append]
  split
  · simp [*, ← BitVec.getLsbD_eq_getElem]
  split
  · simp [show 8 + (i - 8) = i by omega, show i - 8 < 8 by omega, ← BitVec.getLsbD_eq_getElem]
  split
  · simp [show 16 + (i - 8 - 8) = i by omega, show i - 8 - 8 < 8 by omega, ← BitVec.getLsbD_eq_getElem]
  · simp [show 24 + (i - 8 - 8 - 8) = i by omega, show i - 8 - 8 - 8 < 8 by omega, ← BitVec.getLsbD_eq_getElem]

theorem octets4_word4 (a b c d : Octet) : octets4 (word4 a b c d) = [a, b, c, d] := by
  rw [octets4, Octets.word4_top, Octets.word4_second, Octets.word4_third, Octets.word4_low]

/-- The octets of a loss action in a LANE entry, its fill word behind it. -/
def lossOctets : LossAction → List Octet
  | .fill w => 0x00#8 :: octets4 w
  | .hold => [0x01#8]
  | .pass => [0x02#8]

/-- The octets of an entry whose ranges are not tested. -/
def rawOctets : RawEntry → List Octet
  | .fill w => 0x01#8 :: octets4 w
  | .lane l t loss => 0x02#8 :: l :: t :: lossOctets loss
  | .gen g => [0x03#8, g]

/-- An entry as its octets give it. -/
def rawOf : Entry → RawEntry
  | .fill w => .fill w
  | .lane l t loss => .lane (octetOf l.val) (octetOf t.val) loss
  | .gen g => .gen (octetOf g.val)

theorem encodeEntry_eq (e : Entry) : encodeEntry e = rawOctets (rawOf e) := by
  cases e with
  | fill w => rfl
  | lane l t loss => cases loss <;> rfl
  | gen g => rfl

/-! ### Reading entries -/

theorem takeFill_iff {octets rest : List Octet} {w : Word} :
    takeFill octets = some (w, rest) ↔ octets = octets4 w ++ rest := by
  constructor
  · intro h
    rcases octets with _ | ⟨a, _ | ⟨b, _ | ⟨c, _ | ⟨d, more⟩⟩⟩⟩
    case cons.cons.cons.cons =>
      obtain ⟨rfl, rfl⟩ := Prod.mk.inj (Option.some.inj h)
      rw [octets4_word4]
      rfl
    all_goals cases h
  · rintro rfl
    simp [octets4, takeFill, word4_octets]

theorem takeLoss_iff {action : Octet} {octets rest : List Octet} {loss : LossAction} :
    takeLoss action octets = some (loss, rest) ↔ action :: octets = lossOctets loss ++ rest := by
  constructor
  · intro h
    unfold takeLoss at h
    split_ifs at h with hfill hhold hpass
    · obtain ⟨⟨w, r⟩, hw, heq⟩ := Option.map_eq_some_iff.1 h
      obtain ⟨rfl, rfl⟩ := Prod.mk.inj heq
      rw [takeFill_iff.1 hw, hfill]
      rfl
    · obtain ⟨rfl, rfl⟩ := Prod.mk.inj (Option.some.inj h)
      rw [hhold]
      rfl
    · obtain ⟨rfl, rfl⟩ := Prod.mk.inj (Option.some.inj h)
      rw [hpass]
      rfl
  · intro h
    cases loss with
    | fill w =>
      obtain ⟨rfl, rfl⟩ := List.cons.inj h
      have hword : takeFill ((octets4 w).append rest) = some (w, rest) := takeFill_iff.2 rfl
      unfold takeLoss
      rw [if_pos rfl, hword]
      rfl
    | hold =>
      obtain ⟨rfl, rfl⟩ := List.cons.inj h
      rfl
    | pass =>
      obtain ⟨rfl, rfl⟩ := List.cons.inj h
      rfl

/-- An entry is read from the octets exactly when they begin with its encoding. -/
theorem takeEntry_iff {octets rest : List Octet} {e : RawEntry} :
    takeEntry octets = some (e, rest) ↔ octets = rawOctets e ++ rest := by
  constructor
  · intro h
    rcases octets with _ | ⟨k, octets⟩
    · cases h
    rw [takeEntry.eq_def] at h
    dsimp only at h
    split_ifs at h with hfill hlane hgen
    · obtain ⟨⟨w, r⟩, hw, heq⟩ := Option.map_eq_some_iff.1 h
      obtain ⟨rfl, rfl⟩ := Prod.mk.inj heq
      rw [takeFill_iff.1 hw, hfill]
      rfl
    · rcases octets with _ | ⟨l, _ | ⟨t, _ | ⟨action, octets⟩⟩⟩
      case cons.cons.cons =>
        obtain ⟨⟨loss, r⟩, hloss, heq⟩ := Option.map_eq_some_iff.1 h
        obtain ⟨rfl, rfl⟩ := Prod.mk.inj heq
        rw [takeLoss_iff.1 hloss, hlane]
        rfl
      all_goals cases h
    · rcases octets with _ | ⟨g, octets⟩
      · cases h
      · obtain ⟨rfl, rfl⟩ := Prod.mk.inj (Option.some.inj h)
        rw [hgen]
        rfl
  · rintro rfl
    cases e with
    | fill w =>
      have hword : takeFill (octets4 w ++ rest) = some (w, rest) := takeFill_iff.2 rfl
      simp [rawOctets, takeEntry, hword]
    | lane l t loss =>
      obtain ⟨action, more, hloss⟩ : ∃ action more, lossOctets loss ++ rest = action :: more := by cases loss <;> exact ⟨_, _, rfl⟩
      have htaken : takeLoss action more = some (loss, rest) := takeLoss_iff.2 hloss.symm
      simp [rawOctets, takeEntry, hloss, htaken]
    | gen g => rfl

theorem takeEntries_iff {n : Nat} {octets : List Octet} {es : List RawEntry} :
    takeEntries n octets = some es ↔ es.length = n ∧ octets = es.flatMap rawOctets := by
  induction n generalizing octets es with
  | zero =>
    rcases octets with _ | ⟨o, rest⟩
    · constructor
      · intro h
        obtain rfl := Option.some.inj h
        exact ⟨rfl, rfl⟩
      · rintro ⟨hnone, -⟩
        rw [List.length_eq_zero_iff.1 hnone]
        rfl
    · refine ⟨nofun, ?_⟩
      rintro ⟨hnone, hoctets⟩
      rw [List.length_eq_zero_iff.1 hnone] at hoctets
      cases hoctets
  | succ n ih =>
    constructor
    · intro h
      rw [takeEntries] at h
      split at h
      · next e rest he =>
        obtain ⟨later, hlater, rfl⟩ := Option.map_eq_some_iff.1 h
        obtain ⟨hcount, hrest⟩ := ih.1 hlater
        refine ⟨by simp [hcount], ?_⟩
        rw [takeEntry_iff.1 he, hrest, List.flatMap_cons]
      · cases h
    · rintro ⟨hcount, rfl⟩
      obtain ⟨e, later, rfl⟩ := List.exists_cons_of_length_eq_add_one hcount
      have he : takeEntry (rawOctets e ++ later.flatMap rawOctets) = some (e, later.flatMap rawOctets) :=
        takeEntry_iff.2 rfl
      have hlater : takeEntries n (later.flatMap rawOctets) = some later := ih.2 ⟨by simpa using hcount, rfl⟩
      rw [takeEntries, List.flatMap_cons, he]
      simp [hlater]

theorem rawRun_iff {l f n : Octet} {octets : List Octet} {r : RawRun} :
    rawRun (l :: f :: n :: octets) = some r ↔
      ∃ es : List RawEntry, es.length = n.toNat ∧ octets = es.flatMap rawOctets ∧ r = ⟨l, f, n, es⟩ := by
  rw [rawRun, Option.map_eq_some_iff]
  constructor
  · rintro ⟨es, hes, rfl⟩
    obtain ⟨hcount, hoctets⟩ := takeEntries_iff.1 hes
    exact ⟨es, hcount, hoctets, rfl⟩
  · rintro ⟨es, hcount, hoctets, rfl⟩
    exact ⟨es, takeEntries_iff.2 ⟨hcount, hoctets⟩, rfl⟩

/-! ### Ranges (second test of R57) -/

theorem octetOf_val_toNat {n : Nat} (i : Fin n) (hn : n ≤ 256) : (octetOf i.val).toNat = i.val := by
  have := i.isLt
  simp only [octetOf, BitVec.toNat_ofNat]
  omega

theorem laneOf_octetOf (l : LaneId) : laneOf (octetOf l.val) = some l :=
  ItemRuns.laneOf_of_eq (octetOf_val_toNat l (by decide))

theorem slotOf_octetOf (t : SlotId) : slotOf (octetOf t.val) = some t := by
  have h := octetOf_val_toNat t (by decide)
  unfold slotOf
  rw [dif_pos (by rw [h]; exact t.isLt)]
  simp [h]

theorem quadOf_octetOf (g : Fin 4) : quadOf (octetOf g.val) = some g :=
  ReadItems.quadOf_of_eq (octetOf_val_toNat g (by decide))

/-- The source lane, source slot and generator of an entry are in range (R53). -/
def entryInRange : RawEntry → Prop
  | .fill _ => True
  | .lane l t _ => l.toNat < 16 ∧ t.toNat < 40
  | .gen g => g.toNat < 4

theorem checkEntry_rawOf (e : Entry) : checkEntry (rawOf e) = some e := by
  cases e with
  | fill w => rfl
  | lane l t loss =>
    simp only [rawOf, checkEntry, laneOf_octetOf, slotOf_octetOf]
  | gen g =>
    simp only [rawOf, checkEntry, quadOf_octetOf, Option.map_some]

theorem checkEntry_isSome_iff {e : RawEntry} : (checkEntry e).isSome ↔ entryInRange e := by
  cases e with
  | fill w => simp [checkEntry, entryInRange]
  | lane l t loss =>
    unfold checkEntry entryInRange laneOf slotOf
    by_cases hl : l.toNat < 16 <;> by_cases ht : t.toNat < 40 <;> simp [hl, ht]
  | gen g =>
    unfold checkEntry entryInRange quadOf
    by_cases hg : g.toNat < 4 <;> simp [hg]

theorem checkEntries_map_rawOf (es : List Entry) : checkEntries (es.map rawOf) = some es := by
  induction es with
  | nil => rfl
  | cons e es ih => simp only [List.map_cons, checkEntries, checkEntry_rawOf, ih]

theorem checkEntries_isSome_iff {es : List RawEntry} : (checkEntries es).isSome ↔ ∀ e ∈ es, entryInRange e := by
  induction es with
  | nil => simp [checkEntries]
  | cons e es ih =>
    rw [List.forall_mem_cons, ← ih, ← checkEntry_isSome_iff, checkEntries]
    cases checkEntry e <;> cases checkEntries es <;> simp

theorem slotsInRange_iff {first count : Octet} :
    slotsInRange first count = true ↔
      first.toNat < 40 ∧ 1 ≤ count.toNat ∧ count.toNat ≤ 40 ∧ first.toNat + count.toNat ≤ 40 := by
  simp [slotsInRange, and_assoc]

theorem laneOf_isSome_iff {o : Octet} : (laneOf o).isSome ↔ o.toNat < 16 := by
  unfold laneOf
  by_cases h : o.toNat < 16 <;> simp [h]

theorem checkRun_isSome_iff {r : RawRun} :
    (checkRun r).isSome ↔
      (r.lane.toNat < 16 ∧ r.first.toNat < 40 ∧ 1 ≤ r.count.toNat ∧ r.count.toNat ≤ 40 ∧
        r.first.toNat + r.count.toNat ≤ 40) ∧ ∀ e ∈ r.entries, entryInRange e := by
  rw [← laneOf_isSome_iff, ← slotsInRange_iff, ← checkEntries_isSome_iff, checkRun]
  cases laneOf r.lane <;> cases checkEntries r.entries <;> cases slotsInRange r.first r.count <;> simp

theorem checkRun_rawOf {lane : LaneId} {first count : Octet} (entries : List Entry)
    (hslots : slotsInRange first count = true) :
    checkRun ⟨octetOf lane.val, first, count, entries.map rawOf⟩ = some ⟨lane, first.toNat, entries⟩ := by
  simp [checkRun, laneOf_octetOf, checkEntries_map_rawOf, hslots]

/-! ### Runs of a bank (R57, R58) -/

theorem writeRun_get (r : Run) (bank : Bank) (k : LaneId) (slot : SlotId) :
    ((writeRun r bank).get k).get slot =
      if k = r.lane ∧ r.first ≤ slot.val then (r.entries[slot.val - r.first]?).getD ((bank.get k).get slot)
      else (bank.get k).get slot := by
  unfold writeRun
  rw [Tab.get_set]
  by_cases hk : k = r.lane
  · subst hk
    simp
  · simp [hk]

/-- A run that was written, entry by entry. -/
theorem writeRun_entry {r : Run} {bank : Bank} {slot : SlotId} (h : r.first ≤ slot.val)
    (hlt : slot.val - r.first < r.entries.length) :
    ((writeRun r bank).get r.lane).get slot = r.entries[slot.val - r.first] := by
  rw [writeRun_get, if_pos ⟨rfl, h⟩, List.getElem?_eq_getElem hlt, Option.getD_some]

theorem writeRun_of_outside {r : Run} {bank : Bank} {k : LaneId} {slot : SlotId}
    (h : ¬ (k = r.lane ∧ r.first ≤ slot.val ∧ slot.val - r.first < r.entries.length)) :
    ((writeRun r bank).get k).get slot = (bank.get k).get slot := by
  rw [writeRun_get]
  split
  · next hin =>
    have hnone : r.entries[slot.val - r.first]? = none :=
      List.getElem?_eq_none (Nat.not_lt.1 fun hlt => h ⟨hin.1, hin.2, hlt⟩)
    rw [hnone, Option.getD_none]
  · rfl

/-- Reading the run that was written gives its entries. -/
theorem readRun_writeRun {r : Run} {bank : Bank} (h : r.first + r.entries.length ≤ 40) :
    readRun (writeRun r bank) r.lane r.first r.entries.length = r.entries := by
  have hsize := ((writeRun r bank).get r.lane).size_eq
  unfold readRun
  apply List.ext_getElem
  · rw [List.length_take, List.length_drop, hsize]
    omega
  · intro i _ hi
    rw [List.getElem_take, List.getElem_drop]
    have hentry := writeRun_entry (r := r) (bank := bank) (slot := ⟨r.first + i, by omega⟩) (by simp) (by simpa using hi)
    simpa [Tab.get] using hentry

/-- The numbers below `n` from `first` on, `count` of them. -/
theorem range_window {n first count : Nat} (h : first + count ≤ n) :
    ((List.range n).drop first).take count =
      (List.range n).filter fun t => decide (first ≤ t) && decide (t < first + count) := by
  obtain ⟨rest, rfl⟩ := Nat.exists_eq_add_of_le h
  have hsplit : List.range (first + count + rest) =
      (List.range' 0 first ++ List.range' first count) ++ List.range' (first + count) rest := by
    rw [List.range_eq_range', ← List.range'_append_1, ← List.range'_append_1, Nat.zero_add, Nat.zero_add]
  have hlow : (List.range' 0 first).filter (fun t => decide (first ≤ t) && decide (t < first + count)) = [] := by
    rw [List.filter_eq_nil_iff]
    intro t ht
    simp only [List.mem_range'_1] at ht
    simp
    omega
  have hmiddle : (List.range' first count).filter (fun t => decide (first ≤ t) && decide (t < first + count)) =
      List.range' first count := by
    rw [List.filter_eq_self]
    intro t ht
    simp only [List.mem_range'_1] at ht
    simp [ht]
  have hhigh : (List.range' (first + count) rest).filter (fun t => decide (first ≤ t) && decide (t < first + count)) = [] := by
    rw [List.filter_eq_nil_iff]
    intro t ht
    simp only [List.mem_range'_1] at ht
    simp
    omega
  rw [hsplit, List.filter_append, List.filter_append, hlow, hmiddle, hhigh]
  simp

/-- The slots from `first` on, `count` of them. -/
theorem finRange_window {n first count : Nat} (h : first + count ≤ n) :
    ((List.finRange n).drop first).take count =
      (List.finRange n).filter fun t => decide (first ≤ t.val) && decide (t.val < first + count) := by
  apply List.map_injective_iff.2 Fin.val_injective
  have hfilter : ((List.finRange n).filter fun t => decide (first ≤ t.val) && decide (t.val < first + count)).map Fin.val =
      (List.range n).filter fun t => decide (first ≤ t) && decide (t < first + count) := by
    rw [← List.map_coe_finRange_eq_range, List.filter_map]
    rfl
  rw [hfilter, List.map_take, List.map_drop, List.map_coe_finRange_eq_range, range_window h]

theorem readRun_eq {b : Bank} {l : LaneId} {first count : Nat} (h : first + count ≤ 40) :
    readRun b l first count =
      ((List.finRange 40).filter fun t => decide (first ≤ t.val) && decide (t.val < first + count)).map (b.get l).get := by
  rw [readRun, ReadItems.toList_eq_map, ← List.map_drop, ← List.map_take, finRange_window h]

end Sys2Proof.MapEntries
end

section
/-! SUPPORT. The items that touch the map: their claims on the SHADOW bank and their tests in order (R57 to R68). -/

namespace Sys2Proof.MapItems

open Sys2Proof.Machine

variable {group : Bool} {serial : Nat} {s : State} {args : List Octet} {raw : RawRun} {run : Run}

/-! ### What claims the SHADOW bank (R65) -/

theorem commitPending_iff : commitPending s = true ↔ s.map.commit ≠ .none := by simp [commitPending]

theorem shadowBusy_iff : shadowBusy s = true ↔ (s.map.copy.isSome ∨ s.loader.state = .reloading) := by
  simp [shadowBusy, copying, reloading]

/-- What refuses an item that needs the SHADOW bank (R62, R65). -/
def refusal (s : State) : Option ItemStatus :=
  if s.map.commit ≠ .none then some .pending
  else if s.map.copy.isSome ∨ s.loader.state = .reloading then some .busy else none

/-- The two claim tests of an item before what it does. -/
theorem claimTests_eq (t : ItemResult) :
    (if commitPending s then fails .pending s else if shadowBusy s then fails .busy s else t) =
      match refusal s with
      | some st => fails st s
      | none => t := by
  unfold refusal
  by_cases hpending : commitPending s = true
  · rw [if_pos hpending, if_pos (commitPending_iff.1 hpending)]
  · rw [if_neg hpending, if_neg fun h => hpending (commitPending_iff.2 h)]
    by_cases hbusy : shadowBusy s = true
    · rw [if_pos hbusy, if_pos (shadowBusy_iff.1 hbusy)]
    · rw [if_neg hbusy, if_neg fun h => hbusy (shadowBusy_iff.2 h)]

theorem claimTests_refused {st : ItemStatus} (h : refusal s = some st) (t : ItemResult) :
    (if commitPending s then fails .pending s else if shadowBusy s then fails .busy s else t) = fails st s := by
  rw [claimTests_eq, h]

theorem claimTests_free (h : refusal s = none) (t : ItemResult) :
    (if commitPending s then fails .pending s else if shadowBusy s then fails .busy s else t) = t := by
  rw [claimTests_eq, h]

theorem claims_eq_zero_iff :
    claims s = 0 ↔ copying s.map = false ∧ commitPending s = false ∧ reloading s = false := by
  simp [claims, and_assoc]

theorem refusal_of_noClaims (h : claims s = 0) : refusal s = none := by
  obtain ⟨hcopy, hpending, hreloading⟩ := claims_eq_zero_iff.1 h
  have hbusy : shadowBusy s = false := by simp [shadowBusy, hcopy, hreloading]
  unfold refusal
  rw [if_neg fun h => by simp [commitPending_iff.2 h] at hpending, if_neg fun h => by simp [shadowBusy_iff.2 h] at hbusy]

/-! ### MAP_WRITE (R57) -/

theorem judgeItem_mapWrite (lane first count : Octet) (octets : List Octet) :
    judgeItem group serial ⟨0x05#8, lane :: first :: count :: octets⟩ s =
      itemMapWrite (lane :: first :: count :: octets) s :=
  ItemRuns.judgeItem_runs (k := .mapWrite) (raw := ⟨0x05#8, lane :: first :: count :: octets⟩) rfl
    (by simp [lengthAllowed]) (.inr rfl) serial s

theorem itemMapWrite_unreadable (h : rawRun args = none) : itemMapWrite args s = fails .badArgument s := by
  unfold itemMapWrite
  rw [h]

theorem itemMapWrite_outOfRange (h : rawRun args = some raw) (hrange : checkRun raw = none) :
    itemMapWrite args s = fails .outOfRange s := by
  unfold itemMapWrite
  simp only [h, hrange]

theorem itemMapWrite_refused {st : ItemStatus} (h : rawRun args = some raw) (hrange : checkRun raw = some run)
    (hst : refusal s = some st) : itemMapWrite args s = fails st s := by
  unfold itemMapWrite
  simp only [h, hrange]
  exact claimTests_refused hst _

theorem itemMapWrite_taken (h : rawRun args = some raw) (hrange : checkRun raw = some run) (hfree : refusal s = none) :
    itemMapWrite args s = acts .done { s with map := setShadow (writeRun run (shadowBank s.map)) s.map } := by
  unfold itemMapWrite
  simp only [h, hrange]
  exact claimTests_free hfree _

/-! ### MAP_READ (R58) -/

theorem judgeItem_mapRead (bank lane first count : Octet) :
    judgeItem false serial ⟨0x06#8, [bank, lane, first, count]⟩ s = itemMapRead [bank, lane, first, count] s :=
  ItemRuns.judgeItem_runs (k := .mapRead) (raw := ⟨0x06#8, [bank, lane, first, count]⟩) rfl rfl (.inl rfl) serial s

variable {bank lane first count : Octet} {l : LaneId}

theorem itemMapRead_unknown (h : ¬ (bank = 0x00#8 ∨ bank = 0x01#8)) :
    itemMapRead [bank, lane, first, count] s = fails .badArgument s := by
  unfold itemMapRead
  simp only [h, if_false]

theorem itemMapRead_outOfRange (hbank : bank = 0x00#8 ∨ bank = 0x01#8)
    (h : ¬ (lane.toNat < 16 ∧ slotsInRange first count = true)) :
    itemMapRead [bank, lane, first, count] s = fails .outOfRange s := by
  unfold itemMapRead
  simp only [hbank, if_true]
  cases hlane : laneOf lane with
  | none => rfl
  | some l =>
    have hlow : lane.toNat < 16 := MapEntries.laneOf_isSome_iff.1 (by simp [hlane])
    have hslots : slotsInRange first count = false := by simpa [hlow] using h
    simp [hslots]

theorem itemMapRead_active (hlane : laneOf lane = some l) (hslots : slotsInRange first count = true) :
    itemMapRead [0x00#8, lane, first, count] s =
      reads ((readRun (activeBank s.map) l first.toNat count.toNat).flatMap encodeEntry) s := by
  simp [itemMapRead, hlane, hslots]

theorem itemMapRead_shadow (hlane : laneOf lane = some l) (hslots : slotsInRange first count = true) :
    itemMapRead [0x01#8, lane, first, count] s =
      if copying s.map then fails .busy s
      else reads ((readRun (shadowBank s.map) l first.toNat count.toNat).flatMap encodeEntry) s := by
  simp [itemMapRead, hlane, hslots]

/-- Settles O41: the octets are read as the run, which is written and read back. -/
theorem mapWriteIsReadBackByMapRead : Obligations.MapWriteIsReadBackByMapRead := by
  unfold Obligations.MapWriteIsReadBackByMapRead
  refine ⟨MapEntries.writeRun_get, ?_, ?_⟩
  · intro e
    cases e with
    | fill w => rfl
    | lane l t loss => cases loss <;> rfl
    | gen g => rfl
  intro group serial lane first count entries s octets hcount hone hsum hclaims hoctets
  have hslots : slotsInRange first count = true :=
    MapEntries.slotsInRange_iff.2 ⟨by omega, hone, by omega, hsum⟩
  have hraw : rawRun (octetOf lane.val :: first :: count :: octets) =
      some ⟨octetOf lane.val, first, count, entries.map MapEntries.rawOf⟩ := by
    refine MapEntries.rawRun_iff.2 ⟨_, by simpa using hcount, ?_, rfl⟩
    have hencode : encodeEntry = fun e => MapEntries.rawOctets (MapEntries.rawOf e) := funext MapEntries.encodeEntry_eq
    rw [hoctets, List.flatMap_map, hencode]
  have hrun := MapEntries.checkRun_rawOf (lane := lane) entries hslots
  have hfree := refusal_of_noClaims hclaims
  obtain ⟨hcopy, -, -⟩ := claims_eq_zero_iff.1 hclaims
  set written := setShadow (writeRun ⟨lane, first.toNat, entries⟩ (shadowBank s.map)) s.map with hwritten
  have hframe := setShadow_frame (writeRun ⟨lane, first.toNat, entries⟩ (shadowBank s.map)) s.map
  rw [← hwritten] at hframe
  obtain ⟨hactive, hepoch, hcommit, hcopying⟩ := hframe
  have hshadow : shadowBank written = writeRun ⟨lane, first.toNat, entries⟩ (shadowBank s.map) := by
    rw [hwritten, shadowBank_setShadow]
  refine ⟨{ s with map := written }, ?_, ⟨written, rfl⟩, ?_, hactive, hepoch, hcommit, ?_, ?_⟩
  · exact (judgeItem_mapWrite _ _ _ _).trans (itemMapWrite_taken hraw hrun hfree)
  · exact activeBank_setShadow _ _
  · intro k slot
    change ((shadowBank written).get k).get slot = _
    rw [hshadow]
    by_cases hin : k = lane ∧ first.toNat ≤ slot.val ∧ slot.val - first.toNat < entries.length
    · obtain ⟨rfl, hle, hlt⟩ := hin
      rw [dif_pos ⟨rfl, hle, hlt⟩]
      exact MapEntries.writeRun_entry (r := ⟨k, first.toNat, entries⟩) hle hlt
    · rw [dif_neg hin]
      exact MapEntries.writeRun_of_outside hin
  · have hback := MapEntries.readRun_writeRun (r := ⟨lane, first.toNat, entries⟩) (bank := shadowBank s.map)
      (by simp only; omega)
    rw [judgeItem_mapRead, itemMapRead_shadow (MapEntries.laneOf_octetOf lane) hslots]
    have hidle : copying written = false := by rw [copying, hcopying]; exact hcopy
    have hread : (readRun (shadowBank written) lane first.toNat count.toNat).flatMap encodeEntry = octets := by
      rw [hshadow, ← hcount, hoctets]
      exact congrArg _ hback
    rw [← hread]
    exact if_neg (by simp [hidle])

/-- Settles O42: the tests of MAP_WRITE on what its octets read as, and those of MAP_READ. -/
theorem mapItemsAreTestedInTheirOrder : Obligations.MapItemsAreTestedInTheirOrder := by
  unfold Obligations.MapItemsAreTestedInTheirOrder
  intro lane first count s laneSlots encoded failed hlaneSlots hencoded hfailed
  obtain rfl : encoded = MapEntries.rawOctets := by
    funext e
    rw [hencoded]
    cases e with
    | fill w => rfl
    | lane l t loss => cases loss <;> rfl
    | gen g => rfl
  obtain rfl : failed = fun st => fails st s := funext hfailed
  constructor
  · rintro group serial octets claimed r rfl hclaimed
    have hclaim : refusal s = claimed := hclaimed.symm
    rw [judgeItem_mapWrite]
    constructor
    · intro hnone
      refine itemMapWrite_unreadable (Option.eq_none_iff_forall_ne_some.2 fun raw hraw => ?_)
      obtain ⟨es, hcount, hoctets, -⟩ := MapEntries.rawRun_iff.1 hraw
      exact hnone es hcount hoctets.symm
    · intro es inRange hcount hoctets hinRange
      have hraw : rawRun (lane :: first :: count :: octets) = some ⟨lane, first, count, es⟩ :=
        MapEntries.rawRun_iff.2 ⟨es, hcount, hoctets.symm, rfl⟩
      have hrange : inRange ↔ (checkRun ⟨lane, first, count, es⟩).isSome := by
        rw [hinRange, MapEntries.checkRun_isSome_iff, hlaneSlots]
        refine and_congr_right fun _ => forall₂_congr fun e _ => ?_
        cases e <;> rfl
      refine ⟨fun hnot => ?_, fun hin st hst => ?_, fun hin hnone => ?_⟩
      · exact itemMapWrite_outOfRange hraw (by simpa using mt hrange.2 hnot)
      · obtain ⟨run, hrun⟩ := Option.isSome_iff_exists.1 (hrange.1 hin)
        exact itemMapWrite_refused hraw hrun (hclaim.trans hst)
      · obtain ⟨run, hrun⟩ := Option.isSome_iff_exists.1 (hrange.1 hin)
        exact ⟨_, itemMapWrite_taken hraw hrun (hclaim.trans hnone)⟩
  · rintro serial bank r entryOctets rfl hentry
    obtain rfl : entryOctets = encodeEntry := by
      funext e
      rw [hentry, MapEntries.encodeEntry_eq]
      cases e <;> rfl
    have hslots : laneSlots ↔ lane.toNat < 16 ∧ slotsInRange first count = true := by
      rw [hlaneSlots, MapEntries.slotsInRange_iff]
    rw [judgeItem_mapRead]
    refine ⟨fun hbank => itemMapRead_unknown ?_, fun hbank hnot => itemMapRead_outOfRange ?_ (mt hslots.2 hnot), ?_, ?_⟩
    · rintro (rfl | rfl) <;> exact absurd hbank (by decide)
    · obtain h | h : bank.toNat = 0 ∨ bank.toNat = 1 := by omega
      · exact .inl (BitVec.eq_of_toNat_eq h)
      · exact .inr (BitVec.eq_of_toNat_eq h)
    · rintro rfl hin hcopying
      obtain ⟨hlane, hwindow⟩ := hslots.1 hin
      obtain ⟨l, hl⟩ := Option.isSome_iff_exists.1 (MapEntries.laneOf_isSome_iff.2 hlane)
      exact (itemMapRead_shadow hl hwindow).trans (if_pos hcopying)
    · intro l hl hin hbank
      obtain ⟨-, hwindow⟩ := hslots.1 hin
      obtain ⟨-, -, -, hsum⟩ := MapEntries.slotsInRange_iff.1 hwindow
      obtain rfl | ⟨rfl, hidle⟩ := hbank
      · refine (itemMapRead_active (ItemRuns.laneOf_of_eq hl) hwindow).trans ?_
        rw [MapEntries.readRun_eq hsum, List.flatMap_map]
        rfl
      · refine (itemMapRead_shadow (ItemRuns.laneOf_of_eq hl) hwindow).trans ?_
        rw [if_neg (by simp [copying, hidle]), MapEntries.readRun_eq hsum, List.flatMap_map]
        rfl

/-! ### MAP_COPY, COMMIT, COMMIT_CANCEL, IMAGE_RELOAD (R59, R63, R68, R147) -/

theorem judgeItem_mapCopy : judgeItem group serial ⟨0x07#8, []⟩ s = itemMapCopy s :=
  ItemRuns.judgeItem_runs (k := .mapCopy) rfl rfl (.inr rfl) serial s

theorem judgeItem_imageReload : judgeItem group serial ⟨0x14#8, []⟩ s = itemImageReload s :=
  ItemRuns.judgeItem_runs (k := .imageReload) rfl rfl (.inr rfl) serial s

theorem judgeItem_commitCancel : judgeItem group serial ⟨0x09#8, []⟩ s = itemCommitCancel s :=
  ItemRuns.judgeItem_runs (k := .commitCancel) rfl rfl (.inr rfl) serial s

theorem judgeItem_commitNext (k : Octet) : judgeItem group serial ⟨0x08#8, [k]⟩ s = itemCommit [k] s :=
  ItemRuns.judgeItem_runs (k := .commit) (raw := ⟨0x08#8, [k]⟩) rfl rfl (.inr rfl) serial s

theorem judgeItem_commitFrame (k hi lo : Octet) : judgeItem group serial ⟨0x08#8, [k, hi, lo]⟩ s = itemCommit [k, hi, lo] s :=
  ItemRuns.judgeItem_runs (k := .commit) (raw := ⟨0x08#8, [k, hi, lo]⟩) rfl rfl (.inr rfl) serial s

variable {target : CommitRecord} {st : ItemStatus}

theorem itemCommit_noTarget (h : commitTarget args = none) : itemCommit args s = fails .badArgument s := by
  unfold itemCommit
  rw [h]

theorem itemCommit_refused (h : commitTarget args = some target) (hst : refusal s = some st) :
    itemCommit args s = fails st s := by
  unfold itemCommit
  rw [h]
  exact claimTests_refused hst _

theorem itemCommit_free (h : commitTarget args = some target) (hfree : refusal s = none) :
    itemCommit args s =
      if inWindow s.timing.number target then
        { status := .started, data := octets2 s.timing.number, after := { s with map := { s.map with commit := target } } }
      else fails .outOfWindow s := by
  unfold itemCommit
  rw [h]
  exact claimTests_free hfree _

theorem inWindow_frame {number f : Num} :
    inWindow number (.frame f) = true ↔ 1 ≤ (f - number).toNat ∧ (f - number).toNat ≤ 32767 := by
  simp only [inWindow, ahead, distance, Config.windowLimit, Bool.and_eq_true]
  exact Iff.and decide_eq_true_iff decide_eq_true_iff

/-- Settles O43: the claims first, then each item's own rule. -/
theorem shadowClaimsRefuseEachOther : Obligations.ShadowClaimsRefuseEachOther := by
  unfold Obligations.ShadowClaimsRefuseEachOther
  intro group serial s hi lo refused hrefused
  have hclaim : refusal s = refused := hrefused.symm
  simp only [judgeItem_mapCopy, judgeItem_imageReload, judgeItem_commitCancel, judgeItem_commitNext, judgeItem_commitFrame]
  refine ⟨?_, ?_, ?_, ?_⟩
  · intro st hst
    have hst := hclaim.trans hst
    exact ⟨claimTests_refused hst _, claimTests_refused hst _, itemCommit_refused rfl hst, itemCommit_refused rfl hst⟩
  · intro hnone
    have hfree := hclaim.trans hnone
    refine ⟨claimTests_free hfree _, claimTests_free hfree _, (itemCommit_free rfl hfree).trans (if_pos rfl), ?_⟩
    exact (itemCommit_free rfl hfree).trans (if_congr inWindow_frame rfl rfl)
  · intro kind
    exact ⟨fun h => itemCommit_noTarget (if_neg h), fun h => itemCommit_noTarget (if_neg h)⟩
  · unfold itemCommitCancel
    by_cases h : s.map.commit = .none
    · rw [if_pos h, if_neg (by simp [commitPending, h])]
      rfl
    · rw [if_neg h, if_pos (commitPending_iff.2 h)]
      rfl

end Sys2Proof.MapItems
end

section
/-! SUPPORT. PARAM_WRITE by the tests of R137 in their order, and what it changes of the values in force (R136 to R138). -/

namespace Sys2Proof.ParamWrites

open Sys2Proof.Machine

variable {group : Bool} {serial : Nat} {p : Param} {v : Num} {s : State}

/-! ### Ranges (Table 8-3) -/

theorem within_iff {lo hi : Nat} : within lo hi v = true ↔ lo ≤ v.toNat ∧ v.toNat ≤ hi := by
  simp [within]

theorem paramInRange_iff :
    paramInRange p v = true ↔
      match (ReadItems.identifier p).toNat with
      | 1 => v.toNat ≤ 30
      | 2 | 3 => v.toNat ≤ 17
      | 4 => v.toNat ≤ 1
      | 5 => 8 ≤ v.toNat ∧ v.toNat ≤ 1024
      | 6 => 2 ≤ v.toNat ∧ v.toNat ≤ 8
      | 7 | 8 => v.toNat ≤ 15
      | 9 | 10 | 13 => True
      | 11 => 1 ≤ v.toNat ∧ v.toNat ≤ 7
      | 12 | 15 => 1 ≤ v.toNat ∧ v.toNat ≤ 15
      | 14 => 64 ≤ v.toNat
      | 16 | 17 | 18 | 19 => v = 0 ∨ (32 ≤ v.toNat ∧ v.toNat ≤ 62)
      | _ => v.toNat ≤ 4 := by
  have hword := v.isLt
  have hgroup : (decide (v = 0) || within 32 62 v) = true ↔ v = 0 ∨ (32 ≤ v.toNat ∧ v.toNat ≤ 62) := by
    rw [Bool.or_eq_true, decide_eq_true_iff, within_iff]
  have hlow : ∀ hi, within 0 hi v = true ↔ v.toNat ≤ hi := fun hi => within_iff.trans (by omega)
  cases p with
  | deviceAddress => exact hlow 30
  | timingPrimary => exact hlow 17
  | timingSecondary => exact hlow 17
  | timingRevert => exact hlow 1
  | mgmtIngress => exact hlow 15
  | mgmtEgress => exact hlow 15
  | noticeWait => exact within_iff.trans (by simp only [ReadItems.identifier]; change _ ↔ 64 ≤ v.toNat; omega)
  | ingressEnable => exact iff_of_true rfl trivial
  | egressEnable => exact iff_of_true rfl trivial
  | noticeMask => exact iff_of_true rfl trivial
  | group i => fin_cases i <;> exact hgroup
  | genKind g => fin_cases g <;> exact hlow 4
  | _ => exact within_iff

/-! ### The tests in their order (R137) -/

theorem itemParamWrite_known {i hi lo : Octet} (h : paramOf i = some p) :
    itemParamWrite group serial [i, hi, lo] s = settled (writeParam group serial p (num2 hi lo) s) := by
  simp [itemParamWrite, h]

theorem itemParamWrite_unknown {i hi lo : Octet} (h : paramOf i = none) :
    itemParamWrite group serial [i, hi, lo] s = fails .badArgument s := by
  simp [itemParamWrite, h]

theorem writeParam_deviceAddress : writeParam group serial .deviceAddress v s = (.notAllowed, s) := rfl

theorem writeParam_outOfRange (hp : p ≠ .deviceAddress) (h : paramInRange p v = false) :
    writeParam group serial p v s = (.outOfRange, s) := by
  simp [writeParam, hp, h]

theorem writeParam_barred (hp : p ≠ .deviceAddress) (h : paramInRange p v = true) (hgroup : group = true)
    (hbarred : barredInGroup p = true) : writeParam group serial p v s = (.notInGroup, s) := by
  simp [writeParam, hp, h, hgroup, hbarred]

/-- A parameter whose write changes its own value alone. -/
inductive Plain : Param → Prop where
  | timingPrimary : Plain .timingPrimary
  | timingSecondary : Plain .timingSecondary
  | timingRevert : Plain .timingRevert
  | refinMiss : Plain .refinMiss
  | confirmCount : Plain .confirmCount
  | missLimit : Plain .missLimit
  | noticeWait : Plain .noticeWait
  | noticeRetries : Plain .noticeRetries
  | group (i : Fin 4) : Plain (.group i)

/-- A parameter whose write past the common tests is done at once. -/
inductive AtOnce : Param → Prop where
  | plain {p : Param} (h : Plain p) : AtOnce p
  | qualifyFrames : AtOnce .qualifyFrames
  | noticeMask : AtOnce .noticeMask
  | genKind (g : GenId) : AtOnce (.genKind g)

theorem writeParam_atOnce (h : paramInRange p v = true) (hgroup : group = false ∨ barredInGroup p = false)
    (honce : AtOnce p) : writeParam group serial p v s = (.done, storeParam p v s) := by
  have hgroup' : (group && barredInGroup p) = false := by obtain hg | hb := hgroup <;> simp [*]
  unfold writeParam
  rw [h, hgroup']
  cases honce with
  | plain h => cases h <;> rfl
  | qualifyFrames => rfl
  | noticeMask => rfl
  | genKind g => rfl

/-! ### Values in force after a write (R136) -/

theorem storeParam_plain (h : Plain p) :
    storeParam p v s = { s with params := ParamStores.storedParams p v s.params } := by
  cases h <;> rfl

theorem paramValue_stored (h : Plain p) :
    paramValue { s with params := ParamStores.storedParams p v s.params } p = v := by
  cases h with
  | group i => exact Tab.get_set_self _ i v
  | _ => rfl

theorem paramValue_stored_ne {p' : Param} (hne : p' ≠ p) (h : Plain p) :
    paramValue { s with params := ParamStores.storedParams p v s.params } p' = paramValue s p' := by
  cases h with
  | group i =>
    cases p' with
    | group j => exact Tab.get_set_ne _ v fun hj => hne (by rw [hj])
    | _ => rfl
  | _ => cases p' <;> trivial

theorem plain_of_not_listed (hdevice : p ≠ .deviceAddress)
    (hlisted : p ∉ [Param.qualifyFrames, .mgmtIngress, .mgmtEgress, .ingressEnable, .egressEnable, .noticeMask])
    (hgen : ∀ g, p ≠ .genKind g) : Plain p := by
  cases p with
  | timingPrimary => exact .timingPrimary
  | timingSecondary => exact .timingSecondary
  | timingRevert => exact .timingRevert
  | refinMiss => exact .refinMiss
  | confirmCount => exact .confirmCount
  | missLimit => exact .missLimit
  | noticeWait => exact .noticeWait
  | noticeRetries => exact .noticeRetries
  | group i => exact .group i
  | deviceAddress => exact absurd rfl hdevice
  | genKind g => exact absurd rfl (hgen g)
  | _ => exact absurd (by simp) hlisted

theorem barredInGroup_iff : barredInGroup p = true ↔ p = .mgmtIngress ∨ p = .mgmtEgress ∨ ∃ n, p = .group n := by
  cases p <;> simp [barredInGroup]

/-! ### GEN_KIND (R91) -/

theorem seeded_genKindOf (h : v.toNat ≤ 4) :
    seeded ((genKindOf v).getD none) =
      match v.toNat with
      | 0 => { kind := none, nextWord := 0 }
      | 1 => { kind := some .count, nextWord := 0 }
      | 2 => { kind := some .pr13, nextWord := firstWord .pr13 }
      | 3 => { kind := some .pr19, nextWord := firstWord .pr19 }
      | _ => { kind := some .pr29, nextWord := firstWord .pr29 } := by
  obtain ⟨n, hn⟩ : ∃ n : Fin 5, v = BitVec.ofNat 16 n.val := by
    refine ⟨⟨v.toNat, by omega⟩, ?_⟩
    simp
  subst hn
  fin_cases n <;> rfl

theorem keepsEgress_iff :
    keepsEgress v s = true ↔
      v.getLsbD s.channel.mgmtEgress.val = true ∧
        ∀ c l, s.dispatcher.change = some c → c.egress = some l → v.getLsbD l.val = true := by
  rw [ManagementKept.keepsEgress_iff]
  refine and_congr_right fun _ => ?_
  simp only [Option.bind_eq_some_iff, inMask]
  constructor
  · exact fun h c l hc hl => h l ⟨c, hc, hl⟩
  · rintro h l ⟨c, hc, hl⟩
    exact h c l hc hl

/-- Settles O44: the identifiers, the tests in their order, and the writes that act at once. -/
theorem parameterWritesActAtOnce : Obligations.ParameterWritesActAtOnce := by
  unfold Obligations.ParameterWritesActAtOnce
  have hitem : ∀ {group : Bool} {serial : Nat} {i hi lo : Octet} {s : State} {p : Param}, paramOf i = some p →
      judgeItem group serial { kind := 0x04#8, args := [i, hi, lo] } s =
        settled (writeParam group serial p (hi ++ lo) s) := fun h =>
    (ItemRuns.judgeItem_paramWrite _ _ _ _ _ _).trans (itemParamWrite_known h)
  refine ⟨?_, ?_, ?_, ?_, ?_⟩
  · intro i
    refine ⟨⟨ReadItems.paramOf_of_outside, fun hnone => ?_⟩, fun j p hi hj => ?_, fun p hp => ⟨fun s => ?_, fun v => ?_⟩⟩
    · obtain ⟨h, -⟩ | ⟨-, p, hp⟩ := ReadItems.paramOf_cases i
      · exact h
      · rw [hnone] at hp
        cases hp
    · rw [ReadItems.eq_identifier hi, ReadItems.eq_identifier hj]
    · exact (ReadItems.judgeItem_paramRead i).trans (ReadItems.itemParamRead_known hp)
    · rw [ReadItems.eq_identifier hp]
      exact paramInRange_iff
  · exact ⟨rfl, rfl, rfl, rfl, rfl, rfl, rfl, fun g => ReadItems.paramOf_identifier (.genKind g),
      fun n => ReadItems.paramOf_identifier (.group n)⟩
  · rintro group serial i hi lo v s rfl
    refine ⟨fun h => ?_, ?_, fun p hp hdevice => ⟨fun h => ?_, fun h hg hbarred => ?_, fun h hg hlisted hgen => ?_⟩⟩
    · exact (ItemRuns.judgeItem_paramWrite _ _ _ _ _ _).trans (itemParamWrite_unknown (ReadItems.paramOf_of_outside h))
    · rintro rfl
      exact hitem (p := .deviceAddress) rfl
    · rw [hitem hp, writeParam_outOfRange hdevice h]
      rfl
    · rw [hitem hp, writeParam_barred hdevice h hg (barredInGroup_iff.2 hbarred)]
      rfl
    · have hplain := plain_of_not_listed hdevice hlisted hgen
      have hpermitted : group = false ∨ barredInGroup p = false := by
        by_cases hgroup : group = true
        · refine .inr (Bool.eq_false_iff.2 fun hb => ?_)
          simp only [List.mem_cons, not_or] at hlisted
          obtain ⟨-, hingress, hegress, -⟩ := hlisted
          exact hg hgroup (((barredInGroup_iff.1 hb).resolve_left hingress).resolve_left hegress)
        · exact .inl (by simpa using hgroup)
      refine ⟨ParamStores.storedParams p (hi ++ lo) s.params, ?_, paramValue_stored hplain,
        fun p' hne => paramValue_stored_ne hne hplain⟩
      rw [hitem hp, writeParam_atOnce h hpermitted (.plain hplain), storeParam_plain hplain]
      rfl
  · rintro group serial hi lo v s rfl
    rw [hitem (p := .qualifyFrames) rfl]
    split
    · next hrange => rw [writeParam_atOnce (paramInRange_iff.2 hrange) (.inr rfl) .qualifyFrames]; rfl
    · next hrange =>
      rw [writeParam_outOfRange (by decide) (by simpa using mt (paramInRange_iff (p := .qualifyFrames)).1 hrange)]
      rfl
  · rintro group serial hi lo v s rfl
    have hegress : judgeItem group serial { kind := 0x04#8, args := [10#8, hi, lo] } s =
        settled (if keepsEgress (hi ++ lo) s then (.done, storeParam .egressEnable (hi ++ lo) s) else (.notAllowed, s)) := by
      rw [hitem (p := .egressEnable) rfl]
      cases group <;> rfl
    rw [hegress]
    refine ⟨fun hlane hpending => ?_, fun hrefused => ?_, ?_, ?_⟩
    · rw [if_pos (keepsEgress_iff.2 ⟨hlane, hpending⟩)]
      rfl
    · rw [if_neg]
      · rfl
      · intro hkeeps
        obtain ⟨hlane, hpending⟩ := keepsEgress_iff.1 hkeeps
        obtain h | ⟨c, l, hc, hl, h⟩ := hrefused
        · exact Bool.false_ne_true (h.symm.trans hlane)
        · exact Bool.false_ne_true (h.symm.trans (hpending c l hc hl))
    · rw [hitem (p := .noticeMask) rfl, writeParam_atOnce (paramInRange_iff.2 trivial) (.inr rfl) .noticeMask]
      rfl
    · intro g i hi' hv
      have hgen : paramOf i = some (.genKind g) := by
        have : i = ReadItems.identifier (.genKind g) := BitVec.eq_of_toNat_eq (by rw [hi']; fin_cases g <;> rfl)
        rw [this, ReadItems.paramOf_identifier]
      rw [hitem hgen, writeParam_atOnce (by exact within_iff.2 ⟨Nat.zero_le _, hv⟩) (.inr rfl) (.genKind g)]
      exact congrArg (fun gen => ItemResult.mk .done [] { s with generators := s.generators.set g gen }) (seeded_genKindOf hv)

end Sys2Proof.ParamWrites
end

section
/-! SUPPORT. The marks a request sets and the measurement items (R93, R100, R32, R121, R126, R143). -/

namespace Sys2Proof.Measurements

open Sys2Proof.Machine

variable {group : Bool} {serial : Nat} {s : State}

/-! ### Numbers within a range -/

theorem laneOf_eq (o : Octet) : laneOf o = if h : o.toNat < 16 then some ⟨o.toNat, h⟩ else none := rfl

theorem slotOf_eq (o : Octet) : slotOf o = if h : o.toNat < 40 then some ⟨o.toNat, h⟩ else none := rfl

theorem quadOf_eq (o : Octet) : quadOf o = if h : o.toNat < 4 then some ⟨o.toNat, h⟩ else none := rfl

theorem lane_toNat (l : LaneId) : (BitVec.ofNat 16 l.val).toNat = l.val := by
  have := l.isLt
  simp only [BitVec.toNat_ofNat]
  omega

theorem laneOfNum_lane (l : LaneId) : laneOfNum (BitVec.ofNat 16 l.val) = some l := by
  have h := lane_toNat l
  unfold laneOfNum
  rw [dif_pos (by rw [h]; exact l.isLt)]
  simp [h]

theorem lane_inRange (l : LaneId) : within 0 15 (BitVec.ofNat 16 l.val) = true := by
  have := l.isLt
  rw [ParamWrites.within_iff, lane_toNat]
  omega

/-! ### Held lane changes (R121) -/

theorem changeElsewhere_iff (serial : Nat) (s : State) :
    changeElsewhere serial s = true ↔ (ownChange serial s).holder ≠ .request serial := by
  unfold changeElsewhere ownChange
  cases s.dispatcher.change <;> simp

theorem holdChange_eq (c : LaneChange) (s : State) :
    holdChange c s =
      { s with
        dispatcher := { s.dispatcher with change := if c.ingress = none ∧ c.egress = none then none else some c } } := by
  simp [holdChange, setChange]

theorem writeMgmtIngress_eq (l : LaneId) :
    settled (writeMgmtIngress serial l s) =
      if (ownChange serial s).holder ≠ .request serial then { status := .busy, data := [], after := s }
      else if l = s.channel.mgmtIngress then acts .done (holdChange { ownChange serial s with ingress := none } s)
      else if s.params.ingressEnable.getLsbD l.val = false then { status := .notAllowed, data := [], after := s }
      else acts .done (holdChange { ownChange serial s with ingress := some l } s) := by
  unfold writeMgmtIngress inMask
  by_cases helse : changeElsewhere serial s = true
  · rw [if_pos helse, if_pos ((changeElsewhere_iff serial s).1 helse)]
    rfl
  rw [if_neg helse, if_neg (mt (changeElsewhere_iff serial s).2 helse)]
  by_cases hlane : l = s.channel.mgmtIngress
  · rw [if_pos hlane, if_pos hlane]
    rfl
  rw [if_neg hlane, if_neg hlane]
  cases s.params.ingressEnable.getLsbD l.val <;> rfl

theorem writeMgmtEgress_eq (l : LaneId) :
    settled (writeMgmtEgress serial l s) =
      if (ownChange serial s).holder ≠ .request serial then { status := .busy, data := [], after := s }
      else if l = s.channel.mgmtEgress then acts .done (holdChange { ownChange serial s with egress := none } s)
      else if s.params.egressEnable.getLsbD l.val = false then { status := .notAllowed, data := [], after := s }
      else acts .done (holdChange { ownChange serial s with egress := some l } s) := by
  unfold writeMgmtEgress inMask
  by_cases helse : changeElsewhere serial s = true
  · rw [if_pos helse, if_pos ((changeElsewhere_iff serial s).1 helse)]
    rfl
  rw [if_neg helse, if_neg (mt (changeElsewhere_iff serial s).2 helse)]
  by_cases hlane : l = s.channel.mgmtEgress
  · rw [if_pos hlane, if_pos hlane]
    rfl
  rw [if_neg hlane, if_neg hlane]
  cases s.params.egressEnable.getLsbD l.val <;> rfl

theorem judgeItem_mgmtIngress {hi lo : Octet} {l : LaneId} (hv : hi ++ lo = BitVec.ofNat 16 l.val) :
    judgeItem false serial ⟨0x04#8, [7#8, hi, lo]⟩ s = settled (writeMgmtIngress serial l s) := by
  have hwrite : writeParam false serial .mgmtIngress (BitVec.ofNat 16 l.val) s = writeMgmtIngress serial l s := by
    simp [writeParam, paramInRange, lane_inRange, laneOfNum_lane]
  rw [ItemRuns.judgeItem_paramWrite, ParamWrites.itemParamWrite_known (p := .mgmtIngress) rfl, num2, hv, hwrite]

theorem judgeItem_mgmtEgress {hi lo : Octet} {l : LaneId} (hv : hi ++ lo = BitVec.ofNat 16 l.val) :
    judgeItem false serial ⟨0x04#8, [8#8, hi, lo]⟩ s = settled (writeMgmtEgress serial l s) := by
  have hwrite : writeParam false serial .mgmtEgress (BitVec.ofNat 16 l.val) s = writeMgmtEgress serial l s := by
    simp [writeParam, paramInRange, lane_inRange, laneOfNum_lane]
  rw [ItemRuns.judgeItem_paramWrite, ParamWrites.itemParamWrite_known (p := .mgmtEgress) rfl, num2, hv, hwrite]

/-! ### RESTART (R126) -/

theorem judgeItem_restart :
    judgeItem group serial ⟨0x15#8, []⟩ s = if group then fails .notInGroup s else itemRestart serial s := by
  cases group <;> rfl

theorem filter_holder (change : Option LaneChange) (serial : Nat) :
    (change.filter fun c => decide (c.holder ≠ .request serial)) =
      match change with
      | some c => if c.holder = .request serial then none else some c
      | none => none := by
  cases change with
  | none => rfl
  | some c => by_cases h : c.holder = .request serial <;> simp [Option.filter, h]

/-! ### Checkers (R93, R100) -/

theorem checking_eq (k : Checker) : checking k = inProgress k := by
  simp [checking, inProgress]

theorem judgeItem_checkStart (c l t hi lo : Octet) :
    judgeItem group serial ⟨0x0D#8, [c, l, t, hi, lo]⟩ s = itemCheckStart [c, l, t, hi, lo] s :=
  ItemRuns.judgeItem_runs (k := .checkStart) (raw := ⟨0x0D#8, [c, l, t, hi, lo]⟩) rfl rfl (.inr rfl) serial s

theorem itemCheckStart_inRange {c l t hi lo : Octet}
    (h : c.toNat < 4 ∧ l.toNat < 16 ∧ t.toNat < 40 ∧ hi ++ lo ≠ 0#16) :
    itemCheckStart [c, l, t, hi, lo] s =
      if inProgress (s.checkers.get ⟨c.toNat, h.1⟩) then fails .busy s
      else if (s.lanes.get ⟨l.toNat, h.2.1⟩).align = .off then fails .notAllowed s
      else
        acts .started
          (setChecker ⟨c.toNat, h.1⟩ (startedChecker ⟨l.toNat, h.2.1⟩ ⟨t.toNat, h.2.2.1⟩ (hi ++ lo)) s) := by
  obtain ⟨hc, hl, ht, hframes⟩ := h
  have hzero : ¬ num2 hi lo = 0 := hframes
  simp only [itemCheckStart, quadOf_eq, laneOf_eq, slotOf_eq, dif_pos hc, dif_pos hl, dif_pos ht, if_neg hzero, checking_eq]
  rfl

theorem itemCheckStart_outOfRange {c l t hi lo : Octet}
    (h : ¬ (c.toNat < 4 ∧ l.toNat < 16 ∧ t.toNat < 40 ∧ hi ++ lo ≠ 0#16)) :
    itemCheckStart [c, l, t, hi, lo] s = fails .outOfRange s := by
  unfold itemCheckStart
  by_cases hc : c.toNat < 4 <;> by_cases hl : l.toNat < 16 <;> by_cases ht : t.toNat < 40 <;>
    simp only [quadOf_eq, laneOf_eq, slotOf_eq, hc, hl, ht, dif_pos, dif_neg, not_false_eq_true]
  have hzero : num2 hi lo = 0 := by
    by_contra hne
    exact h ⟨hc, hl, ht, hne⟩
  rw [if_pos hzero]

theorem judgeItem_checkStop (c : Octet) : judgeItem group serial ⟨0x0E#8, [c]⟩ s = itemCheckStop [c] s :=
  ItemRuns.judgeItem_runs (k := .checkStop) (raw := ⟨0x0E#8, [c]⟩) rfl rfl (.inr rfl) serial s

theorem checkDoneData_stopped (k : Checker) : checkDoneData .stopped k = checkDoneOctets 0x04#8 k := by
  unfold checkDoneData checkDoneOctets
  rw [LaneGone.erroredOctets_eq]
  rfl

theorem itemCheckStop_eq (c : Octet) (s : State) :
    itemCheckStop [c] s =
      if h : c.toNat < 4 then
        if inProgress (s.checkers.get ⟨c.toNat, h⟩) then
          { status := .done, data := [0x01#8], after := endChecker ⟨c.toNat, h⟩ .stopped s }
        else { status := .done, data := [0x00#8], after := s }
      else fails .outOfRange s := by
  unfold itemCheckStop
  by_cases h : c.toNat < 4 <;> simp only [quadOf_eq, h, dif_pos, dif_neg, not_false_eq_true, checking_eq]

/-! ### The survey (R32) -/

theorem judgeItem_surveyStart (l hi lo : Octet) :
    judgeItem group serial ⟨0x10#8, [l, hi, lo]⟩ s = itemSurveyStart [l, hi, lo] s :=
  ItemRuns.judgeItem_runs (k := .surveyStart) (raw := ⟨0x10#8, [l, hi, lo]⟩) rfl rfl (.inr rfl) serial s

theorem itemSurveyStart_inRange {l hi lo : Octet} (h : l.toNat < 16 ∧ hi ++ lo ≠ 0#16) :
    itemSurveyStart [l, hi, lo] s =
      if s.survey.state = .running then fails .busy s
      else if (s.lanes.get ⟨l.toNat, h.1⟩).align = .off then fails .notAllowed s
      else acts .started { s with survey := startedSurvey ⟨l.toNat, h.1⟩ (hi ++ lo) } := by
  have hzero : ¬ num2 hi lo = 0 := h.2
  simp only [itemSurveyStart, laneOf_eq, dif_pos h.1, if_neg hzero]
  rfl

theorem itemSurveyStart_outOfRange {l hi lo : Octet} (h : ¬ (l.toNat < 16 ∧ hi ++ lo ≠ 0#16)) :
    itemSurveyStart [l, hi, lo] s = fails .outOfRange s := by
  unfold itemSurveyStart
  by_cases hl : l.toNat < 16 <;> simp only [laneOf_eq, hl, dif_pos, dif_neg, not_false_eq_true]
  have hzero : num2 hi lo = 0 := by
    by_contra hne
    exact h ⟨hl, hne⟩
  rw [if_pos hzero]

/-! ### COUNTS_CLEAR (R143) -/

theorem judgeItem_countsClear (hi lo flags : Octet) :
    judgeItem group serial ⟨0x0C#8, [hi, lo, flags]⟩ s = itemCountsClear [hi, lo, flags] s :=
  ItemRuns.judgeItem_runs (k := .countsClear) (raw := ⟨0x0C#8, [hi, lo, flags]⟩) rfl rfl (.inr rfl) serial s

/-- No bit but bit 0 is set exactly in 0 and 1. -/
theorem flagsClear_iff {flags : Octet} : flags &&& 0xFE#8 = 0 ↔ flags = 0 ∨ flags = 1 := by
  constructor
  · intro h
    have hall : (0xFE#8 ||| 1#8) = BitVec.allOnes 8 := by decide
    have hlow : flags = flags &&& 1#8 := by
      calc flags = flags &&& (0xFE#8 ||| 1#8) := by rw [hall, BitVec.and_allOnes]
        _ = flags &&& 1#8 := by rw [BitVec.and_or_distrib_left, h]; exact BitVec.zero_or
    have hle : flags.toNat ≤ 1 := by
      rw [hlow, BitVec.toNat_and]
      exact Nat.and_le_right
    obtain h0 | h1 : flags.toNat = 0 ∨ flags.toNat = 1 := by omega
    · exact .inl (BitVec.eq_of_toNat_eq h0)
    · exact .inr (BitVec.eq_of_toNat_eq h1)
  · rintro (rfl | rfl) <;> decide

theorem itemCountsClear_eq (hi lo flags : Octet) (s : State) :
    itemCountsClear [hi, lo, flags] s =
      if 2 ≤ flags.toNat then fails .badArgument s else acts .done (clearCounts (hi ++ lo) (decide (flags = 1)) s) := by
  unfold itemCountsClear
  by_cases hflags : flags = 0 ∨ flags = 1
  · have hlow : ¬ 2 ≤ flags.toNat := by rcases hflags with rfl | rfl <;> decide
    have hbit : flags.getLsbD 0 = decide (flags = 1) := by rcases hflags with rfl | rfl <;> decide
    rw [if_neg hlow]
    simp only [if_pos (flagsClear_iff.2 hflags), hbit]
    rfl
  · have hhigh : 2 ≤ flags.toNat := by
      by_contra hlt
      obtain h0 | h1 : flags.toNat = 0 ∨ flags.toNat = 1 := by omega
      · exact hflags (.inl (BitVec.eq_of_toNat_eq h0))
      · exact hflags (.inr (BitVec.eq_of_toNat_eq h1))
    rw [if_pos hhigh]
    simp only [if_neg (mt flagsClear_iff.1 hflags)]

/-- Settles O46: each item by its own rule. -/
theorem marksAndMeasurementItemsActAtOnce : Obligations.MarksAndMeasurementItemsActAtOnce := by
  unfold Obligations.MarksAndMeasurementItemsActAtOnce
  refine ⟨⟨?_, ?_⟩, ?_⟩
  · rintro serial hi lo l s own hv rfl hold hhold
    have hholds : ∀ c, acts .done (holdChange c s) = hold c := fun c => by rw [hhold, holdChange_eq]; rfl
    rw [judgeItem_mgmtIngress hv, judgeItem_mgmtEgress hv, writeMgmtIngress_eq, writeMgmtEgress_eq]
    simp only [hholds]
    exact ⟨rfl, rfl⟩
  · intro group serial s
    rw [judgeItem_restart, itemRestart, filter_holder]
    rfl
  · intro group serial s
    refine ⟨?_, ?_, ?_, ?_⟩
    · intro c l slot hi lo
      rw [judgeItem_checkStart]
      split
      · next h => exact itemCheckStart_inRange h
      · next h => exact itemCheckStart_outOfRange h
    · intro c
      rw [judgeItem_checkStop, itemCheckStop_eq]
      simp only [endChecker, checkDoneData_stopped]
      rfl
    · intro l hi lo
      rw [judgeItem_surveyStart]
      split
      · next h => exact itemSurveyStart_inRange h
      · next h => exact itemSurveyStart_outOfRange h
    · intro hi lo flags
      rw [judgeItem_countsClear, itemCountsClear_eq]
      refine if_congr Iff.rfl rfl ?_
      by_cases hflags : flags = 1 <;> simp [acts, clearCounts, clearedLane, clearedStore, clearedChannel, inMask, hflags]

end Sys2Proof.Measurements
end

section
/-! SUPPORT. The acknowledgement of a notice message (R145, R150, R156). -/

namespace Sys2Proof.Acknowledgement

open Sys2Proof.Machine

variable {frame : Num} {n : NoticeUnit}

theorem setList_alert (list : List NoticeEntry) : (!list.isEmpty) = decide (list ≠ []) := by
  cases list <;> rfl

/-! ### The transfer of the lost count (R150) -/

theorem transferLost_none (h : n.lost = 0 ∨ 16 ≤ n.list.length) : transferLost frame n = n := if_pos h

theorem transferLost_added (hlost : n.lost ≠ 0) (hroom : n.list.length < 16)
    (h : n.list.any (waitsFor .overflow .none) = true) :
    transferLost frame n =
      { setList (n.list.map fun e =>
          if waitsFor .overflow .none e then coalesce frame (overflowData n.lost e.data) e else e) n with lost := 0 } := by
  unfold transferLost
  rw [if_neg (not_or.2 ⟨hlost, Nat.not_le.2 hroom⟩), if_pos h]

theorem transferLost_fresh (hlost : n.lost ≠ 0) (hroom : n.list.length < 16)
    (h : n.list.any (waitsFor .overflow .none) = false) :
    transferLost frame n =
      { setList (n.list ++ [freshEntry .overflow .none frame (octets2 n.lost)]) n with lost := 0 } := by
  unfold transferLost
  rw [if_neg (not_or.2 ⟨hlost, Nat.not_le.2 hroom⟩), if_neg (by simp [h])]

theorem waitsFor_iff {kind : NoticeKind} {subject : Subject} {e : NoticeEntry} (h : e.carried = false) :
    waitsFor kind subject e = true ↔ e.kind = kind ∧ e.subject = subject := by simp [waitsFor, h]

/-- Among entries that are not carried. -/
theorem any_waitsFor_iff {kind : NoticeKind} {subject : Subject} {left : List NoticeEntry}
    (h : ∀ e ∈ left, e.carried = false) :
    left.any (waitsFor kind subject) = true ↔ ∃ e ∈ left, e.kind = kind ∧ e.subject = subject := by
  rw [List.any_eq_true]
  exact exists_congr fun e => and_congr_right fun he => waitsFor_iff (h e he)

theorem overflowData_eq (k : Num) (d : List Octet) :
    overflowData k d =
      match d with
      | [hi, lo] =>
        if (hi ++ lo).toNat + k.toNat < 65536 then [octetAt ((hi ++ lo) + k) 1, octetAt ((hi ++ lo) + k) 0]
        else [0xFF#8, 0xFF#8]
      | _ => [octetAt k 1, octetAt k 0] := by
  rcases d with _ | ⟨hi, _ | ⟨lo, _ | ⟨o, more⟩⟩⟩
  case cons.cons.nil =>
    change octets2 (if (hi ++ lo).toNat + k.toNat < 2 ^ 16 then (hi ++ lo) + BitVec.ofNat 16 k.toNat else BitVec.allOnes 16) = _
    rw [BitVec.ofNat_toNat, BitVec.setWidth_eq]
    change _ = if (hi ++ lo).toNat + k.toNat < 2 ^ 16 then _ else _
    split
    · rfl
    · decide
  all_goals rfl

theorem bump_octet (x : Octet) : bump x = if x = 255 then 255 else x + 1 := by
  have hall : BitVec.allOnes 8 = 255 := by decide
  unfold bump
  rw [hall]
  split
  · next h => exact h
  · rfl

theorem coalesce_eq (data : List Octet) (e : NoticeEntry) :
    coalesce frame data e =
      { e with repeats := if e.repeats = 255 then 255 else e.repeats + 1, frame := frame, data := data } := by
  rw [coalesce, bump_octet]

/-! ### NOTICE_ACK (R145, R156) -/

variable {serial : Nat} {seq : Octet} {s : State}

theorem judgeItem_noticeAck : judgeItem false serial ⟨0x12#8, [seq]⟩ s = itemNoticeAck [seq] s :=
  ItemRuns.judgeItem_runs (k := .noticeAck) (raw := ⟨0x12#8, [seq]⟩) rfl rfl (.inl rfl) serial s

theorem itemNoticeAck_matching {m : Outstanding} (hm : s.notices.outstanding = some m) (hseq : m.seq = seq) :
    itemNoticeAck [seq] s = acts .done (acknowledge s) := by
  simp only [itemNoticeAck, hm, if_pos hseq]

/-- The Notice Unit once the outstanding message has ended, before the transfer of the lost count. -/
def ended (n : NoticeUnit) : NoticeUnit :=
  { setList (uncarried n) n with outstanding := none, state := .ready, copy := .idle, timer := none, retries := 0 }

theorem acknowledged_eq : acknowledged frame n = transferLost frame (ended n) := rfl

/-- The Notice Unit after an acknowledgement, by its list and lost count. -/
def endedWith (list : List NoticeEntry) (lost : Num) (n : NoticeUnit) : NoticeUnit :=
  { n with
    list := list, alert := decide (list ≠ []), lost := lost
    outstanding := none, state := .ready, copy := .idle, timer := none, retries := 0 }

theorem ended_eq : ended n = endedWith (uncarried n) n.lost n := by
  unfold ended endedWith setList
  rw [setList_alert]

theorem setList_ended (list : List NoticeEntry) : { setList list (ended n) with lost := 0 } = endedWith list 0 n := by
  unfold endedWith
  rw [← setList_alert]
  rfl

theorem withdrawn_eq (ms : List OutgoingMessage) :
    withdrawn ms = ms.filter fun m => !decide (m.kind = .notice ∧ m.given = 0) := by
  simp only [withdrawn, Bool.decide_and]

theorem acknowledge_eq {list : List NoticeEntry} {lost : Num}
    (h : acknowledged s.timing.number s.notices = endedWith list lost s.notices) :
    acknowledge s =
      { s with
        notices := endedWith list lost s.notices
        channel := { s.channel with
          outgoing := s.channel.outgoing.filter fun n => !decide (n.kind = .notice ∧ n.given = 0) } } := by
  unfold acknowledge
  rw [h, withdrawn_eq]

/-- Settles O48: the list and the lost count by the transfer of R150. -/
theorem acknowledgementEndsTheOutstandingMessage : Obligations.AcknowledgementEndsTheOutstandingMessage := by
  unfold Obligations.AcknowledgementEndsTheOutstandingMessage
  intro serial seq s m left sum hm hseq hleft hsum
  have hleft : uncarried s.notices = left := hleft.symm
  have hcarried : ∀ e ∈ left, e.carried = false := by
    rw [← hleft]
    intro e he
    simpa using (List.mem_filter.1 he).2
  have hsum : ∀ d, overflowData s.notices.lost d = sum d := fun d =>
    (overflowData_eq s.notices.lost d).trans (hsum d).symm
  have hlist : (ended s.notices).list = left := hleft
  have hlost : (ended s.notices).lost = s.notices.lost := rfl
  have hanswer : ∀ list lost, acknowledged s.timing.number s.notices = endedWith list lost s.notices →
      judgeItem false serial { kind := 0x12#8, args := [seq] } s = acts .done
        { s with
          notices := endedWith list lost s.notices
          channel := { s.channel with
            outgoing := s.channel.outgoing.filter fun n => !decide (n.kind = .notice ∧ n.given = 0) } } :=
    fun list lost h => by rw [judgeItem_noticeAck, itemNoticeAck_matching hm hseq, acknowledge_eq h]
  by_cases hstays : s.notices.lost = 0 ∨ 16 ≤ left.length
  · refine ⟨left, s.notices.lost, hanswer _ _ ?_, fun _ => ⟨rfl, rfl⟩, fun hne hlt => ?_⟩
    · rw [acknowledged_eq, transferLost_none (by rwa [hlist, hlost]), ended_eq, hleft]
    · exact absurd hstays (not_or.2 ⟨hne, Nat.not_le.2 hlt⟩)
  obtain ⟨hne, hroom⟩ := not_or.1 hstays
  have hroom := Nat.not_le.1 hroom
  by_cases hwaits : left.any (waitsFor .overflow .none) = true
  · refine ⟨left.map fun e =>
        if e.kind = .overflow ∧ e.subject = .none then coalesce s.timing.number (sum e.data) e else e,
      0, hanswer _ _ ?_, fun h => absurd h hstays, fun _ _ => ⟨rfl, fun _ => ?_, fun hnone => ?_⟩⟩
    · rw [acknowledged_eq, transferLost_added (by rwa [hlost]) (by rwa [hlist]) (by rwa [hlist]), setList_ended, hlist, hlost]
      refine congrArg (endedWith · 0 s.notices) (List.map_congr_left fun e he => ?_)
      rw [hsum]
      exact if_congr (waitsFor_iff (hcarried e he)) rfl rfl
    · simp only [coalesce_eq]
    · obtain ⟨e, he, hkind⟩ := (any_waitsFor_iff hcarried).1 hwaits
      exact absurd hkind (hnone e he)
  · refine ⟨left ++ [freshEntry .overflow .none s.timing.number (octets2 s.notices.lost)], 0, hanswer _ _ ?_,
      fun h => absurd h hstays, fun _ _ => ⟨rfl, fun hsome => ?_, fun _ => rfl⟩⟩
    · rw [acknowledged_eq, transferLost_fresh (by rwa [hlost]) (by rwa [hlist]) (by rw [hlist]; simpa using hwaits),
        setList_ended, hlist, hlost]
    · exact absurd ((any_waitsFor_iff hcarried).2 hsome) hwaits

end Sys2Proof.Acknowledgement
end

section
/-! SUPPORT. Notice messages and their copies (R133, R152, R154): when they are placed, and what they carry. -/

namespace Sys2Proof.NoticeBuilding

open Sys2Proof.Machine

variable {s u : State} {reserved : Nat}

/-! ### The entries a message carries (R154) -/

theorem markCarried_zero (es : List NoticeEntry) : markCarried 0 es = es := by cases es <;> rfl

theorem mark_carried {e : NoticeEntry} (h : e.carried = true) : { e with carried := true } = e := by
  rw [← h]

/-- An entry is marked exactly when fewer than `k` of those before it are not carried. -/
theorem markCarried_eq (es : List NoticeEntry) :
    ∀ k, markCarried k es =
      es.zipIdx.map fun p =>
        if ((es.take p.2).filter fun e => !e.carried).length < k then { p.1 with carried := true } else p.1 := by
  induction es with
  | nil => exact fun _ => rfl
  | cons e es ih =>
    intro k
    have htail : ∀ k', (es.zipIdx 1).map (fun p =>
          if (((e :: es).take p.2).filter fun e => !e.carried).length < k' then { p.1 with carried := true } else p.1) =
        es.zipIdx.map fun p =>
          if ((e :: es.take p.2).filter fun e => !e.carried).length < k' then { p.1 with carried := true } else p.1 := by
      intro k'
      rw [List.zipIdx_succ, List.map_map]
      rfl
    rw [List.zipIdx_cons, List.map_cons, htail]
    cases k with
    | zero => simp [markCarried_zero, List.zipIdx_map_fst]
    | succ k =>
      rw [markCarried]
      by_cases he : e.carried = true
      · simp [he, ih, mark_carried]
      · simp [he, ih]

theorem uncarried_isEmpty_iff (n : NoticeUnit) : (!(uncarried n).isEmpty) = true ↔ chosenEntries n ≠ [] := by
  unfold chosenEntries
  cases uncarried n <;> simp [Config.messageEntries]

/-! ### When a message is placed (R115, R133) -/

theorem slotFree_iff : slotFree reserved s = true ↔ s.channel.outgoing.length + reserved < 4 := by
  simp [slotFree, Config.queueDepth]

theorem noticePlaceable_eq (s : State) :
    noticePlaceable 0 s =
      (decide (s.channel.outgoing.length < 4) && !(s.channel.outgoing.any fun m => decide (m.kind = .notice))) := rfl

theorem noticePlaceable_of_full (h : ¬ s.channel.outgoing.length + reserved < 4) : noticePlaceable reserved s = false := by
  have hfull : slotFree reserved s = false := Bool.eq_false_iff.2 (mt slotFree_iff.1 h)
  simp [noticePlaceable, hfull]

/-- With a slot beyond those held, the slots held do not matter. -/
theorem noticePlaceable_of_room (h : s.channel.outgoing.length + reserved < 4) :
    noticePlaceable reserved s = noticePlaceable 0 s := by
  have hroom : s.channel.outgoing.length + 0 < 4 := by omega
  simp [noticePlaceable, slotFree_iff.2 h, slotFree_iff.2 hroom]

theorem placeCopy_congr {reserved' : Nat} (h : noticePlaceable reserved s = noticePlaceable reserved' s) :
    placeCopy reserved s = placeCopy reserved' s := by
  have hdue : copyDue reserved s = copyDue reserved' s := by simp only [copyDue, h]
  unfold placeCopy
  rw [hdue]

theorem buildNotice_congr {reserved' : Nat} (h : noticePlaceable reserved s = noticePlaceable reserved' s) :
    buildNotice reserved s = buildNotice reserved' s := by
  have hdue : buildDue reserved s = buildDue reserved' s := by simp only [buildDue, h]
  unfold buildNotice
  rw [hdue]

theorem placeCopy_of_unplaceable (h : noticePlaceable reserved s = false) : placeCopy reserved s = s := by
  have hdue : copyDue reserved s = false := by
    unfold copyDue
    split
    · exact h
    · rfl
  unfold placeCopy
  rw [hdue]
  split <;> rfl

theorem buildNotice_of_unplaceable (h : noticePlaceable reserved s = false) : buildNotice reserved s = s :=
  if_neg (by simp [buildDue, h])

/-- A copy that is placed leaves a notice message in the queue; otherwise nothing changes. -/
theorem placeCopy_cases (reserved : Nat) (s : State) :
    placeCopy reserved s = s ∨ noticeQueued (placeCopy reserved s) = true := by
  unfold placeCopy
  split
  · split
    · right
      simp [noticeQueued, placeMessage]
    · exact .inl rfl
  · exact .inl rfl

theorem noticePlaceable_of_queued (h : noticeQueued s = true) : noticePlaceable reserved s = false := by
  simp [noticePlaceable, h]

/-- The moment of the Notice Unit within an execution (R133). -/
theorem noticeMoment_eq (reserved : Nat) (s : State) :
    noticeMoment reserved s =
      if s.channel.outgoing.length + reserved < 4 then buildNotice 0 (placeCopy 0 s) else s := by
  unfold noticeMoment
  split
  · next hroom =>
    have hsame := noticePlaceable_of_room hroom
    rw [placeCopy_congr hsame]
    obtain hstands | hplaced := placeCopy_cases 0 s
    · rw [hstands]
      exact buildNotice_congr hsame
    · exact buildNotice_congr ((noticePlaceable_of_queued hplaced).trans (noticePlaceable_of_queued hplaced).symm)
  · next hfull =>
    have hno := noticePlaceable_of_full hfull
    rw [placeCopy_of_unplaceable hno, buildNotice_of_unplaceable hno]

/-! ### Building and copying -/

theorem buildDue_iff :
    buildDue 0 s = true ↔
      s.notices.state = .ready ∧ s.loader.state ≠ .loading ∧ chosenEntries s.notices ≠ [] ∧ noticePlaceable 0 s = true := by
  rw [← uncarried_isEmpty_iff]
  simp [buildDue, operating, and_assoc]

theorem noticeWords_eq (address seq : Octet) (es : List NoticeEntry) :
    noticeWords address seq es =
      messageWords 63 address 0x03#8
        (seq :: BitVec.ofNat 8 es.length ::
          es.flatMap fun e =>
            [noticeOctet e.kind, subjectOctet e.subject, e.repeats, octetAt e.frame 1, octetAt e.frame 0,
              BitVec.ofNat 8 e.data.length] ++ e.data) := rfl

theorem placeCopy_none (h : s.notices.outstanding = none) : placeCopy reserved s = s := by
  unfold placeCopy
  rw [h]

theorem placeCopy_owed {counts : Bool} {m : Outstanding} (hcopy : s.notices.copy = .owed counts)
    (hm : s.notices.outstanding = some m) :
    placeCopy reserved s =
      if noticePlaceable reserved s then
        placeMessage .notice m.words
          { s with
            notices := { s.notices with
              copy := .queued, retries := if counts then s.notices.retries + 1 else s.notices.retries } }
      else s := by
  have hdue : copyDue reserved s = noticePlaceable reserved s := by simp only [copyDue, hcopy, hm]
  have hplaced : copyPlaced s.notices =
      { s.notices with copy := .queued, retries := if counts then s.notices.retries + 1 else s.notices.retries } := by
    unfold copyPlaced
    rw [hcopy]
    cases counts <;> rfl
  unfold placeCopy
  rw [hm, hdue, hplaced]

theorem placeCopy_notOwed (h : ∀ counts, s.notices.copy ≠ .owed counts) : placeCopy reserved s = s := by
  have hdue : copyDue reserved s = false := by
    unfold copyDue
    split
    · next hcopy _ => exact absurd hcopy (h _)
    · rfl
  unfold placeCopy
  rw [hdue]
  split <;> rfl

/-- Settles O49: the tables by computation, the moment by `noticeMoment_eq`, both commands by their due tests. -/
theorem noticeMessagesAreBuiltAndCopied : Obligations.NoticeMessagesAreBuiltAndCopied := by
  unfold Obligations.NoticeMessagesAreBuiltAndCopied
  refine ⟨?_, ⟨fun l => rfl, fun c => rfl, rfl, rfl, fun l => rfl, rfl, rfl, rfl, rfl, rfl, rfl, by decide⟩, ?_, ?_⟩
  · rintro kinds rfl
    exact ⟨rfl, rfl⟩
  · intro reserved take s htake
    have hbuild : ∀ u, take .noticeMessageBuild u = buildNotice 0 u := fun u =>
      (Host.Outcome.next.inj (htake .noticeMessageBuild u)).symm
    have hplace : ∀ u, take .noticeCopyPlacement u = placeCopy 0 u := fun u =>
      (Host.Outcome.next.inj (htake .noticeCopyPlacement u)).symm
    rw [hbuild, hplace]
    exact noticeMoment_eq reserved s
  · intro s free es words place hfree hes hwords hplace
    have hfree : noticePlaceable 0 s = free := hfree.symm
    have hes : chosenEntries s.notices = es := hes.symm
    have hwords : noticeWords s.address s.notices.nextSeq es = words := hwords.symm
    have hplace : ∀ ws v, placeMessage .notice ws v = place ws v := fun ws v => (hplace ws v).symm
    constructor
    · refine congrArg Host.Outcome.next (if_congr (buildDue_iff.trans (by rw [hes, hfree])) ?_ rfl)
      rw [hplace, hes, hwords, withOutstanding, hes, hwords, markCarried_eq]
    · refine congrArg Host.Outcome.next ?_
      cases hm : s.notices.outstanding with
      | none =>
        rw [placeCopy_none hm]
        cases s.notices.copy <;> rfl
      | some m =>
        by_cases howed : ∃ counts, s.notices.copy = .owed counts
        · obtain ⟨counts, hcopy⟩ := howed
          rw [placeCopy_owed hcopy hm, hfree, hplace, hcopy]
          cases free <;> rfl
        · rw [placeCopy_notOwed fun counts h => howed ⟨counts, h⟩]
          cases hcopy : s.notices.copy with
          | owed counts => exact absurd ⟨counts, hcopy⟩ howed
          | _ => rfl

end Sys2Proof.NoticeBuilding
end

section
/-! SUPPORT. The records of an image (Tables 11-9 and 11-10) as octets, and what the tests of R163 read from them. -/

namespace Sys2Proof.ImageReading

open Sys2Proof.Machine

/-! ### Octets of the flash -/

/-- A stretch of the flash octets that the command carries whole. -/
theorem flashOctets_eq_window {octets : List Octet} {a n : Nat} (h : a + n ≤ octets.length) :
    flashOctets octets a n = (octets.drop a).take n := by
  apply List.ext_getElem
  · simp only [flashOctets, List.length_map, List.length_range, List.length_take, List.length_drop]
    omega
  · intro i hi _
    have hlt : a + i < octets.length := by
      simp only [flashOctets, List.length_map, List.length_range] at hi
      omega
    simp [flashOctets, flashOctet, hlt]

/-- The first octets are those in front of everything else. -/
theorem flashOctets_append (covered more : List Octet) :
    flashOctets (covered ++ more) 0 covered.length = covered := by
  rw [flashOctets_eq_window (by simp), List.drop_zero, List.take_left']
  rfl

theorem flashOctet_append_left {covered more : List Octet} {a : Nat} (h : a < covered.length) :
    flashOctet (covered ++ more) a = covered[a] := by
  simp [flashOctet, List.getElem?_append_left h, h]

theorem flashOctet_append_right (covered more : List Octet) (a : Nat) :
    flashOctet (covered ++ more) (covered.length + a) = flashOctet more a := by
  simp [flashOctet, List.getElem?_append_right]

/-- A number in two octets is read back. -/
theorem num2_ofNat {n : Nat} (h : n < 65536) :
    (num2 (BitVec.ofNat 8 (n / 256)) (BitVec.ofNat 8 n)).toNat = n := by
  simp only [num2, BitVec.toNat_append, BitVec.toNat_ofNat]
  rw [← Nat.shiftLeft_add_eq_or_of_lt (by omega), Nat.shiftLeft_eq]
  omega

/-! ### Records as octets, and read back -/

/-- A record as it stands in the image (Table 11-9). -/
def recordOctets (r : RawRecord) : List Octet :=
  [r.kind, BitVec.ofNat 8 (r.contents.length / 256), BitVec.ofNat 8 r.contents.length] ++ r.contents

/-- A parameter setting as it stands in a record (Table 11-10). -/
def settingOctets (p : Octet × Num) : List Octet := [p.1, octetAt p.2 1, octetAt p.2 0]

theorem takeRecords_recordOctets {rs : List RawRecord} (h : ∀ r ∈ rs, r.contents.length < 65536) :
    takeRecords rs.length (rs.flatMap recordOctets) = some rs := by
  induction rs with
  | nil => rfl
  | cons r rs ih =>
    obtain ⟨hr, hrs⟩ := List.forall_mem_cons.1 h
    have hlength := num2_ofNat hr
    simp only [List.flatMap_cons, List.length_cons, recordOctets, List.cons_append, List.nil_append, takeRecords, hlength]
    rw [if_pos (by simp), List.drop_left', List.take_left', ih hrs]
    all_goals rfl

theorem takeSettings_settingOctets (ss : List (Octet × Num)) : takeSettings (ss.flatMap settingOctets) = some ss := by
  induction ss with
  | nil => rfl
  | cons p ss ih =>
    simp only [List.flatMap_cons, settingOctets, List.cons_append, List.nil_append, takeSettings]
    rw [Octets.num2_octets]
    exact congrArg (Option.map _) ih

theorem readRecords_map {α : Type} {raw : α → RawRecord} {record : α → ImageRecord} {rs : List α}
    (h : ∀ r ∈ rs, readRecord (raw r) = some (record r)) : readRecords (rs.map raw) = some (rs.map record) := by
  induction rs with
  | nil => rfl
  | cons r rs ih =>
    obtain ⟨hr, hrs⟩ := List.forall_mem_cons.1 h
    simp only [List.map_cons, readRecords, hr, ih hrs]

/-- A record that is read comes from one that stands in the image. -/
theorem readRecords_mem {raws : List RawRecord} {rs : List ImageRecord} (h : readRecords raws = some rs) :
    ∀ r ∈ rs, ∃ raw ∈ raws, readRecord raw = some r := by
  induction raws generalizing rs with
  | nil =>
    obtain rfl := Option.some.inj h
    simp
  | cons raw raws ih =>
    rw [readRecords] at h
    split at h
    · next first later hfirst hlater =>
      obtain rfl := Option.some.inj h
      intro r hr
      rcases List.mem_cons.1 hr with rfl | hr
      · exact ⟨raw, by simp, hfirst⟩
      · obtain ⟨raw', hmem, hread⟩ := ih hlater r hr
        exact ⟨raw', by simp [hmem], hread⟩
    · cases h

/-- The run of a MAP_RANGE record is what its octets give. -/
theorem readRecord_mapRange {raw : RawRecord} {run : RawRun} (h : readRecord raw = some (.mapRange run)) :
    rawRun raw.contents = some run := by
  unfold readRecord at h
  split_ifs at h
  · split at h
    · obtain ⟨ss, -, heq⟩ := Option.map_eq_some_iff.1 h
      cases heq
    · cases h
  · obtain ⟨ss, -, heq⟩ := Option.map_eq_some_iff.1 h
    cases heq
  · obtain ⟨run', hrun, heq⟩ := Option.map_eq_some_iff.1 h
    cases heq
    exact hrun

theorem rawRun_count {octets : List Octet} {run : RawRun} (h : rawRun octets = some run) :
    run.entries.length = run.count.toNat := by
  rcases octets with _ | ⟨l, _ | ⟨f, _ | ⟨n, rest⟩⟩⟩
  case cons.cons.cons =>
    obtain ⟨es, hcount, -, rfl⟩ := MapEntries.rawRun_iff.1 h
    exact hcount
  all_goals cases h

theorem checkEntries_length {es : List RawEntry} {entries : List Entry} (h : checkEntries es = some entries) :
    entries.length = es.length := by
  induction es generalizing entries with
  | nil =>
    obtain rfl := Option.some.inj h
    rfl
  | cons e es ih =>
    rw [checkEntries] at h
    split at h
    · next first later _ hlater =>
      obtain rfl := Option.some.inj h
      simp [ih hlater]
    · cases h

/-- A run that passes its second test lies within the lane. -/
theorem checkRun_inLane {raw : RawRun} {r : Run} (hcount : raw.entries.length = raw.count.toNat)
    (h : checkRun raw = some r) : 1 ≤ r.entries.length ∧ r.first + r.entries.length ≤ 40 := by
  have hslots := (MapEntries.checkRun_isSome_iff.1 (Option.isSome_of_eq_some h)).1
  obtain ⟨-, -, hone, -, hsum⟩ := hslots
  unfold checkRun at h
  split at h
  · next l es _ hes =>
    split at h
    · obtain rfl := Option.some.inj h
      rw [checkEntries_length hes, hcount]
      exact ⟨hone, hsum⟩
    · cases h
  · cases h

theorem mem_imageOf_runs {rs : List ImageRecord} {r : Run} :
    r ∈ (imageOf rs).runs ↔ ∃ raw, ImageRecord.mapRange raw ∈ rs ∧ checkRun raw = some r := by
  induction rs with
  | nil => simp [imageOf]
  | cons record rs ih =>
    cases record with
    | device a ss => simpa [imageOf] using ih
    | lane ss => simpa [imageOf] using ih
    | mapRange raw =>
      rw [imageOf]
      cases hrun : checkRun raw with
      | none =>
        simp only [ih, List.mem_cons, ImageRecord.mapRange.injEq]
        constructor
        · rintro ⟨raw', hmem, hr⟩
          exact ⟨raw', .inr hmem, hr⟩
        · rintro ⟨raw', rfl | hmem, hr⟩
          · rw [hrun] at hr
            cases hr
          · exact ⟨raw', hmem, hr⟩
      | some run =>
        simp only [List.mem_cons, ih, ImageRecord.mapRange.injEq]
        constructor
        · rintro (rfl | ⟨raw', hmem, hr⟩)
          · exact ⟨raw, .inl rfl, hrun⟩
          · exact ⟨raw', .inr hmem, hr⟩
        · rintro ⟨raw', rfl | hmem, hr⟩
          · exact .inl (Option.some.inj (hr.symm.trans hrun))
          · exact .inr ⟨raw', hmem, hr⟩

/-! ### What a verified image has passed -/

theorem settingInRange_iff {p : Octet × Num} :
    settingInRange p = true ↔ ∃ q, paramOf p.1 = some q ∧ paramInRange q p.2 = true := by
  unfold settingInRange
  cases paramOf p.1 <;> simp

theorem deviceIdentifier_iff {i : Octet} :
    deviceIdentifier i = true ↔ (2 ≤ i.toNat ∧ i.toNat ≤ 8) ∨ (13 ≤ i.toNat ∧ i.toNat ≤ 19) := by
  simp [deviceIdentifier]

theorem laneIdentifier_iff {i : Octet} : laneIdentifier i = true ↔ 9 ≤ i.toNat ∧ i.toNat ≤ 12 := by
  simp [laneIdentifier]

/-- The records of a verified image, with the tests they have passed named. -/
structure RecordsPassed (rs : List ImageRecord) : Prop where
  devices : (rs.filter isDevice).length ≤ 1
  lanes : (rs.filter isLaneRecord).length ≤ 1
  device : ∀ a ss, ImageRecord.device a ss ∈ rs → a.toNat ≤ 30 ∧ ∀ p ∈ ss,
    deviceIdentifier p.1 = true ∧ settingInRange p = true
  lane : ∀ ss, ImageRecord.lane ss ∈ rs → ∀ p ∈ ss, laneIdentifier p.1 = true ∧ settingInRange p = true
  runs : ∀ raw, ImageRecord.mapRange raw ∈ rs → (checkRun raw).isSome

theorem recordsPass_iff {rs : List ImageRecord} : recordsPass rs = true ↔ RecordsPassed rs := by
  simp only [recordsPass, Bool.and_eq_true, decide_eq_true_eq, List.all_eq_true, List.countP_eq_length_filter]
  constructor
  · rintro ⟨⟨⟨hdevices, hlanes⟩, hnamed⟩, hvalues⟩
    refine ⟨hdevices, hlanes, fun a ss h => ?_, fun ss h p hp => ?_, fun raw h => hvalues _ h⟩
    · have hids : ∀ p ∈ ss, deviceIdentifier p.1 = true := List.all_eq_true.1 (hnamed _ h)
      have hrange := hvalues _ h
      simp only [valuesInRange, Bool.and_eq_true, decide_eq_true_eq, List.all_eq_true] at hrange
      exact ⟨hrange.1, fun p hp => ⟨hids p hp, hrange.2 p hp⟩⟩
    · have hids : ∀ p ∈ ss, laneIdentifier p.1 = true := List.all_eq_true.1 (hnamed _ h)
      have hrange : ∀ p ∈ ss, settingInRange p = true := List.all_eq_true.1 (hvalues _ h)
      exact ⟨hids p hp, hrange p hp⟩
  · intro h
    refine ⟨⟨⟨h.devices, h.lanes⟩, fun r hr => ?_⟩, fun r hr => ?_⟩
    · cases r with
      | device a ss => exact List.all_eq_true.2 fun p hp => ((h.device a ss hr).2 p hp).1
      | lane ss => exact List.all_eq_true.2 fun p hp => (h.lane ss hr p hp).1
      | mapRange raw => rfl
    · cases r with
      | device a ss =>
        obtain ⟨ha, hss⟩ := h.device a ss hr
        simpa [valuesInRange, ha] using fun i v hp => (hss (i, v) hp).2
      | lane ss => exact List.all_eq_true.2 fun p hp => (h.lane ss hr p hp).2
      | mapRange raw => exact h.runs raw hr

/-- A setting of a verified image names a parameter that an image may carry, with a value in range. -/
theorem RecordsPassed.setting {rs : List ImageRecord} (h : RecordsPassed rs) {p : Octet × Num}
    (hp : p ∈ (imageOf rs).settings) : 2 ≤ p.1.toNat ∧ p.1.toNat ≤ 19 ∧ settingInRange p = true := by
  obtain ⟨r, hr, ⟨a, ss, rfl, hmem⟩ | ⟨ss, rfl, hmem⟩⟩ := ImageFacts.mem_imageOf_settings hp
  · obtain ⟨hid, hrange⟩ := (h.device a ss hr).2 p hmem
    have := deviceIdentifier_iff.1 hid
    exact ⟨by omega, by omega, hrange⟩
  · obtain ⟨hid, hrange⟩ := h.lane ss hr p hmem
    have := laneIdentifier_iff.1 hid
    exact ⟨by omega, by omega, hrange⟩

theorem RecordsPassed.address {rs : List ImageRecord} (h : RecordsPassed rs) : (imageOf rs).address.toNat ≤ 30 := by
  rcases ImageFacts.imageOf_address rs with h0 | ⟨a, ss, hmem, ha⟩
  · simp [h0]
  · rw [ha]
    exact (h.device a ss hmem).1

theorem headerPasses_iff {octets : List Octet} :
    headerPasses octets = true ↔
      flashOctet octets 2 = 1#8 ∧ 8 ≤ imageLength octets ∧ imageLength octets ≤ 8192 := by
  simp [headerPasses, and_assoc]

/-- A run that the records of an image carry lies within its lane. -/
theorem imageRecords_run {octets : List Octet} {rs : List ImageRecord} (h : imageRecords octets = some rs) {r : Run}
    (hr : r ∈ (imageOf rs).runs) : 1 ≤ r.entries.length ∧ r.first + r.entries.length ≤ 40 := by
  obtain ⟨raws, -, hraws⟩ := Option.bind_eq_some_iff.1 h
  obtain ⟨run, hmem, hrun⟩ := mem_imageOf_runs.1 hr
  obtain ⟨raw, -, hread⟩ := readRecords_mem hraws _ hmem
  exact checkRun_inLane (rawRun_count (readRecord_mapRange hread)) hrun

/-! ### An image as Tables 11-9 and 11-10 lay it out -/

/-- What a record carries: a DEVICE record's address and settings, a LANE record's settings, a MAP_RANGE record's
run. -/
abbrev Carried : Type := (Octet × List (Octet × Num)) ⊕ List (Octet × Num) ⊕ (LaneId × Octet × List Entry)

/-- A record with the octets of its contents. -/
def rawRecord : Carried → RawRecord
  | .inl (address, ss) => ⟨0x01#8, address :: ss.flatMap settingOctets⟩
  | .inr (.inl ss) => ⟨0x02#8, ss.flatMap settingOctets⟩
  | .inr (.inr (lane, first, entries)) =>
    ⟨0x03#8, [octetOf lane.val, first, BitVec.ofNat 8 entries.length] ++ entries.flatMap encodeEntry⟩

/-- A record as it is read. -/
def imageRecord : Carried → ImageRecord
  | .inl (address, ss) => .device address ss
  | .inr (.inl ss) => .lane ss
  | .inr (.inr (lane, first, entries)) =>
    .mapRange ⟨octetOf lane.val, first, BitVec.ofNat 8 entries.length, entries.map MapEntries.rawOf⟩

/-- What a record carries passes the tests of R163. -/
def carriedInRange : Carried → Prop
  | .inl (address, ss) => address.toNat ≤ 30 ∧ ∀ p ∈ ss, deviceIdentifier p.1 = true ∧ settingInRange p = true
  | .inr (.inl ss) => ∀ p ∈ ss, laneIdentifier p.1 = true ∧ settingInRange p = true
  | .inr (.inr (_, first, entries)) => 1 ≤ entries.length ∧ first.toNat + entries.length ≤ 40

theorem readRecord_rawRecord {r : Carried} (h : carriedInRange r) : readRecord (rawRecord r) = some (imageRecord r) := by
  rcases r with ⟨address, ss⟩ | ss | ⟨lane, first, entries⟩
  · simp [readRecord, rawRecord, imageRecord, takeSettings_settingOctets]
  · simp [readRecord, rawRecord, imageRecord, takeSettings_settingOctets]
  · have hcount : entries.length ≤ 40 := (Nat.le_add_left _ _).trans h.2
    have hentries : entries.flatMap encodeEntry = (entries.map MapEntries.rawOf).flatMap MapEntries.rawOctets := by
      rw [List.flatMap_map]
      exact List.flatMap_congr fun e _ => MapEntries.encodeEntry_eq e
    have hrun : rawRun (rawRecord (.inr (.inr (lane, first, entries)))).contents =
        some ⟨octetOf lane.val, first, BitVec.ofNat 8 entries.length, entries.map MapEntries.rawOf⟩ :=
      MapEntries.rawRun_iff.2 ⟨_, by simp; omega, hentries, rfl⟩
    simp only [readRecord, hrun]
    rfl

theorem checkRun_imageRecord {lane : LaneId} {first : Octet} {entries : List Entry} (hone : 1 ≤ entries.length)
    (hsum : first.toNat + entries.length ≤ 40) :
    checkRun ⟨octetOf lane.val, first, BitVec.ofNat 8 entries.length, entries.map MapEntries.rawOf⟩ =
      some ⟨lane, first.toNat, entries⟩ := by
  have hcount : (BitVec.ofNat 8 entries.length).toNat = entries.length := by
    simp only [BitVec.toNat_ofNat]
    omega
  apply MapEntries.checkRun_rawOf
  rw [MapEntries.slotsInRange_iff, hcount]
  omega

/-- The image of records that pass: the first address, all settings, all runs. -/
theorem imageOf_imageRecord {rs : List Carried} (h : ∀ r ∈ rs, carriedInRange r) :
    imageOf (rs.map imageRecord) =
      { address := (rs.filterMap fun r => match r with | .inl d => some d.1 | _ => none).headD 0
        settings := rs.flatMap fun r =>
          match r with
          | .inl d => d.2
          | .inr (.inl settings) => settings
          | .inr (.inr _) => []
        runs := rs.filterMap fun r =>
          match r with
          | .inr (.inr (lane, first, entries)) => some { lane := lane, first := first.toNat, entries := entries }
          | _ => none } := by
  induction rs with
  | nil => rfl
  | cons r rs ih =>
    obtain ⟨hr, hrs⟩ := List.forall_mem_cons.1 h
    rcases r with ⟨address, ss⟩ | ss | ⟨lane, first, entries⟩
    · simp [imageOf, imageRecord, ih hrs]
    · simp [imageOf, imageRecord, ih hrs]
    · simp only [List.map_cons, imageOf, imageRecord, checkRun_imageRecord hr.1 hr.2, ih hrs]
      simp

theorem countP_imageRecord (rs : List Carried) :
    ((rs.map imageRecord).filter isDevice).length =
        (rs.filter fun r => match r with | .inl _ => true | _ => false).length ∧
      ((rs.map imageRecord).filter isLaneRecord).length =
        (rs.filter fun r => match r with | .inr (.inl _) => true | _ => false).length := by
  simp only [List.filter_map, List.length_map]
  constructor
  all_goals
    refine congrArg List.length (List.filter_congr fun r _ => ?_)
    rcases r with ⟨address, ss⟩ | ss | ⟨lane, first, entries⟩ <;> rfl

theorem recordsPassed_imageRecord {rs : List Carried} (h : ∀ r ∈ rs, carriedInRange r)
    (hdevices : (rs.filter fun r => match r with | .inl _ => true | _ => false).length ≤ 1)
    (hlanes : (rs.filter fun r => match r with | .inr (.inl _) => true | _ => false).length ≤ 1) :
    RecordsPassed (rs.map imageRecord) := by
  obtain ⟨hd, hl⟩ := countP_imageRecord rs
  refine ⟨hd.trans_le hdevices, hl.trans_le hlanes, fun a ss hmem => ?_, fun ss hmem => ?_, fun raw hmem => ?_⟩
  all_goals
    obtain ⟨r, hr, heq⟩ := List.mem_map.1 hmem
    rcases r with ⟨address, ss'⟩ | ss' | ⟨lane, first, entries⟩ <;> cases heq
    have hrange := h _ hr
  · exact hrange
  · exact hrange
  · rw [checkRun_imageRecord hrange.1 hrange.2]
    rfl

/-- A record's contents are shorter than all octets the check code covers. -/
theorem contents_length_le {raws : List RawRecord} {raw : RawRecord} (h : raw ∈ raws) :
    raw.contents.length ≤ (raws.flatMap recordOctets).length := by
  have := (List.sublist_flatten_of_mem (List.mem_map_of_mem (f := recordOctets) h)).length_le
  rw [List.flatMap_def]
  refine le_trans ?_ this
  simp only [recordOctets, List.cons_append, List.nil_append, List.length_cons]
  omega

/-- The octets an image's check code covers: header and records (Table 11-9), the total length in front of them given. -/
def coveredOctets (total : Nat) (rs : List Carried) : List Octet :=
  [0x5C#8, 0x1E#8, 1#8, BitVec.ofNat 8 rs.length, BitVec.ofNat 8 (total / 256), BitVec.ofNat 8 total] ++
    (rs.map rawRecord).flatMap recordOctets

/-- An image laid out as the tables say, whatever stands behind it, passes every test. -/
theorem judgeImage_laidOut {rs : List Carried} {covered more : List Octet} (hrange : ∀ r ∈ rs, carriedInRange r)
    (hdevices : (rs.filter fun r => match r with | .inl _ => true | _ => false).length ≤ 1)
    (hlanes : (rs.filter fun r => match r with | .inr (.inl _) => true | _ => false).length ≤ 1)
    (hcount : rs.length ≤ 255) (hlength : covered.length ≤ 8190)
    (hcovered : covered = coveredOctets (covered.length + 2) rs) :
    judgeImage (covered ++ [octetAt (checkCode covered) 1, octetAt (checkCode covered) 0] ++ more) =
      .verified (imageOf (rs.map imageRecord)) := by
  generalize hoctets : covered ++ [octetAt (checkCode covered) 1, octetAt (checkCode covered) 0] ++ more = octets
  obtain rfl : octets = covered ++ (octetAt (checkCode covered) 1 :: octetAt (checkCode covered) 0 :: more) := by
    rw [← hoctets, List.append_assoc]
    rfl
  generalize htail : (octetAt (checkCode covered) 1 :: octetAt (checkCode covered) 0 :: more) = tail
  have hsix : 6 + ((rs.map rawRecord).flatMap recordOctets).length = covered.length := by
    refine Eq.trans ?_ (congrArg List.length hcovered).symm
    rw [coveredOctets, List.length_append]
    rfl
  have hfront : ∀ a (h : a < 6), flashOctet (covered ++ tail) a =
      ([0x5C#8, 0x1E#8, 1#8, BitVec.ofNat 8 rs.length, BitVec.ofNat 8 ((covered.length + 2) / 256),
        BitVec.ofNat 8 (covered.length + 2)] : List Octet)[a] := by
    intro a h
    rw [flashOctet_append_left (by omega)]
    have hget : covered[a]? = (coveredOctets (covered.length + 2) rs)[a]? := congrArg (·[a]?) hcovered
    rw [coveredOctets, List.getElem?_append_left (by simpa using h)] at hget
    exact (List.getElem_eq_iff _).2 (hget.trans (List.getElem?_eq_getElem _))
  have htotal : imageLength (covered ++ tail) = covered.length + 2 := by
    rw [imageLength, hfront 4 (by decide), hfront 5 (by decide)]
    exact num2_ofNat (by omega)
  have hrecords : imageRecords (covered ++ tail) = some (rs.map imageRecord) := by
    have hn : (flashOctet (covered ++ tail) 3).toNat = (rs.map rawRecord).length := by
      rw [hfront 3 (by decide), List.length_map]
      change (BitVec.ofNat 8 rs.length).toNat = _
      simp only [BitVec.toNat_ofNat]
      omega
    have harea : flashOctets (covered ++ tail) 6 (imageLength (covered ++ tail) - 8) =
        (rs.map rawRecord).flatMap recordOctets := by
      rw [htotal, flashOctets_eq_window (by simp; omega), List.drop_append_of_le_length (by omega),
        List.take_append_of_le_length (by simp)]
      have hdrop : covered.drop 6 = (rs.map rawRecord).flatMap recordOctets :=
        (congrArg (List.drop 6) hcovered).trans (List.drop_left' rfl)
      rw [hdrop, List.take_of_length_le (by omega)]
    have htaken : takeRecords (rs.map rawRecord).length ((rs.map rawRecord).flatMap recordOctets) = some (rs.map rawRecord) :=
      takeRecords_recordOctets fun raw hraw => by
        have := contents_length_le hraw
        omega
    rw [imageRecords, hn, harea, htaken, Option.bind_some]
    exact readRecords_map fun r hr => readRecord_rawRecord (hrange r hr)
  have hcheck : imageCheckGood (covered ++ tail) = true := by
    have hhigh : flashOctet (covered ++ tail) covered.length = octetAt (checkCode covered) 1 := by
      rw [← htail]
      exact flashOctet_append_right covered _ 0
    have hlow : flashOctet (covered ++ tail) (covered.length + 1) = octetAt (checkCode covered) 0 := by
      rw [← htail]
      exact flashOctet_append_right covered _ 1
    have hat : covered.length + 2 - 2 = covered.length ∧ covered.length + 2 - 1 = covered.length + 1 := by omega
    rw [imageCheckGood, htotal, hat.1, hat.2, flashOctets_append, hhigh, hlow, Octets.num2_octets]
    exact decide_eq_true rfl
  have hmarker : num2 (flashOctet (covered ++ tail) 0) (flashOctet (covered ++ tail) 1) = Config.imageMarker := by
    rw [hfront 0 (by decide), hfront 1 (by decide)]
    exact (by decide : num2 0x5C#8 0x1E#8 = Config.imageMarker)
  have hheader : headerPasses (covered ++ tail) = true :=
    headerPasses_iff.2 ⟨hfront 2 (by decide), by omega, by omega⟩
  exact ImageFacts.judgeImage_verified_iff.2
    ⟨hmarker, hheader, _, hrecords, recordsPass_iff.2 (recordsPassed_imageRecord hrange hdevices hlanes), hcheck, rfl⟩

/-- Settles O50: what a verified image has passed is read off its tests, and a laid-out image is read back record by
record. -/
theorem imageIsJudgedByItsTests : Obligations.ImageIsJudgedByItsTests := by
  unfold Obligations.ImageIsJudgedByItsTests
  constructor
  · intro octets at' total hat htotal
    obtain rfl : at' = flashOctet octets := funext hat
    obtain rfl : total = imageLength octets := htotal
    refine ⟨ImageFacts.judgeImage_absent_iff octets, fun im him => ?_⟩
    obtain ⟨-, hheader, rs, hrecords, hpass, hcheck, rfl⟩ := ImageFacts.judgeImage_verified_iff.1 him
    obtain ⟨hversion, hleast, hmost⟩ := headerPasses_iff.1 hheader
    have hpassed := recordsPass_iff.1 hpass
    have hcode : checkCode ((List.range (imageLength octets - 2)).map (flashOctet octets)) =
        flashOctet octets (imageLength octets - 2) ++ flashOctet octets (imageLength octets - 1) := by
      have := of_decide_eq_true hcheck
      simp only [flashOctets, Nat.zero_add] at this
      exact this
    refine ⟨hversion, hleast, hmost, hcode, hpassed.address, fun p hp => ?_, fun r hr => imageRecords_run hrecords hr, rs,
      hrecords, rfl, hpassed.devices, hpassed.lanes, fun a ss h => ?_, fun ss h p hp => ?_, fun run h => ?_⟩
    · obtain ⟨hlow, hhigh, hin⟩ := hpassed.setting hp
      exact ⟨hlow, hhigh, settingInRange_iff.1 hin⟩
    · obtain ⟨ha, hss⟩ := hpassed.device a ss h
      exact ⟨ha, fun p hp => deviceIdentifier_iff.1 (hss p hp).1⟩
    · exact laneIdentifier_iff.1 (hpassed.lane ss h p hp).1
    · obtain ⟨r, hr⟩ := Option.isSome_iff_exists.1 (hpassed.runs run h)
      exact ⟨r, mem_imageOf_runs.2 ⟨run, h, hr⟩, hr⟩
  · intro rs setting record covered more hdevices hlanes hrange hsetting hrecord hcount hlength hcovered
    obtain rfl : setting = settingOctets := funext hsetting
    obtain rfl : record = fun kind contents => recordOctets ⟨kind, contents⟩ :=
      funext fun kind => funext fun contents => hrecord kind contents
    have hin : ∀ r ∈ rs, carriedInRange r := by
      intro r hr
      have h := hrange r hr
      rcases r with ⟨address, ss⟩ | ss | ⟨lane, first, entries⟩
      · exact ⟨h.1, fun p hp => ⟨deviceIdentifier_iff.2 (h.2 p hp).1, settingInRange_iff.2 (h.2 p hp).2⟩⟩
      · exact fun p hp => ⟨laneIdentifier_iff.2 ⟨(h p hp).1, (h p hp).2.1⟩, settingInRange_iff.2 (h p hp).2.2⟩
      · exact h
    have hlaid : covered = coveredOctets (covered.length + 2) rs := by
      refine hcovered.trans (congrArg _ ?_)
      rw [List.flatMap_map]
      refine List.flatMap_congr fun r _ => ?_
      rcases r with ⟨address, ss⟩ | ss | ⟨lane, first, entries⟩ <;> rfl
    rw [judgeImage_laidOut hin hdevices hlanes hcount hlength hlaid, imageOf_imageRecord hin]
    refine congrArg Verdict.verified ?_
    congr

end Sys2Proof.ImageReading
end

section
/-! SUPPORT. The steps the part takes itself (log 2): what `settle` takes, what is then left to take, and the quiet state. -/

namespace Sys2Proof.Quiet

open Sys2Proof.Machine Sys2Proof.Closure Sys2Proof.CalmEvents

variable {s t u : State}

/-! ### What a start leaves due -/

/-- Nothing that the latest start brought about is due. -/
structure StartTaken (s : State) : Prop where
  copy : copyEndDue s = false
  check : ∀ c, checkEndDue c s = false
  survey : surveyEndDue s = false
  expiry : expiryDue s = false
  attempt : attemptDue s = false

theorem startUnfinished_iff : startUnfinished s = false ↔ StartTaken s := by
  simp only [startUnfinished, Bool.or_eq_false_iff, List.any_eq_false, List.mem_finRange, forall_const, Bool.not_eq_true]
  exact ⟨fun ⟨⟨⟨⟨hcopy, hcheck⟩, hsurvey⟩, hexpiry⟩, hattempt⟩ => ⟨hcopy, hcheck, hsurvey, hexpiry, hattempt⟩,
    fun h => ⟨⟨⟨⟨h.copy, h.check⟩, h.survey⟩, h.expiry⟩, h.attempt⟩⟩

theorem copyEndDue_congr (h : t.map.copy = s.map.copy) : copyEndDue t = copyEndDue s := by simp only [copyEndDue, h]

theorem checkEndDue_congr {c : CheckerId} (h : t.checkers.get c = s.checkers.get c) :
    checkEndDue c t = checkEndDue c s := by
  simp only [checkEndDue, h]

theorem surveyEndDue_congr (h : t.survey = s.survey) : surveyEndDue t = surveyEndDue s := by simp only [surveyEndDue, h]

theorem expiryDue_congr (h : t.notices.timer = s.notices.timer) : expiryDue t = expiryDue s := by simp only [expiryDue, h]

theorem attemptDue_congr (h : t.loader.next = s.loader.next) : attemptDue t = attemptDue s := by simp only [attemptDue, h]

/-- A run that has ended is not to be ended. -/
theorem checkEndDue_of_ended {c : CheckerId} {r : CheckResult} {k : Checker} (h : t.checkers.get c = endedChecker r k) :
    checkEndDue c t = false := by
  simp [checkEndDue, h, checking, endedChecker]

/-- Of the five fields at stake none has changed. -/
theorem StartTaken.congr (h : StartTaken s) (hcopy : t.map.copy = s.map.copy) (hcheckers : t.checkers = s.checkers)
    (hsurvey : t.survey = s.survey) (htimer : t.notices.timer = s.notices.timer) (hnext : t.loader.next = s.loader.next) :
    StartTaken t :=
  ⟨(copyEndDue_congr hcopy).trans h.copy, fun c => (checkEndDue_congr (by rw [hcheckers])).trans (h.check c),
    (surveyEndDue_congr hsurvey).trans h.survey, (expiryDue_congr htimer).trans h.expiry,
    (attemptDue_congr hnext).trans h.attempt⟩

/-! ### Each own step takes what is due, and nothing where it is not -/

theorem takeCopyEnd_idle (h : copyEndDue s = false) : takeCopyEnd s = s := if_neg (by simp [h])

theorem takeCheckEnd_idle {c : CheckerId} (h : checkEndDue c s = false) : takeCheckEnd c s = s := if_neg (by simp [h])

theorem takeSurveyEnd_idle (h : surveyEndDue s = false) : takeSurveyEnd s = s := if_neg (by simp [h])

theorem takeExpiry_idle (h : expiryDue s = false) : takeExpiry s = s := if_neg (by simp [h])

theorem beginAttempt_idle (h : attemptDue s = false) : beginAttempt s = s := if_neg (by simp [h])

theorem storeOwedAbort_idle (h : abortDue s = false) : storeOwedAbort s = s := if_neg (by simp [h])

theorem buildNotice_idle {r : Nat} (h : buildDue r s = false) : buildNotice r s = s := if_neg (by simp [h])

theorem placeCopy_idle {r : Nat} (h : copyDue r s = false) : placeCopy r s = s := by
  unfold placeCopy
  rw [h]
  split <;> rfl

theorem takeCopyEnd_taken (s : State) : copyEndDue (takeCopyEnd s) = false := by
  cases h : copyEndDue s
  · rwa [takeCopyEnd_idle h]
  · rw [takeCopyEnd, if_pos h]
    simp [copyEndDue]

theorem takeCheckEnd_taken (c : CheckerId) (s : State) : checkEndDue c (takeCheckEnd c s) = false := by
  cases h : checkEndDue c s
  · rwa [takeCheckEnd_idle h]
  · rw [takeCheckEnd, if_pos h]
    exact checkEndDue_of_ended (r := countedResult (s.checkers.get c)) (k := s.checkers.get c) (by simp [endChecker])

theorem takeSurveyEnd_taken (s : State) : surveyEndDue (takeSurveyEnd s) = false := by
  cases h : surveyEndDue s
  · rwa [takeSurveyEnd_idle h]
  · rw [takeSurveyEnd, if_pos h]
    simp [surveyEndDue]

theorem expired_timer (n : Num) (v : NoticeUnit) : (expired n v).timer = none := by
  unfold expired
  split <;> rfl

theorem takeExpiry_taken (s : State) : expiryDue (takeExpiry s) = false := by
  cases h : expiryDue s
  · rwa [takeExpiry_idle h]
  · rw [takeExpiry, if_pos h]
    simp [expiryDue, expired_timer]

theorem beginAttempt_taken (s : State) : attemptDue (beginAttempt s) = false := by
  cases h : attemptDue s
  · rwa [beginAttempt_idle h]
  · rw [beginAttempt, if_pos h]
    rfl

theorem storeOwedAbort_taken (s : State) : abortDue (storeOwedAbort s) = false := by
  cases h : abortDue s
  · rwa [storeOwedAbort_idle h]
  · rw [storeOwedAbort, if_pos h]
    rfl

/-- The end of one run does not make another run's end due. -/
theorem takeCheckEnd_check {c d : CheckerId} (h : checkEndDue d s = false) : checkEndDue d (takeCheckEnd c s) = false := by
  obtain hd | ⟨r, hd⟩ := (takeCheckEnd_calm c s).checkers d
  · rwa [checkEndDue_congr hd]
  · exact checkEndDue_of_ended hd

theorem takeCheckEnds_check (cs : List CheckerId) {d : CheckerId} :
    ∀ s : State, d ∈ cs ∨ checkEndDue d s = false → checkEndDue d (cs.foldl (fun s c => takeCheckEnd c s) s) = false := by
  induction cs with
  | nil => exact fun s h => h.resolve_left (by simp)
  | cons c cs ih =>
    intro s h
    refine ih _ ?_
    rcases h with h | h
    · rcases List.mem_cons.1 h with rfl | h
      · exact .inr (takeCheckEnd_taken d s)
      · exact .inl h
    · exact .inr (takeCheckEnd_check h)

/-- After `finishStart` nothing that the start brought about is due. -/
theorem finishStart_taken (s : State) : StartTaken (finishStart s) := by
  have hfold := foldl_calm (f := fun s c => takeCheckEnd c s) (fun c s => takeCheckEnd_calm c s) (List.finRange 4)
    (takeCopyEnd s)
  unfold finishStart
  generalize hv : (List.finRange 4).foldl (fun s c => takeCheckEnd c s) (takeCopyEnd s) = v at hfold ⊢
  refine ⟨?_, fun c => ?_, ?_, ?_, beginAttempt_taken _⟩
  · have hmap : v.map = (takeCopyEnd s).map := by simp [hfold.kept.1]
    rw [copyEndDue_congr (s := takeCopyEnd s) (by simp [hmap])]
    exact takeCopyEnd_taken s
  · rw [checkEndDue_congr (s := v) (by simp), ← hv]
    exact takeCheckEnds_check _ _ (.inl (List.mem_finRange c))
  · rw [surveyEndDue_congr (s := takeSurveyEnd v) (by simp)]
    exact takeSurveyEnd_taken v
  · rw [expiryDue_congr (s := takeExpiry (takeSurveyEnd v)) (by simp)]
    exact takeExpiry_taken _

/-! ### What keeps it so -/

/-- A survey that runs ran before with as many frames remaining. -/
def SurveyStill (s t : State) : Prop :=
  t.survey.state = .running → s.survey.state = .running ∧ t.survey.remaining = s.survey.remaining

theorem SurveyStill.of_eq (h : t.survey = s.survey) : SurveyStill s t := by
  intro hrunning
  rw [h] at hrunning ⊢
  exact ⟨hrunning, rfl⟩

theorem SurveyStill.trans (h : SurveyStill s t) (h' : SurveyStill t u) : SurveyStill s u := by
  intro hrunning
  obtain ⟨hrunning, hremaining⟩ := h' hrunning
  exact ⟨(h hrunning).1, hremaining.trans (h hrunning).2⟩

theorem SurveyStill.due (h : SurveyStill s t) (hs : surveyEndDue s = false) : surveyEndDue t = false := by
  refine Bool.eq_false_iff.2 fun ht => Bool.eq_false_iff.1 hs ?_
  obtain ⟨hrunning, hnone⟩ := OwnSteps.surveyEndDue_iff.1 ht
  obtain ⟨hbefore, hremaining⟩ := h hrunning
  exact OwnSteps.surveyEndDue_iff.2 ⟨hbefore, hremaining ▸ hnone⟩

theorem surveySyncLoss_still (l : LaneId) (s : State) : SurveyStill s (surveySyncLoss l s) := by
  unfold surveySyncLoss
  split
  · exact fun h => ⟨h, rfl⟩
  · exact .of_eq rfl

theorem abortSurvey_still (l : LaneId) (s : State) : SurveyStill s (abortSurvey l s) := by
  unfold abortSurvey
  split
  · intro h
    simp at h
  · exact .of_eq rfl

theorem laneGone_still (l : LaneId) (s : State) : SurveyStill s (laneGone l s) := .of_eq (by simp)

theorem loseAlignment_still (l : LaneId) (cause : Octet) (s : State) : SurveyStill s (loseAlignment l cause s) := by
  have hraised : SurveyStill s
      (raise .syncLost (.lane l) (syncLostData cause (s.lanes.get l)) (setLane l (lostLane (s.lanes.get l)) s)) :=
    .of_eq (by simp)
  refine hraised.trans ((surveySyncLoss_still l _).trans ((laneGone_still l _).trans (.of_eq ?_)))
  simp [loseAlignment]

theorem resetLane_still (l : LaneId) (s : State) : SurveyStill s (resetLane l s) := by
  unfold resetLane
  split
  · exact .of_eq rfl
  · exact (laneGone_still l s).trans (abortSurvey_still l _)
  · exact (SurveyStill.of_eq (by simp [abandonConfirm])).trans (abortSurvey_still l _)
  · exact (loseAlignment_still l _ s).trans (abortSurvey_still l _)
  · exact (loseAlignment_still l _ s).trans (abortSurvey_still l _)

theorem switchLane_still (before after : Num) (l : LaneId) (s : State) : SurveyStill s (switchLane before after s l) := by
  unfold switchLane
  split
  · exact ((SurveyStill.of_eq (by simp)).trans (laneGone_still l _)).trans (abortSurvey_still l _)
  · exact .of_eq (by simp)
  · exact .of_eq rfl

theorem writeIngressEnable_still (v : Num) (s : State) : SurveyStill s (writeIngressEnable v s) := by
  have hfold : ∀ (ls : List LaneId) (u : State), SurveyStill u (ls.foldl (switchLane s.params.ingressEnable v) u) := by
    intro ls
    induction ls with
    | nil => exact fun u => .of_eq rfl
    | cons l ls ih => exact fun u => (switchLane_still _ v l u).trans (ih _)
  exact hfold _ { s with params := { s.params with ingressEnable := v } }

theorem entered_timer {v w : NoticeUnit} (h : Raising.Entered v w) : w.timer = v.timer := by
  induction h with
  | none => rfl
  | more kind subject frame data _ _ ih => simpa using ih

/-- What is calm makes nothing due that a start makes due, a survey being kept from it. -/
theorem StartTaken.calm (h : StartTaken s) (hst : Calm s t) (hsurvey : SurveyStill s t) : StartTaken t := by
  obtain ⟨hmap, -, -, -, -, hloader, -⟩ := hst.kept
  refine ⟨(copyEndDue_congr (by rw [hmap])).trans h.copy, fun c => ?_, hsurvey.due h.survey,
    (expiryDue_congr (entered_timer hst.notices)).trans h.expiry, (attemptDue_congr (by rw [hloader])).trans h.attempt⟩
  obtain hc | ⟨r, hc⟩ := hst.checkers c
  · exact (checkEndDue_congr hc).trans (h.check c)
  · exact checkEndDue_of_ended hc

theorem StartTaken.storeParam (h : StartTaken s) (p : Param) (v : Num) : StartTaken (Machine.storeParam p v s) := by
  cases p with
  | ingressEnable =>
    have hparams : StartTaken { s with params := { s.params with ingressEnable := v } } := h.congr rfl rfl rfl rfl rfl
    exact hparams.calm (writeIngressEnable_calm v s) (writeIngressEnable_still v s)
  | _ => exact h.congr rfl rfl rfl rfl rfl

theorem transferLost_timer (frame : Num) (v : NoticeUnit) : (transferLost frame v).timer = v.timer := by
  unfold transferLost
  (repeat' split) <;> rfl

theorem acknowledged_timer (frame : Num) (v : NoticeUnit) : (acknowledged frame v).timer = none := by
  rw [acknowledged, transferLost_timer]

theorem StartTaken.item {n : Nat} (h : StartTaken s) (he : ItemEffect n s t) : StartTaken t := by
  cases he with
  | param p v => exact h.storeParam p v
  | laneReset l => exact h.calm (resetLane_calm l s) (resetLane_still l s)
  | checkStop c => exact h.calm (endChecker_calm c _ s) (.of_eq (by simp))
  | checkStart c l slot frames hframes =>
    refine ⟨h.copy, fun d => ?_, h.survey, h.expiry, h.attempt⟩
    have hget := Tab.get_set s.checkers c d (startedChecker l slot frames)
    split at hget
    · have hstarted : checkEndDue d (setChecker c (startedChecker l slot frames) s) =
          (checking (startedChecker l slot frames) && decide (frames = 0)) := congrArg (fun k => checking k && decide (k.remaining = 0)) hget
      rw [hstarted, decide_eq_false hframes, Bool.and_false]
    · exact (checkEndDue_congr hget).trans (h.check d)
  | surveyStart l frames hframes =>
    have hremaining : decide ((startedSurvey l frames).remaining = 0) = false := decide_eq_false hframes
    exact ⟨h.copy, h.check, by rw [surveyEndDue, hremaining, Bool.and_false], h.expiry, h.attempt⟩
  | mapCopy => exact ⟨rfl, h.check, h.survey, h.expiry, h.attempt⟩
  | acknowledge =>
    exact ⟨h.copy, h.check, h.survey, by simp [expiryDue, Machine.acknowledge, acknowledged_timer], h.attempt⟩
  | reload => exact ⟨h.copy, h.check, h.survey, h.expiry, rfl⟩
  | _ => exact h.congr (by simp) (by simp) (by simp) (by simp) (by simp)

theorem StartTaken.build (h : StartTaken s) (r : Nat) : StartTaken (buildNotice r s) := by
  unfold buildNotice
  split
  · exact ⟨h.copy, h.check, h.survey, rfl, h.attempt⟩
  · exact h

theorem copyPlaced_timer (v : NoticeUnit) : (copyPlaced v).timer = v.timer := by
  unfold copyPlaced
  split <;> rfl

theorem placeCopy_timer (r : Nat) (s : State) : (placeCopy r s).notices.timer = s.notices.timer := by
  obtain ⟨-, h⟩ | ⟨-, m, -, h⟩ := placeCopy_cases s r <;> rw [h]
  exact copyPlaced_timer s.notices

theorem StartTaken.place (h : StartTaken s) (r : Nat) : StartTaken (placeCopy r s) :=
  h.congr (by simp) (by simp) (by simp) (placeCopy_timer r s) (by simp)

theorem reported_timer (v : NoticeUnit) : (reported v).timer = v.timer := by
  unfold reported
  split <;> rfl

theorem startTaken_byExecution : ByExecution StartTaken where
  pop _ h := h.congr rfl rfl rfl rfl rfl
  serial _ h := h.congr rfl rfl rfl rfl rfl
  report _ h := h.congr rfl rfl rfl (reported_timer _) rfl
  build r _ h := h.build r
  place r _ h := h.place r
  item _ _ _ _ he h := h.item he
  reply _ _ _ h := h.congr rfl rfl rfl rfl rfl
  cache _ _ h := h.congr rfl rfl rfl rfl rfl
  dropGroup _ h := h.congr rfl rfl rfl rfl rfl
  record _ _ _ _ h := h.congr rfl rfl rfl rfl rfl

/-! ### The owed ABORT -/

/-- An ABORT is owed only while the FIFO is full. -/
def AbortStored (c : Channel) : Prop := c.abortOwed = true → 128 ≤ c.fifo.length

theorem abortDue_eq_false_iff : abortDue s = false ↔ AbortStored s.channel := by
  rw [Bool.eq_false_iff, Ne, OwnSteps.abortDue_iff, not_and, Nat.not_lt]
  rfl

theorem abortStored_abandoned (n : Nat) {c : Channel} (h : AbortStored c) : AbortStored (channelAbandoned n c) := by
  unfold channelAbandoned
  split
  · exact h
  · split
    · exact h
    · split
      · intro howed
        have := h howed
        simp only [List.length_append]
        omega
      · next hfull => exact fun _ => Nat.not_lt.1 hfull

theorem abortStored_item {n : Nat} (he : ItemEffect n s t) (h : AbortStored s.channel) : AbortStored t.channel := by
  obtain hc | hc | hc | hc := ChannelEvents.item_channel he <;> rw [hc]
  · exact h
  · exact abortStored_abandoned _ h
  · exact h
  · exact h

/-! ### What the Notice Unit places -/

/-- Between `s` and `t` of the channel and the dispatcher only the queue of messages has changed, at its end. -/
def OnlyPlaced (s t : State) : Prop :=
  t.dispatcher = s.dispatcher ∧ ∃ ms, t.channel = { s.channel with outgoing := s.channel.outgoing ++ ms }

theorem OnlyPlaced.refl (s : State) : OnlyPlaced s s := ⟨rfl, [], by simp⟩

theorem OnlyPlaced.trans (h : OnlyPlaced s t) (h' : OnlyPlaced t u) : OnlyPlaced s u := by
  obtain ⟨hd, ms, hc⟩ := h
  obtain ⟨hd', ms', hc'⟩ := h'
  exact ⟨hd'.trans hd, ms ++ ms', by rw [hc', hc, List.append_assoc]⟩

theorem buildNotice_placed (r : Nat) (s : State) : OnlyPlaced s (buildNotice r s) := by
  obtain ⟨-, h⟩ | ⟨-, h⟩ := buildNotice_cases s r <;> rw [h]
  · exact .refl s
  · exact ⟨rfl, _, rfl⟩

theorem placeCopy_placed (r : Nat) (s : State) : OnlyPlaced s (placeCopy r s) := by
  obtain ⟨-, h⟩ | ⟨-, m, -, h⟩ := placeCopy_cases s r <;> rw [h]
  · exact .refl s
  · exact ⟨rfl, _, rfl⟩

theorem noticeMoment_placed (r : Nat) (s : State) : OnlyPlaced s (noticeMoment r s) :=
  (placeCopy_placed r s).trans (buildNotice_placed r _)

theorem OnlyPlaced.intake (h : OnlyPlaced s t) : t.channel.intake = s.channel.intake := by
  obtain ⟨-, ms, hc⟩ := h
  rw [hc]

theorem OnlyPlaced.abortStored (h : OnlyPlaced s t) (hs : AbortStored s.channel) : AbortStored t.channel := by
  obtain ⟨-, ms, hc⟩ := h
  rw [hc]
  exact hs

theorem abortStored_byExecution : ByExecution fun s => AbortStored s.channel where
  pop _ h := h
  serial _ h := h
  report _ h := h
  build r s h := (buildNotice_placed r s).abortStored h
  place r s h := (placeCopy_placed r s).abortStored h
  item _ _ _ _ he h := abortStored_item he h
  reply _ _ _ h := h
  cache _ _ h := h
  dropGroup _ h := h
  record _ _ _ _ h := h

theorem copyDue_of_queued {r : Nat} (h : noticeQueued s = true) : copyDue r s = false := by
  unfold copyDue
  split
  · exact NoticeBuilding.noticePlaceable_of_queued h
  · rfl

/-- After a moment of the Notice Unit, with no slots held, it has nothing more to place. -/
theorem noticeMoment_placesAll (s : State) :
    copyDue 0 (noticeMoment 0 s) = false ∧ buildDue 0 (noticeMoment 0 s) = false := by
  have hmoment : noticeMoment 0 s = buildNotice 0 (placeCopy 0 s) := rfl
  rw [hmoment]
  have hcopied : copyDue 0 (placeCopy 0 s) = false := by
    obtain ⟨hidle, h⟩ | ⟨-, m, -, h⟩ := placeCopy_cases s 0 <;> rw [h]
    · exact hidle
    · exact copyDue_of_queued (by simp [noticeQueued, placeMessage])
  generalize placeCopy 0 s = u at hcopied
  obtain ⟨hidle, h⟩ | ⟨-, h⟩ := buildNotice_cases u 0 <;> rw [h]
  · exact ⟨hcopied, hidle⟩
  · exact ⟨rfl, rfl⟩

/-! ### The head of the intake -/

/-- The message at the head of the intake can be executed. -/
def headDue (s : State) : Prop := groupDue s = true ∨ requestDue s = true

theorem headDue_iff :
    headDue s ↔ ∃ m rest, s.channel.intake = m :: rest ∧ s.dispatcher.restart = none ∧
      (m.group = true ∨ s.channel.outgoing.length < 4) := by
  unfold headDue
  cases hintake : s.channel.intake with
  | nil => simp [groupDue, requestDue, hintake]
  | cons m rest =>
    rw [RequestRuns.groupDue_iff hintake, RequestRuns.requestDue_iff hintake]
    cases hgroup : m.group <;> simp [hgroup]

theorem OnlyPlaced.headDue (h : OnlyPlaced s t) (ht : headDue t) : headDue s := by
  obtain ⟨hd, ms, hc⟩ := h
  obtain ⟨m, rest, hintake, hrestart, hroom⟩ := headDue_iff.1 ht
  rw [hc] at hintake hroom
  rw [hd] at hrestart
  refine headDue_iff.2 ⟨m, rest, hintake, hrestart, hroom.imp_right fun hlt => ?_⟩
  simp only [List.length_append] at hlt
  omega

theorem executeRequest_undue (h : requestDue s = false) : executeRequest s = s := by
  unfold executeRequest
  split
  · exact if_neg (by simp [h])
  · rfl

theorem executeGroup_undue (h : groupDue s = false) : executeGroup s = s := by
  unfold executeGroup
  split
  · exact if_neg (by simp [h])
  · rfl

theorem executeHead_idle (h : ¬ headDue s) : executeHead s = s := by
  obtain ⟨hgroup, hrequest⟩ := not_or.1 h
  exact (if_neg hgroup).trans (executeRequest_undue (by simpa using hrequest))

theorem channelAbandoned_intake (n : Nat) (c : Channel) : (channelAbandoned n c).intake = c.intake := by
  unfold channelAbandoned
  (repeat' split) <;> rfl

/-- Items and the moments between them leave the intake. -/
theorem takeAll_intake (group : Bool) (serial : Nat) (items : List RawItem) (used : Nat) (hop : operating s = true) :
    (takeAll group serial items used s).2.channel.intake = s.channel.intake := by
  refine takeAll_keeps (P := fun t => t.channel.intake = s.channel.intake) group (fun n u t _ he h => ?_) (fun u h => ?_)
    serial items used s hop rfl
  · refine Eq.trans ?_ h
    obtain hc | hc | hc | hc := ChannelEvents.item_channel he <;> rw [hc]
    · exact channelAbandoned_intake _ _
    · rfl
  · exact (noticeMoment_placed _ u).intake.trans h

theorem answerRequest_intake (serial : Nat) (m : IntakeMessage) (s : State) :
    (answerRequest serial m s).channel.intake = s.channel.intake := by
  unfold answerRequest
  split
  · rfl
  · next hop =>
    split
    · rfl
    · exact takeAll_intake false serial _ 3 (by simpa using hop)

theorem answerGroup_intake (m : IntakeMessage) (s : State) : (answerGroup m s).channel.intake = s.channel.intake := by
  unfold answerGroup
  split
  · rfl
  · next hop =>
    split
    · rfl
    · exact takeAll_intake true _ _ 3 (by simpa using hop)

theorem executeRequest_intake (h : requestDue s = true) :
    (executeRequest s).channel.intake = s.channel.intake.tail := by
  unfold executeRequest
  split
  · rw [if_pos h, answerRequest_intake]
    exact (noticeMoment_placed 1 _).intake
  · next hnil => rw [hnil]; rfl

theorem executeGroup_intake (h : groupDue s = true) : (executeGroup s).channel.intake = s.channel.intake.tail := by
  unfold executeGroup
  split
  · rw [if_pos h, answerGroup_intake]
    rfl
  · next hnil => rw [hnil]; rfl

theorem executeHead_intake (h : headDue s) : (executeHead s).channel.intake = s.channel.intake.tail := by
  unfold executeHead
  split
  · next hgroup => exact executeGroup_intake hgroup
  · next hgroup => exact executeRequest_intake (h.resolve_left hgroup)

theorem serveIntake_intake (h : headDue s) : (serveIntake s).channel.intake = s.channel.intake.tail :=
  (noticeMoment_placed 0 _).intake.trans (executeHead_intake h)

/-- Where the head cannot be executed, the Notice Unit's moment does not change that. -/
theorem serveIntake_waits (h : ¬ headDue s) : ¬ headDue (serveIntake s) := by
  intro h'
  refine h ?_
  have hhead := (noticeMoment_placed 0 (executeHead s)).headDue h'
  rwa [executeHead_idle h] at hhead

theorem not_headDue_of_empty (h : s.channel.intake = []) : ¬ headDue s := by
  intro hdue
  obtain ⟨m, rest, hintake, -⟩ := headDue_iff.1 hdue
  rw [h] at hintake
  cases hintake

/-- Serving an intake of at most 2 messages twice leaves none that can be executed. -/
theorem serveIntake_twice (h : s.channel.intake.length ≤ 2) : ¬ headDue (serveIntake (serveIntake s)) := by
  by_cases hfirst : headDue s
  · by_cases hsecond : headDue (serveIntake s)
    · refine not_headDue_of_empty ?_
      rw [serveIntake_intake hsecond, serveIntake_intake hfirst, ← List.length_eq_zero_iff]
      simp only [List.length_tail]
      omega
    · exact serveIntake_waits hsecond
  · exact serveIntake_waits (serveIntake_waits hfirst)

/-! ### The quiet state -/

theorem quiet_iff :
    quiet s = true ↔
      StartTaken s ∧ abortDue s = false ∧ copyDue 0 s = false ∧ buildDue 0 s = false ∧ ¬ headDue s := by
  unfold quiet headDue
  simp only [Bool.and_eq_true, Bool.not_eq_true', startUnfinished_iff, not_or, Bool.not_eq_true, and_assoc]

theorem finishStart_idle (h : StartTaken s) : finishStart s = s := by
  have hfold : ∀ cs : List CheckerId, cs.foldl (fun s c => takeCheckEnd c s) s = s := by
    intro cs
    induction cs with
    | nil => rfl
    | cons c cs ih => rw [List.foldl_cons, takeCheckEnd_idle (h.check c), ih]
  rw [finishStart, takeCopyEnd_idle h.copy, hfold, takeSurveyEnd_idle h.survey, takeExpiry_idle h.expiry,
    beginAttempt_idle h.attempt]

theorem noticeMoment_idle (hcopy : copyDue 0 s = false) (hbuild : buildDue 0 s = false) : noticeMoment 0 s = s := by
  have hmoment : noticeMoment 0 s = buildNotice 0 (placeCopy 0 s) := rfl
  rw [hmoment, placeCopy_idle hcopy, buildNotice_idle hbuild]

theorem settle_idle (h : quiet s = true) : settle s = s := by
  obtain ⟨hstart, habort, hcopy, hbuild, hhead⟩ := quiet_iff.1 h
  have hserve : serveIntake s = s := by rw [serveIntake, executeHead_idle hhead, noticeMoment_idle hcopy hbuild]
  rw [settle, finishStart_idle hstart, storeOwedAbort_idle habort, noticeMoment_idle hcopy hbuild, hserve, hserve]

/-- What every piece of an execution keeps stands when the intake is served. -/
theorem serveIntake_keeps {P : State → Prop} (hP : ByExecution P) (h : P s) : P (serveIntake s) := by
  refine noticeMoment_keeps hP.build hP.place 0 _ ?_
  unfold executeHead
  split
  · exact executeGroup_keeps hP s h
  · exact executeRequest_keeps hP s h

theorem storeOwedAbort_intake (s : State) : (storeOwedAbort s).channel.intake = s.channel.intake := by
  unfold storeOwedAbort
  split <;> rfl

theorem StartTaken.moment (h : StartTaken s) (r : Nat) : StartTaken (noticeMoment r s) := (h.place r).build r

theorem storeOwedAbort_startTaken (h : StartTaken s) : StartTaken (storeOwedAbort s) :=
  h.congr (by simp) (by simp) (by simp) (by simp) (by simp)

theorem calm_intake (h : Calm s t) : t.channel.intake = s.channel.intake := by
  obtain hc | hc := h.channel <;> rw [hc]
  exact channelAbandoned_intake _ _

theorem finishStart_intake (s : State) : (finishStart s).channel.intake = s.channel.intake := by
  have hfold := foldl_calm (f := fun s c => takeCheckEnd c s) (fun c s => takeCheckEnd_calm c s) (List.finRange 4)
    (takeCopyEnd s)
  unfold finishStart
  generalize (List.finRange 4).foldl (fun s c => takeCheckEnd c s) (takeCopyEnd s) = v at hfold ⊢
  have hlater : (beginAttempt (takeExpiry (takeSurveyEnd v))).channel = v.channel := by simp
  rw [hlater, calm_intake hfold, ChannelEvents.takeCopyEnd_channel]

theorem finishStart_eq (s : State) :
    finishStart s =
      beginAttempt (takeExpiry (takeSurveyEnd
        (takeCheckEnd 3 (takeCheckEnd 2 (takeCheckEnd 1 (takeCheckEnd 0 (takeCopyEnd s))))))) := by
  have hfour : List.finRange 4 = [0, 1, 2, 3] := by decide
  simp only [finishStart, hfour, List.foldl_cons, List.foldl_nil]

/-- One round takes every step that is due. -/
theorem quiet_settle (h : s.channel.intake.length ≤ 2) : quiet (settle s) = true := by
  have hstart := (storeOwedAbort_startTaken (finishStart_taken s)).moment 0
  have habort := (noticeMoment_placed 0 (storeOwedAbort (finishStart s))).abortStored
    (abortDue_eq_false_iff.1 (storeOwedAbort_taken (finishStart s)))
  have hintake : (noticeMoment 0 (storeOwedAbort (finishStart s))).channel.intake = s.channel.intake := by
    rw [(noticeMoment_placed 0 _).intake, storeOwedAbort_intake, finishStart_intake]
  unfold settle
  generalize noticeMoment 0 (storeOwedAbort (finishStart s)) = u at hstart habort hintake ⊢
  have hplaced := noticeMoment_placesAll (executeHead (serveIntake u))
  exact quiet_iff.2 ⟨serveIntake_keeps startTaken_byExecution (serveIntake_keeps startTaken_byExecution hstart),
    abortDue_eq_false_iff.2 (serveIntake_keeps abortStored_byExecution (serveIntake_keeps abortStored_byExecution habort)),
    hplaced.1, hplaced.2, serveIntake_twice (hintake ▸ h)⟩

/-! ### Steps that change nothing are not due -/

theorem copyEnd_undue (h : takeCopyEnd s = s) : copyEndDue s = false := by rw [← h]; exact takeCopyEnd_taken s

theorem checkEnd_undue {c : CheckerId} (h : takeCheckEnd c s = s) : checkEndDue c s = false := by
  rw [← h]
  exact takeCheckEnd_taken c s

theorem surveyEnd_undue (h : takeSurveyEnd s = s) : surveyEndDue s = false := by rw [← h]; exact takeSurveyEnd_taken s

theorem expiry_undue (h : takeExpiry s = s) : expiryDue s = false := by rw [← h]; exact takeExpiry_taken s

theorem attempt_undue (h : beginAttempt s = s) : attemptDue s = false := by rw [← h]; exact beginAttempt_taken s

theorem abort_undue (h : storeOwedAbort s = s) : abortDue s = false := by rw [← h]; exact storeOwedAbort_taken s

/-- Where both of the Notice Unit's steps change nothing, so does its moment, after which nothing is due. -/
theorem notices_undue (hcopy : placeCopy 0 s = s) (hbuild : buildNotice 0 s = s) :
    copyDue 0 s = false ∧ buildDue 0 s = false := by
  have hmoment : noticeMoment 0 s = s := (congrArg (buildNotice 0) hcopy).trans hbuild
  rw [← hmoment]
  exact noticeMoment_placesAll s

/-- An execution shortens the intake. -/
theorem head_undue (hgroup : executeGroup s = s) (hrequest : executeRequest s = s) : ¬ headDue s := by
  intro hdue
  have htail : s.channel.intake = s.channel.intake.tail := by
    rcases hdue with h | h
    · rw [← executeGroup_intake h, hgroup]
    · rw [← executeRequest_intake h, hrequest]
  obtain ⟨m, rest, hintake, -⟩ := headDue_iff.1 hdue
  rw [hintake] at htail
  exact absurd (congrArg List.length htail) (by simp)

/-- The head of the intake is executed by the execution that its kind names. -/
theorem executeHead_eq (s : State) :
    executeHead s =
      match s.channel.intake with
      | m :: _ => if m.group then executeGroup s else executeRequest s
      | [] => executeRequest s := by
  unfold executeHead
  cases hintake : s.channel.intake with
  | nil => simp [groupDue, hintake]
  | cons m rest =>
    simp only
    split
    · next hdue =>
      rw [if_pos ((RequestRuns.groupDue_iff hintake).1 hdue).1]
    · next hundue =>
      split
      · next hgroup =>
        have hrequest : requestDue s = false := by simp [requestDue, hintake, hgroup]
        rw [executeGroup_undue (by simpa using hundue), executeRequest_undue hrequest]
      · rfl

/-- Settles O3: one round leaves nothing due, and what is not due changes nothing. -/
theorem emptyQueueTakesEveryDueStep : Obligations.EmptyQueueTakesEveryDueStep := by
  unfold Obligations.EmptyQueueTakesEveryDueStep
  rintro s steps take head rfl htake hhead
  have hmeaning : ∀ {c u v}, exec c u = .next v → take c u = v := fun {c u v} h =>
    Host.Outcome.next.inj ((htake c u).symm.trans h)
  have hcopyEnd : ∀ u, take .copyDone u = takeCopyEnd u := fun u => hmeaning rfl
  have hcheckEnd : ∀ c u, take (.checkDone c) u = takeCheckEnd c u := fun c u => hmeaning rfl
  have hsurveyEnd : ∀ u, take .surveyDone u = takeSurveyEnd u := fun u => hmeaning rfl
  have hexpiry : ∀ u, take .retransmissionTimerExpiry u = takeExpiry u := fun u => hmeaning rfl
  have hattempt : ∀ u, take .imageAttemptBegin u = beginAttempt u := fun u => hmeaning rfl
  have habort : ∀ u, take .owedAbortStored u = storeOwedAbort u := fun u => hmeaning rfl
  have hcopy : ∀ u, take .noticeCopyPlacement u = placeCopy 0 u := fun u => hmeaning rfl
  have hbuild : ∀ u, take .noticeMessageBuild u = buildNotice 0 u := fun u => hmeaning rfl
  have hrequest : ∀ u, take .requestExecution u = executeRequest (finishStart u) := fun u => hmeaning rfl
  have hgroup : ∀ u, take .groupCopyExecution u = executeGroup (finishStart u) := fun u => hmeaning rfl
  have hserve : ∀ u, StartTaken u → head u = serveIntake u := by
    intro u hu
    rw [hhead, hbuild, hcopy, serveIntake, executeHead_eq]
    refine congrArg (noticeMoment 0) ?_
    cases u.channel.intake with
    | nil => rw [hrequest, finishStart_idle hu]
    | cons m rest =>
      dsimp only
      split
      · rw [hgroup, finishStart_idle hu]
      · rw [hrequest, finishStart_idle hu]
  refine ⟨fun hpending => ?_, settle_idle, quiet_settle, ?_, ?_, ?_⟩
  · unfold step
    rw [hpending]
  · simp only [List.forall_mem_cons, List.not_mem_nil, false_implies, implies_true, and_true, hcopyEnd, hcheckEnd,
      hsurveyEnd, hexpiry, hattempt, habort, hcopy, hbuild, hrequest, hgroup]
    constructor
    · intro hquiet
      obtain ⟨hstart, hnoAbort, hnoCopy, hnoBuild, hnoHead⟩ := quiet_iff.1 hquiet
      obtain ⟨hnoGroup, hnoRequest⟩ := not_or.1 hnoHead
      rw [finishStart_idle hstart]
      exact ⟨takeCopyEnd_idle hstart.copy, takeCheckEnd_idle (hstart.check 0), takeCheckEnd_idle (hstart.check 1),
        takeCheckEnd_idle (hstart.check 2), takeCheckEnd_idle (hstart.check 3), takeSurveyEnd_idle hstart.survey,
        takeExpiry_idle hstart.expiry, beginAttempt_idle hstart.attempt, storeOwedAbort_idle hnoAbort,
        placeCopy_idle hnoCopy, buildNotice_idle hnoBuild, executeRequest_undue (by simpa using hnoRequest),
        executeGroup_undue (by simpa using hnoGroup)⟩
    · rintro ⟨h₁, hc₀, hc₁, hc₂, hc₃, h₂, h₃, h₄, h₅, h₆, h₇, h₈, h₉⟩
      have hchecks : ∀ c : CheckerId, checkEndDue c s = false := by
        intro c
        match c with
        | 0 => exact checkEnd_undue hc₀
        | 1 => exact checkEnd_undue hc₁
        | 2 => exact checkEnd_undue hc₂
        | 3 => exact checkEnd_undue hc₃
      have hstart : StartTaken s :=
        ⟨copyEnd_undue h₁, hchecks, surveyEnd_undue h₂, expiry_undue h₃, attempt_undue h₄⟩
      rw [finishStart_idle hstart] at h₈ h₉
      obtain ⟨hnoCopy, hnoBuild⟩ := notices_undue h₆ h₇
      exact quiet_iff.2 ⟨hstart, abort_undue h₅, hnoCopy, hnoBuild, head_undue h₉ h₈⟩
  · rw [hattempt, hexpiry, hsurveyEnd, hcheckEnd, hcheckEnd, hcheckEnd, hcheckEnd, hcopyEnd, finishStart_eq]
  · have hstart := (storeOwedAbort_startTaken (finishStart_taken s)).moment 0
    have hmoment : take .noticeMessageBuild (take .noticeCopyPlacement (take .owedAbortStored (finishStart s))) =
        noticeMoment 0 (storeOwedAbort (finishStart s)) := by
      rw [hbuild, hcopy, habort]
      rfl
    rw [hmoment, hserve _ hstart, hserve _ (serveIntake_keeps startTaken_byExecution hstart), settle]

end Sys2Proof.Quiet
end

section
/-! SUPPORT. The extent of the read of an image (R163): no octet behind the last one read could change the judgement. -/

namespace Sys2Proof.ImageStop

open Sys2Proof.Machine

variable {seen area octets octets' : List Octet} {n a : Nat} {k : Octet}

/-! ### The tests on the records that are still to come -/

/-- The kind octet of a record (Table 11-9). -/
def recordKind : ImageRecord → Octet
  | .device _ _ => 0x01#8
  | .lane _ => 0x02#8
  | .mapRange _ => 0x03#8

theorem readRecord_kind {raw : RawRecord} {r : ImageRecord} (h : readRecord raw = some r) : raw.kind = recordKind r := by
  unfold readRecord at h
  split_ifs at h with hdevice hlane hmap
  · split at h
    · obtain ⟨ss, -, rfl⟩ := Option.map_eq_some_iff.1 h
      exact hdevice
    · cases h
  · obtain ⟨ss, -, rfl⟩ := Option.map_eq_some_iff.1 h
    exact hlane
  · obtain ⟨run, -, rfl⟩ := Option.map_eq_some_iff.1 h
    exact hmap

/-- Records pass behind others of the kinds `seen`. -/
structure PassBehind (seen : List Octet) (rs : List ImageRecord) : Prop where
  devices : (if 0x01#8 ∈ seen then 1 else 0) + rs.countP isDevice ≤ 1
  lanes : (if 0x02#8 ∈ seen then 1 else 0) + rs.countP isLaneRecord ≤ 1
  named : rs.all identifiersAllowed = true
  values : rs.all valuesInRange = true

theorem passBehind_nil_iff {rs : List ImageRecord} : PassBehind [] rs ↔ recordsPass rs = true := by
  simp only [recordsPass, Bool.and_eq_true, decide_eq_true_eq]
  exact ⟨fun h => ⟨⟨⟨by simpa using h.devices, by simpa using h.lanes⟩, h.named⟩, h.values⟩,
    fun ⟨⟨⟨hd, hl⟩, hn⟩, hv⟩ => ⟨by simpa using hd, by simpa using hl, hn, hv⟩⟩

theorem kindFails_iff {r : ImageRecord} :
    kindFails seen (recordKind r) = false ↔ recordKind r = 0x03#8 ∨ recordKind r ∉ seen := by
  cases r <;> simp [kindFails, recordKind]

/-- The first record passes, and the others pass behind it. -/
theorem passBehind_cons {r : ImageRecord} {rs : List ImageRecord} :
    PassBehind seen (r :: rs) ↔
      kindFails seen (recordKind r) = false ∧ (identifiersAllowed r = true ∧ valuesInRange r = true) ∧
        PassBehind (recordKind r :: seen) rs := by
  have hkinds : ((if 0x01#8 ∈ seen then 1 else 0) + (r :: rs).countP isDevice ≤ 1 ∧
        (if 0x02#8 ∈ seen then 1 else 0) + (r :: rs).countP isLaneRecord ≤ 1) ↔
      kindFails seen (recordKind r) = false ∧
        (if 0x01#8 ∈ recordKind r :: seen then 1 else 0) + rs.countP isDevice ≤ 1 ∧
        (if 0x02#8 ∈ recordKind r :: seen then 1 else 0) + rs.countP isLaneRecord ≤ 1 := by
    rw [kindFails_iff]
    cases r with
    | device address ss =>
      have hdevice : (ImageRecord.device address ss :: rs).countP isDevice = rs.countP isDevice + 1 :=
        List.countP_cons_of_pos rfl
      have hlane : (ImageRecord.device address ss :: rs).countP isLaneRecord = rs.countP isLaneRecord :=
        List.countP_cons_of_neg Bool.false_ne_true
      rw [hdevice, hlane]
      by_cases hseen : 0x01#8 ∈ seen <;> simp [recordKind, hseen]
    | lane ss =>
      have hdevice : (ImageRecord.lane ss :: rs).countP isDevice = rs.countP isDevice :=
        List.countP_cons_of_neg Bool.false_ne_true
      have hlane : (ImageRecord.lane ss :: rs).countP isLaneRecord = rs.countP isLaneRecord + 1 :=
        List.countP_cons_of_pos rfl
      rw [hdevice, hlane]
      by_cases hseen : 0x02#8 ∈ seen <;> simp [recordKind, hseen]
    | mapRange run => simp [recordKind, isDevice, isLaneRecord]
  constructor
  · rintro ⟨hd, hl, hn, hv⟩
    obtain ⟨hkind, hd', hl'⟩ := hkinds.1 ⟨hd, hl⟩
    obtain ⟨hnr, hn⟩ := Bool.and_eq_true_iff.1 hn
    obtain ⟨hvr, hv⟩ := Bool.and_eq_true_iff.1 hv
    exact ⟨hkind, ⟨hnr, hvr⟩, hd', hl', hn, hv⟩
  · rintro ⟨hkind, ⟨hnr, hvr⟩, hd', hl', hn, hv⟩
    obtain ⟨hd, hl⟩ := hkinds.2 ⟨hkind, hd', hl'⟩
    exact ⟨hd, hl, Bool.and_eq_true_iff.2 ⟨hnr, hn⟩, Bool.and_eq_true_iff.2 ⟨hvr, hv⟩⟩

/-- The octets are `n` records that pass behind others of the kinds `seen`. -/
def AreaPasses (n : Nat) (seen area : List Octet) : Prop :=
  ∃ raws rs, takeRecords n area = some raws ∧ readRecords raws = some rs ∧ PassBehind seen rs

theorem areaPasses_zero : AreaPasses 0 seen area → area = [] := by
  rintro ⟨raws, rs, htaken, -, -⟩
  cases area with
  | nil => rfl
  | cons o rest => cases htaken

theorem passBehind_empty_of_nil : PassBehind seen [] := by
  refine ⟨?_, ?_, rfl, rfl⟩ <;> split <;> simp

theorem areaPasses_none : AreaPasses 0 seen [] := ⟨[], [], rfl, rfl, passBehind_empty_of_nil⟩

/-- A record has at least a kind and a length. -/
theorem areaPasses_length (h : AreaPasses (n + 1) seen area) : 3 ≤ area.length := by
  obtain ⟨raws, rs, htaken, -, -⟩ := h
  rcases area with _ | ⟨o, _ | ⟨hi, _ | ⟨lo, rest⟩⟩⟩
  case cons.cons.cons => simp
  all_goals cases htaken

theorem areaPasses_cons {hi lo : Octet} {rest : List Octet} :
    AreaPasses (n + 1) seen (k :: hi :: lo :: rest) ↔
      kindFails seen k = false ∧ (num2 hi lo).toNat ≤ rest.length ∧
        contentsPass ⟨k, rest.take (num2 hi lo).toNat⟩ = true ∧
        AreaPasses n (k :: seen) (rest.drop (num2 hi lo).toNat) := by
  constructor
  · rintro ⟨raws, rs, htaken, hread, hpass⟩
    rw [takeRecords] at htaken
    split at htaken
    · next hlen =>
      obtain ⟨later, hlater, rfl⟩ := Option.map_eq_some_iff.1 htaken
      rw [readRecords] at hread
      split at hread
      · next r rs' hr hrs' =>
        obtain rfl := Option.some.inj hread
        obtain ⟨hkind, htests, hrest⟩ := passBehind_cons.1 hpass
        have hk : k = recordKind r := readRecord_kind hr
        rw [← hk] at hkind hrest
        refine ⟨hkind, hlen, ?_, later, rs', hlater, hrs', hrest⟩
        rw [contentsPass, hr]
        exact Bool.and_eq_true_iff.2 htests
      · cases hread
    · cases htaken
  · rintro ⟨hkind, hlen, hcontents, raws, rs, htaken, hread, hpass⟩
    unfold contentsPass at hcontents
    split at hcontents
    · next r hr =>
      have hk : k = recordKind r := readRecord_kind hr
      rw [hk] at hkind hpass
      refine ⟨⟨k, rest.take (num2 hi lo).toNat⟩ :: raws, r :: rs, ?_, ?_,
        passBehind_cons.2 ⟨hkind, Bool.and_eq_true_iff.1 hcontents, hpass⟩⟩
      · rw [takeRecords, if_pos hlen, htaken]
        rfl
      · rw [readRecords, hr, hread]
    · cases hcontents

theorem areaPasses_kind {rest : List Octet} (h : AreaPasses (n + 1) seen (k :: rest)) : kindFails seen k = false := by
  have hlength := areaPasses_length h
  obtain ⟨hi, lo, rest, rfl⟩ : ∃ hi lo more, rest = hi :: lo :: more := by
    rcases rest with _ | ⟨hi, _ | ⟨lo, rest⟩⟩
    case cons.cons => exact ⟨hi, lo, rest, rfl⟩
    all_goals simp at hlength
  exact (areaPasses_cons.1 h).1

/-! ### Where the read of the records stops -/

/-- The octets that are read, `j` of the records' among them, show that the records fail. -/
def Refuted (n : Nat) (seen area : List Octet) (j : Nat) : Prop :=
  ∀ area' : List Octet, area'.length = area.length → area'.take j = area.take j → ¬ AreaPasses n seen area'

/-- Records that pass are read whole, and the check code behind them; a failure is shown by the octets read. -/
theorem recordsStop_cases (n : Nat) : ∀ (seen : List Octet) (a : Nat) (area : List Octet),
    (AreaPasses n seen area ∧ recordsStop n seen a area = a + area.length + 2) ∨
      ∃ j, recordsStop n seen a area = a + j ∧ Refuted n seen area j := by
  induction n with
  | zero =>
    intro seen a area
    rcases area with _ | ⟨o, rest⟩
    · exact .inl ⟨areaPasses_none, rfl⟩
    · refine .inr ⟨0, rfl, fun area' hlength _ hpass => ?_⟩
      rw [areaPasses_zero hpass] at hlength
      cases hlength
  | succ n ih =>
    intro seen a area
    rcases area with _ | ⟨k, area⟩
    · refine .inr ⟨0, rfl, fun area' hlength _ hpass => ?_⟩
      have := areaPasses_length hpass
      simp [hlength] at this
    · rw [recordsStop.eq_def]
      dsimp only
      split
      · next hkind =>
        refine .inr ⟨1, rfl, fun area' hlength htake hpass => ?_⟩
        obtain ⟨k', rest', rfl⟩ := List.exists_cons_of_length_eq_add_one hlength
        obtain rfl : k' = k := (List.cons.inj htake).1
        rw [areaPasses_kind hpass] at hkind
        cases hkind
      · next hkind =>
        rcases area with _ | ⟨hi, _ | ⟨lo, rest⟩⟩
        · refine .inr ⟨1, rfl, fun area' hlength _ hpass => ?_⟩
          have := areaPasses_length hpass
          simp [hlength] at this
        · refine .inr ⟨2, rfl, fun area' hlength _ hpass => ?_⟩
          have := areaPasses_length hpass
          simp [hlength] at this
        · have hshape : ∀ (area' : List Octet) (j : Nat), area'.length = (k :: hi :: lo :: rest).length →
              area'.take (j + 3) = (k :: hi :: lo :: rest).take (j + 3) →
              ∃ rest', area' = k :: hi :: lo :: rest' ∧ rest'.length = rest.length ∧ rest'.take j = rest.take j := by
            intro area' j hlength htake
            rcases area' with _ | ⟨k', _ | ⟨hi', _ | ⟨lo', rest'⟩⟩⟩
            case cons.cons.cons =>
              simp only [List.take_succ_cons, List.cons.injEq] at htake
              obtain ⟨rfl, rfl, rfl, htake⟩ := htake
              exact ⟨rest', rfl, by simpa using hlength, htake⟩
            all_goals simp at hlength
          dsimp only
          split
          · next hshort =>
            refine .inr ⟨3, rfl, fun area' hlength htake hpass => ?_⟩
            obtain ⟨rest', rfl, hrest, -⟩ := hshape area' 0 hlength htake
            have := (areaPasses_cons.1 hpass).2.1
            omega
          · next hlong =>
            split
            · next hcontents =>
              rcases ih (k :: seen) (a + 3 + (num2 hi lo).toNat) (rest.drop (num2 hi lo).toNat) with
                ⟨hpass, hstop⟩ | ⟨j, hstop, hrefuted⟩
              · refine .inl ⟨areaPasses_cons.2 ⟨by simpa using hkind, by omega, hcontents, hpass⟩, ?_⟩
                rw [hstop]
                simp only [List.length_cons, List.length_drop]
                omega
              · refine .inr ⟨(num2 hi lo).toNat + j + 3, by rw [hstop]; omega, fun area' hlength htake hpass => ?_⟩
                obtain ⟨rest', rfl, hrest, htake⟩ := hshape area' _ hlength htake
                obtain ⟨-, -, -, hlater⟩ := areaPasses_cons.1 hpass
                refine hrefuted _ (by simp [hrest]) ?_ hlater
                rw [List.take_drop, List.take_drop, htake]
            · next hcontents =>
              refine .inr ⟨(num2 hi lo).toNat + 3, by omega, fun area' hlength htake hpass => ?_⟩
              obtain ⟨rest', rfl, hrest, htake⟩ := hshape area' _ hlength htake
              obtain ⟨-, -, hpassed, -⟩ := areaPasses_cons.1 hpass
              rw [htake] at hpassed
              exact hcontents hpassed

/-! ### Where the read of the image stops -/

theorem imageArea_passes_iff :
    AreaPasses (flashOctet octets 3).toNat [] (flashOctets octets 6 (imageLength octets - 8)) ↔
      ∃ rs, imageRecords octets = some rs ∧ recordsPass rs = true := by
  unfold AreaPasses imageRecords
  simp only [Option.bind_eq_some_iff, passBehind_nil_iff]
  constructor
  · rintro ⟨raws, rs, htaken, hread, hpass⟩
    exact ⟨rs, ⟨raws, htaken, hread⟩, hpass⟩
  · rintro ⟨rs, ⟨raws, htaken, hread⟩, hpass⟩
    exact ⟨raws, rs, htaken, hread, hpass⟩

theorem flashOctets_congr (h : ∀ i < n, flashOctet octets' (a + i) = flashOctet octets (a + i)) :
    flashOctets octets' a n = flashOctets octets a n :=
  List.map_congr_left fun i hi => h i (List.mem_range.1 hi)

theorem flashOctets_zero (octets : List Octet) (n : Nat) :
    flashOctets octets 0 n = (List.range n).map fun a => octets.getD a 0xFF#8 :=
  List.map_congr_left fun i _ => congrArg (flashOctet octets) (Nat.zero_add i)

theorem flashOctets_take (octets : List Octet) (a n j : Nat) :
    (flashOctets octets a n).take j = flashOctets octets a (min j n) := by
  rw [flashOctets, ← List.map_take, List.take_range]
  rfl

theorem judgeImage_failed_of_header (hmarker : num2 (flashOctet octets 0) (flashOctet octets 1) = Config.imageMarker)
    (h : headerPasses octets = false) : judgeImage octets = .failed := by
  simp [judgeImage, hmarker, h]

/-- Records that fail make the image fail. -/
theorem judgeImage_failed_of_records (hmarker : num2 (flashOctet octets 0) (flashOctet octets 1) = Config.imageMarker)
    (h : ¬ ∃ rs, imageRecords octets = some rs ∧ recordsPass rs = true) : judgeImage octets = .failed := by
  unfold judgeImage
  rw [if_neg (by simp [hmarker])]
  split
  · rfl
  · split
    · rfl
    · next rs hrs =>
      have hfails : recordsPass rs = false := by
        by_contra hpass
        exact h ⟨rs, hrs, by simpa using hpass⟩
      simp [hfails]

/-- The judgement of an image is that of its octets up to its total length. -/
theorem judgeImage_congr (hlength : imageLength octets' = imageLength octets) (hlong : 8 ≤ imageLength octets)
    (h : ∀ a < imageLength octets, flashOctet octets' a = flashOctet octets a) : judgeImage octets' = judgeImage octets := by
  have hat : ∀ a < 8, flashOctet octets' a = flashOctet octets a := fun a ha => h a (by omega)
  have hheader : headerPasses octets' = headerPasses octets := by
    simp only [headerPasses, hlength, hat 2 (by omega)]
  have hrecords : imageRecords octets' = imageRecords octets := by
    simp only [imageRecords, hlength, hat 3 (by omega)]
    rw [flashOctets_congr fun i hi => h (6 + i) (by omega)]
  have hcheck : imageCheckGood octets' = imageCheckGood octets := by
    simp only [imageCheckGood, hlength, h (imageLength octets - 2) (by omega), h (imageLength octets - 1) (by omega)]
    rw [flashOctets_congr fun i hi => h (0 + i) (by omega)]
  simp only [judgeImage, hat 0 (by omega), hat 1 (by omega), hheader, hrecords, hcheck]

theorem readStop_of_marker (h : num2 (flashOctet octets 0) (flashOctet octets 1) ≠ Config.imageMarker) :
    readStop octets = 2 := if_pos h

theorem readStop_of_version (hmarker : num2 (flashOctet octets 0) (flashOctet octets 1) = Config.imageMarker)
    (h : flashOctet octets 2 ≠ 1#8) : readStop octets = 3 := by
  rw [readStop, if_neg (by simp [hmarker]), if_pos h]

theorem readStop_of_header (hmarker : num2 (flashOctet octets 0) (flashOctet octets 1) = Config.imageMarker)
    (hversion : flashOctet octets 2 = 1#8) (h : headerPasses octets = false) : readStop octets = 6 := by
  rw [readStop, if_neg (by simp [hmarker]), if_neg (by simp [hversion]), if_pos (by simp [h])]

theorem readStop_of_records (hmarker : num2 (flashOctet octets 0) (flashOctet octets 1) = Config.imageMarker)
    (h : headerPasses octets = true) :
    readStop octets =
      recordsStop (flashOctet octets 3).toNat [] 6 (flashOctets octets 6 (imageLength octets - 8)) := by
  have hversion := (ImageReading.headerPasses_iff.1 h).1
  rw [readStop, if_neg (by simp [hmarker]), if_neg (by simp [hversion]), if_neg (by simp [h])]

/-- The octets read settle the judgement. -/
theorem judgeImage_of_read (h : ∀ a < readStop octets, flashOctet octets' a = flashOctet octets a) :
    judgeImage octets' = judgeImage octets := by
  by_cases hmarker : num2 (flashOctet octets 0) (flashOctet octets 1) = Config.imageMarker
  case neg =>
    rw [readStop_of_marker hmarker] at h
    have hmarker' : num2 (flashOctet octets' 0) (flashOctet octets' 1) ≠ Config.imageMarker := by
      rwa [h 0 (by decide), h 1 (by decide)]
    rw [(ImageFacts.judgeImage_absent_iff octets).2 hmarker, (ImageFacts.judgeImage_absent_iff octets').2 hmarker']
  by_cases hversion : flashOctet octets 2 = 1#8
  case neg =>
    rw [readStop_of_version hmarker hversion] at h
    have hmarker' : num2 (flashOctet octets' 0) (flashOctet octets' 1) = Config.imageMarker := by
      rwa [h 0 (by decide), h 1 (by decide)]
    have hversion' : flashOctet octets' 2 ≠ 1#8 := by rwa [h 2 (by decide)]
    rw [judgeImage_failed_of_header hmarker (by simp [headerPasses, hversion]),
      judgeImage_failed_of_header hmarker' (by simp [headerPasses, hversion'])]
  have hsix : 6 ≤ readStop octets := by
    cases hheader : headerPasses octets with
    | false => exact (readStop_of_header hmarker hversion hheader).ge
    | true =>
      rw [readStop_of_records hmarker hheader]
      rcases recordsStop_cases (flashOctet octets 3).toNat [] 6 (flashOctets octets 6 (imageLength octets - 8)) with
        ⟨-, hstop⟩ | ⟨j, hstop, -⟩ <;> omega
  have hat : ∀ a < 6, flashOctet octets' a = flashOctet octets a := fun a ha => h a (by omega)
  have hmarker' : num2 (flashOctet octets' 0) (flashOctet octets' 1) = Config.imageMarker := by
    rwa [hat 0 (by decide), hat 1 (by decide)]
  have hlength : imageLength octets' = imageLength octets := by
    simp only [imageLength, hat 4 (by decide), hat 5 (by decide)]
  have hheader' : headerPasses octets' = headerPasses octets := by
    simp only [headerPasses, hlength, hat 2 (by decide)]
  cases hheader : headerPasses octets with
  | false =>
    rw [judgeImage_failed_of_header hmarker hheader, judgeImage_failed_of_header hmarker' (hheader'.trans hheader)]
  | true =>
    have hlong := (ImageReading.headerPasses_iff.1 hheader).2.1
    rw [readStop_of_records hmarker hheader] at h
    rcases recordsStop_cases (flashOctet octets 3).toNat [] 6 (flashOctets octets 6 (imageLength octets - 8)) with
      ⟨-, hstop⟩ | ⟨j, hstop, hrefuted⟩
    · rw [hstop, MapKept.flashOctets_length] at h
      exact judgeImage_congr hlength hlong fun a ha => h a (by omega)
    · rw [hstop] at h
      have hfails := hrefuted _ rfl rfl
      have hfails' : ¬ AreaPasses (flashOctet octets' 3).toNat [] (flashOctets octets' 6 (imageLength octets' - 8)) := by
        rw [hat 3 (by decide), hlength]
        refine hrefuted _ (by simp only [MapKept.flashOctets_length]) ?_
        rw [flashOctets_take, flashOctets_take]
        exact flashOctets_congr fun i hi => h (6 + i) (by omega)
      rw [judgeImage_failed_of_records hmarker (mt imageArea_passes_iff.2 hfails),
        judgeImage_failed_of_records hmarker' (mt imageArea_passes_iff.2 hfails')]

/-- A verified image is read whole. -/
theorem readStop_of_verified {im : Image} (h : judgeImage octets = .verified im) : readStop octets = imageLength octets := by
  obtain ⟨hmarker, hheader, rs, hrecords, hpass, -, -⟩ := ImageFacts.judgeImage_verified_iff.1 h
  have hlong := (ImageReading.headerPasses_iff.1 hheader).2.1
  have hpasses := imageArea_passes_iff.2 ⟨rs, hrecords, hpass⟩
  rw [readStop_of_records hmarker hheader]
  rcases recordsStop_cases (flashOctet octets 3).toNat [] 6 (flashOctets octets 6 (imageLength octets - 8)) with
    ⟨-, hstop⟩ | ⟨j, -, hrefuted⟩
  · rw [hstop, MapKept.flashOctets_length]
    omega
  · exact absurd hpasses (hrefuted _ rfl rfl)

/-- Whatever follows the octets read, the judgement is the same. -/
theorem judgeImage_read (octets more : List Octet) :
    judgeImage (flashOctets octets 0 (readStop octets) ++ more) = judgeImage octets := by
  refine judgeImage_of_read fun a ha => ?_
  rw [ImageReading.flashOctet_append_left (by rwa [MapKept.flashOctets_length])]
  simp [flashOctets]

end Sys2Proof.ImageStop
end

section
/-! SUPPORT. The settings of an image as they take effect (R165): each parameter's value, and the lanes that follow their
enables. -/

namespace Sys2Proof.ImageSettings

open Sys2Proof.Machine Sys2Proof.LaneSwitch Sys2Proof.LaneSwitched

variable {im : Image} {s t u : State} {p q : Param} {v : Num}

/-! ### The value of each parameter -/

/-- The value in force after the write of a parameter: NOTICE_MASK has its fixed bits. -/
def heldValue (p : Param) (v : Num) : Num := if p = .noticeMask then heldMask v else v

theorem paramValue_congr (hparams : t.params = s.params) (haddress : t.address = s.address)
    (hchannel : t.channel = s.channel) (hgenerators : t.generators = s.generators) :
    paramValue t p = paramValue s p := by
  cases p <;> simp only [paramValue, hparams, haddress, hchannel, hgenerators]

theorem paramValue_writeIngressEnable (v : Num) (u : State) (p : Param) :
    paramValue (writeIngressEnable v u) p = paramValue { u with params := { u.params with ingressEnable := v } } p := by
  have hframe := storeParam_frame u .ingressEnable v
  obtain ⟨-, -, -, hchannel, -, -, haddress, -⟩ := hframe
  exact paramValue_congr (ParamStores.writeIngressEnable_params v u) haddress hchannel
    (ParamStores.writeIngressEnable_generators v u)

theorem paramValue_storeParam_self (hp : p ∈ imageParams) : paramValue (storeParam p v u) p = heldValue p v := by
  cases p with
  | ingressEnable => exact paramValue_writeIngressEnable v u _
  | group i => exact Tab.get_set_self _ i v
  | deviceAddress => simp [imageParams] at hp
  | mgmtIngress => simp [imageParams] at hp
  | mgmtEgress => simp [imageParams] at hp
  | genKind g => simp [imageParams] at hp
  | _ => rfl

theorem paramValue_storeParam_ne (hq : q ∈ imageParams) (hne : p ≠ q) :
    paramValue (storeParam q v u) p = paramValue u p := by
  cases q with
  | ingressEnable =>
    refine (paramValue_writeIngressEnable v u p).trans ?_
    cases p <;> trivial
  | group i =>
    cases p with
    | group j => exact Tab.get_set_ne _ v fun hj => hne (by rw [hj])
    | _ => rfl
  | genKind g => simp [imageParams] at hq
  | _ => cases p <;> trivial

theorem appliedValue_congr (h : u.channel = s.channel) : appliedValue p im u = appliedValue p im s := by
  cases p <;> simp only [appliedValue, h]

theorem applyParam_channel (im : Image) (u : State) (p : Param) : (applyParam im u p).channel = u.channel := by
  unfold applyParam
  split
  · exact (storeParam_frame u p _).2.2.2.1
  · rfl

theorem paramValue_applyParam_ne (hq : q ∈ imageParams) (hne : p ≠ q) :
    paramValue (applyParam im u q) p = paramValue u p := by
  unfold applyParam
  split
  · exact paramValue_storeParam_ne hq hne
  · rfl

theorem paramValue_applyParam_self (hp : p ∈ imageParams) :
    paramValue (applyParam im u p) p = ((appliedValue p im u).map (heldValue p)).getD (paramValue u p) := by
  unfold applyParam
  cases appliedValue p im u with
  | none => rfl
  | some v => exact paramValue_storeParam_self hp

/-- Parameters that are not written stand. -/
theorem paramValue_foldl_notMem {ps : List Param} (hps : ∀ q ∈ ps, q ∈ imageParams) (hp : p ∉ ps) :
    ∀ u, paramValue (ps.foldl (applyParam im) u) p = paramValue u p := by
  induction ps with
  | nil => exact fun _ => rfl
  | cons q ps ih =>
    intro u
    obtain ⟨hne, hp⟩ := not_or.1 (mt List.mem_cons.2 hp)
    obtain ⟨hq, hps⟩ := List.forall_mem_cons.1 hps
    exact (ih hps hp _).trans (paramValue_applyParam_ne hq hne)

/-- Each parameter written takes the value the image gives it. -/
theorem paramValue_foldl_mem {ps : List Param} (hps : ∀ q ∈ ps, q ∈ imageParams) (hnodup : ps.Nodup) (hp : p ∈ ps) :
    ∀ u, paramValue (ps.foldl (applyParam im) u) p =
      ((appliedValue p im u).map (heldValue p)).getD (paramValue u p) := by
  induction ps with
  | nil => cases hp
  | cons q ps ih =>
    intro u
    obtain ⟨hnotMem, hnodupRest⟩ := List.nodup_cons.1 hnodup
    obtain ⟨hq, hrest⟩ := List.forall_mem_cons.1 hps
    rcases List.mem_cons.1 hp with rfl | hp
    · rw [List.foldl_cons, paramValue_foldl_notMem hrest hnotMem, paramValue_applyParam_self hq]
    · have hne : p ≠ q := fun heq => hnotMem (heq ▸ hp)
      rw [List.foldl_cons, ih hrest hnodupRest hp, appliedValue_congr (applyParam_channel im u q),
        paramValue_applyParam_ne hq hne]

theorem paramValue_applySettings (hp : p ∈ imageParams) :
    paramValue (applySettings im s) p = ((appliedValue p im s).map (heldValue p)).getD (paramValue s p) := by
  have hbase : paramValue (MapKept.settingsBase im s) p = paramValue s p := by
    cases p with
    | deviceAddress => simp [imageParams] at hp
    | _ => rfl
  have happlied : appliedValue p im (MapKept.settingsBase im s) = appliedValue p im s := appliedValue_congr rfl
  have hfold := paramValue_foldl_mem (im := im) (fun _ h => h) (by decide : imageParams.Nodup) hp
    (MapKept.settingsBase im s)
  rw [hbase, happlied] at hfold
  exact hfold

/-! ### The settings in their order: before the ingress enables, these, and behind them (log 8) -/

/-- The parameters applied before INGRESS_ENABLE. -/
def earlyParams : List Param := [.timingPrimary, .timingSecondary, .timingRevert, .qualifyFrames, .refinMiss]

/-- The parameters applied after INGRESS_ENABLE. -/
def lateParams : List Param :=
  [.egressEnable, .confirmCount, .missLimit, .noticeMask, .noticeWait, .noticeRetries, .group 0, .group 1, .group 2,
    .group 3]

theorem imageParams_eq : imageParams = earlyParams ++ .ingressEnable :: lateParams := rfl

theorem early_mem : ∀ q ∈ earlyParams, q ∈ imageParams := by decide

theorem late_mem : ∀ q ∈ lateParams, q ∈ imageParams := by decide

/-- Between two states only parameters have changed. -/
def OnlyParams (s t : State) : Prop := t = { s with params := t.params }

theorem OnlyParams.trans (h : OnlyParams s t) (h' : OnlyParams t u) : OnlyParams s u := by
  unfold OnlyParams at *
  rw [h']
  rw [h]

/-- A parameter whose write reaches no other block. -/
def paramAlone (p : Param) : Prop := ∀ v u, OnlyParams u (storeParam p v u)

theorem applyParam_onlyParams (hp : paramAlone p) (u : State) : OnlyParams u (applyParam im u p) := by
  unfold applyParam
  split
  · exact hp _ u
  · rfl

theorem foldl_onlyParams {ps : List Param} (hps : ∀ p ∈ ps, paramAlone p) :
    ∀ u, OnlyParams u (ps.foldl (applyParam im) u) := by
  induction ps with
  | nil => exact fun _ => rfl
  | cons p ps ih =>
    intro u
    obtain ⟨hp, hps⟩ := List.forall_mem_cons.1 hps
    exact (applyParam_onlyParams hp u).trans (ih hps _)

theorem late_alone : ∀ p ∈ lateParams, paramAlone p := by
  simp only [lateParams, List.forall_mem_cons, List.not_mem_nil, false_implies, implies_true, and_true]
  exact ⟨fun _ _ => rfl, fun _ _ => rfl, fun _ _ => rfl, fun _ _ => rfl, fun _ _ => rfl, fun _ _ => rfl, fun _ _ => rfl,
    fun _ _ => rfl, fun _ _ => rfl, fun _ _ => rfl⟩

theorem timing_alone : ∀ p ∈ [Param.timingPrimary, .timingSecondary, .timingRevert], paramAlone p := by
  simp only [List.forall_mem_cons, List.not_mem_nil, false_implies, implies_true, and_true]
  exact ⟨fun _ _ => rfl, fun _ _ => rfl, fun _ _ => rfl⟩

/-- The qualification records once the image's QUALIFY_FRAMES, if it carries one, has been applied (R44). -/
def requalifiedBy (frames : Option Num) (tm : Timing) : Timing :=
  match frames with
  | some v =>
    { tm with
      laneQual := Tab.ofFn fun l => requalified v (tm.laneQual.get l), refinQual := requalified v tm.refinQual }
  | none => tm

theorem applyParam_qualifyFrames (im : Image) (u : State) :
    applyParam im u .qualifyFrames =
      { u with
        params := (applyParam im u .qualifyFrames).params
        timing := requalifiedBy (imageValue .qualifyFrames im) u.timing } := by
  have happlied : appliedValue .qualifyFrames im u = imageValue .qualifyFrames im := rfl
  unfold applyParam
  rw [happlied]
  cases imageValue .qualifyFrames im <;> rfl

/-- The state in which the ingress enables of an image take effect. -/
def earlyState (im : Image) (s : State) : State := earlyParams.foldl (applyParam im) (MapKept.settingsBase im s)

theorem earlyState_eq (im : Image) (s : State) :
    earlyState im s =
      { MapKept.settingsBase im s with
        params := (earlyState im s).params, timing := requalifiedBy (imageValue .qualifyFrames im) s.timing } := by
  have hfirst : OnlyParams (MapKept.settingsBase im s)
      ([Param.timingPrimary, .timingSecondary, .timingRevert].foldl (applyParam im) (MapKept.settingsBase im s)) :=
    foldl_onlyParams timing_alone _
  have hsplit : earlyState im s =
      applyParam im (applyParam im
        ([Param.timingPrimary, .timingSecondary, .timingRevert].foldl (applyParam im) (MapKept.settingsBase im s))
        .qualifyFrames) .refinMiss := rfl
  generalize [Param.timingPrimary, .timingSecondary, .timingRevert].foldl (applyParam im) (MapKept.settingsBase im s) = a
    at hfirst hsplit
  have hmiddle := applyParam_qualifyFrames im a
  generalize applyParam im a .qualifyFrames = c at hmiddle hsplit
  have hlast : OnlyParams c (applyParam im c .refinMiss) := applyParam_onlyParams (p := .refinMiss) (fun _ _ => rfl) c
  rw [← hsplit] at hlast
  generalize earlyState im s = e at hlast
  unfold OnlyParams at hfirst hlast
  rw [hlast, hmiddle, hfirst]
  rfl

theorem applySettings_eq (im : Image) (s : State) :
    applySettings im s = lateParams.foldl (applyParam im) (applyParam im (earlyState im s) .ingressEnable) := rfl

/-! ### The lanes follow their enables -/

theorem turnsOff_self (w : Num) : turnsOff w w = fun _ => false := by
  funext l
  simp [turnsOff]

theorem turnsOn_self (w : Num) : turnsOn w w = fun _ => false := by
  funext l
  simp [turnsOn]

/-- INGRESS_ENABLE of the image takes effect, or it carries none and the lanes stand. -/
theorem switchedBy_applied (im : Image) (u : State) :
    SwitchedBy (turnsOff u.params.ingressEnable (applyParam im u .ingressEnable).params.ingressEnable)
      (turnsOn u.params.ingressEnable (applyParam im u .ingressEnable).params.ingressEnable)
      { u with params := { u.params with ingressEnable := (applyParam im u .ingressEnable).params.ingressEnable } }
      (applyParam im u .ingressEnable) := by
  unfold applyParam
  split
  · next v _ =>
    have hstored : storeParam .ingressEnable v u = writeIngressEnable v u := rfl
    rw [hstored, ParamStores.writeIngressEnable_params]
    exact switchedBy_writeIngressEnable v u
  · rw [turnsOff_self, turnsOn_self]
    exact switchedBy_none u

theorem choiceAtLoss_congr {tm : Timing} {a b : Params} (hprimary : a.timingPrimary = b.timingPrimary)
    (hsecondary : a.timingSecondary = b.timingSecondary) : choiceAtLoss tm a = choiceAtLoss tm b := by
  have hp : primarySource a = primarySource b := by simp only [primarySource, hprimary]
  have hs : secondarySource a = secondarySource b := by simp only [secondarySource, hprimary, hsecondary]
  simp only [choiceAtLoss, hp, hs]

/-- Of the second state the Notice Unit and the frame number tell which notices have been raised. -/
theorem noticesKept_of_onlyParams {may : NoticeKind → Subject → Bool} (h : NoticesKept may s t) (hlate : OnlyParams t u) :
    NoticesKept may s u := by
  unfold OnlyParams at hlate
  obtain ⟨hrest, hraised⟩ := h
  rw [hlate]
  exact ⟨hrest, hraised.stands, hraised.fresh, hraised.alert, hraised.lost, hraised.unraised⟩

theorem lanesSwitched_of_onlyParams {w : Num} (h : LanesSwitched w s t) (hlate : OnlyParams t u) : LanesSwitched w s u := by
  have hnotices := noticesKept_of_onlyParams h.notices hlate
  unfold OnlyParams at hlate
  rw [hlate] at hnotices ⊢
  exact ⟨h.lanes, h.stores, h.quals, h.timing, h.change, h.checkers, h.ended, h.survey, h.aborted, hnotices⟩

/-- The settings of an image switch the lanes as a write of INGRESS_ENABLE does, after QUALIFY_FRAMES has been applied. -/
theorem applySettings_switched (im : Image) (s : State) :
    LanesSwitched (applySettings im s).params.ingressEnable
      { s with
        params := { (applySettings im s).params with
          ingressEnable := s.params.ingressEnable, noticeMask := s.params.noticeMask }
        timing := requalifiedBy (imageValue .qualifyFrames im) s.timing }
      (applySettings im s) := by
  have hswitched := switchedBy_applied im (earlyState im s)
  have hearly := earlyState_eq im s
  have hlate : OnlyParams (applyParam im (earlyState im s) .ingressEnable) (applySettings im s) := by
    rw [applySettings_eq]
    exact foldl_onlyParams late_alone _
  have hbefore : ∀ p ∉ earlyParams, paramValue (earlyState im s) p = paramValue (MapKept.settingsBase im s) p :=
    fun p hp => paramValue_foldl_notMem early_mem hp _
  have hmiddle : ∀ p, p ≠ .ingressEnable →
      paramValue (applyParam im (earlyState im s) .ingressEnable) p = paramValue (earlyState im s) p :=
    fun p hp => paramValue_applyParam_ne (by decide) hp
  have hafter : ∀ p ∉ lateParams,
      paramValue (applySettings im s) p = paramValue (applyParam im (earlyState im s) .ingressEnable) p := by
    intro p hp
    rw [applySettings_eq]
    exact paramValue_foldl_notMem late_mem hp _
  have hingress : (earlyState im s).params.ingressEnable = s.params.ingressEnable := hbefore .ingressEnable (by decide)
  have hmask : (earlyState im s).params.noticeMask = s.params.noticeMask := hbefore .noticeMask (by decide)
  have hprimary : (earlyState im s).params.timingPrimary = (applySettings im s).params.timingPrimary :=
    ((hafter .timingPrimary (by decide)).trans (hmiddle .timingPrimary (by decide))).symm
  have hsecondary : (earlyState im s).params.timingSecondary = (applySettings im s).params.timingSecondary :=
    ((hafter .timingSecondary (by decide)).trans (hmiddle .timingSecondary (by decide))).symm
  have hvalue : (applyParam im (earlyState im s) .ingressEnable).params.ingressEnable =
      (applySettings im s).params.ingressEnable := (hafter .ingressEnable (by decide)).symm
  rw [hvalue, hingress] at hswitched
  refine lanesSwitched_of_onlyParams ?_ hlate
  generalize applyParam im (earlyState im s) .ingressEnable = w at hswitched
  generalize applySettings im s = final at *
  generalize earlyState im s = e at *
  refine lanesSwitched_of_switchedBy hswitched ?_ ?_ ?_ ?_ ?_ ?_ ?_ (choiceAtLoss_congr hprimary hsecondary)
  · rw [hearly]; rfl
  · rw [hearly]; rfl
  · rw [hearly]
  · rw [hearly]; rfl
  · rw [hearly]; rfl
  · rw [hearly]; rfl
  · exact hmask

/-- No setting of an image re-seeds a generator. -/
theorem applySettings_generators (im : Image) (s : State) : (applySettings im s).generators = s.generators := by
  refine MapKept.applySettings_keeps (P := fun u => u.generators = s.generators) im s (fun p hp u hu => ?_) rfl
  unfold applyParam
  split
  · rw [ParamStores.storeParam_generators, hu]
    cases p with
    | genKind g => simp [imageParams] at hp
    | _ => rfl
  · exact hu

end Sys2Proof.ImageSettings
end

section
/-! SUPPORT. The end of an attempt (R163 to R168), by the verdict on the octets read. -/

namespace Sys2Proof.AttemptEnd

open Sys2Proof.Machine Sys2Proof.MapKept Sys2Proof.ImageSettings

variable {octets : List Octet} {b s t : State} {im : Image} {v : Num} {l : LaneId}

/-! ### The read -/

/-- The octets an attempt reads (R163). -/
def readOctets (octets : List Octet) : List Octet := flashOctets octets 0 (readStop octets)

theorem readOctets_length (octets : List Octet) : (readOctets octets).length = readStop octets :=
  flashOctets_length octets 0 _

theorem readOctets_eq (octets : List Octet) :
    readOctets octets = (List.range (readOctets octets).length).map fun a => octets.getD a 0xFF#8 := by
  rw [readOctets_length]
  exact ImageStop.flashOctets_zero octets _

theorem attemptEnds_running (h : b.loader.engine.isSome) :
    attemptEnds octets b = concludeAttempt (judgeImage octets) (readState octets b) := if_pos h

theorem attemptEnds_idle (h : b.loader.engine = none) : attemptEnds octets b = b :=
  if_neg (by simp [attemptRunning, h])

/-- The loader with the octets read and the engine idle. -/
theorem loaderEnded_read (st : LoaderState) (r : LoadResult) :
    loaderEnded st r (readState octets b).loader =
      { b.loader with
        state := st, result := r, engine := none, taken := b.loader.taken ++ readOctets octets, next := .none } := by
  rw [readState_loader]
  rfl

theorem loaderWaits_read :
    loaderWaits (readState octets b).loader =
      { b.loader with engine := none, taken := b.loader.taken ++ readOctets octets, next := .awaitsStart } := by
  rw [readState_loader]
  rfl

theorem readState_kept (octets : List Octet) (b : State) :
    (readState octets b).loader.attempts = b.loader.attempts ∧ (readState octets b).loader.cause = b.loader.cause ∧
      (readState octets b).loader.resume = b.loader.resume := by
  rw [readState_loader]
  exact ⟨rfl, rfl, rfl⟩

/-! ### Ends without an image -/

/-- START_UP at the front of the list (R153): a full list loses its newest entry, which is counted. -/
theorem placeStartUp_eq (frame : Num) (data : List Octet) (n : NoticeUnit) :
    placeStartUp frame data n =
      { n with
        alert := true
        list :=
          { kind := .startUp, subject := .none, repeats := 1, frame := frame, data := data, carried := false } ::
            n.list.take 15
        lost := if n.list.length < 16 ∨ n.lost = 0xFFFF#16 then n.lost else n.lost + 1 } := by
  unfold placeStartUp
  by_cases hroom : n.list.length < 16
  · have htake : n.list.take 15 = n.list := List.take_of_length_le (by omega)
    rw [if_pos hroom, if_pos (.inl hroom), htake]
    rfl
  · have hlost : bump n.lost = if n.list.length < 16 ∨ n.lost = 0xFFFF#16 then n.lost else n.lost + 1 := by
      simp [bump, hroom]
    rw [if_neg hroom, hlost]
    rfl

theorem endReload_read (r : LoadResult) (b : State) :
    endReload r (readState octets b) =
      raise .reloadDone .none [resultOctet r, octetOf b.loader.attempts]
        { b with
          loader := { b.loader with
            state := b.loader.resume, result := r, engine := none, taken := b.loader.taken ++ readOctets octets
            next := .none } } := by
  obtain ⟨hattempts, -, hresume⟩ := readState_kept octets b
  unfold endReload
  rw [loaderEnded_read, hattempts, hresume]
  rfl

theorem endLoadEmpty_read (r : LoadResult) (b : State) :
    endLoadEmpty r (readState octets b) =
      { b with
        loader := { b.loader with
          state := .defaults, result := r, engine := none, taken := b.loader.taken ++ readOctets octets, next := .none }
        notices := placeStartUp b.timing.number
          [causeOctet b.loader.cause, resultOctet r, octetOf b.loader.attempts] b.notices } := by
  unfold endLoadEmpty raiseStartUp
  rw [loaderEnded_read]
  rfl

theorem endEmpty_read (r : LoadResult) (b : State) :
    endEmpty r (readState octets b) =
      if b.loader.state = .reloading then endReload r (readState octets b) else endLoadEmpty r (readState octets b) := by
  unfold endEmpty
  rw [readState_reloading]
  exact if_congr decide_eq_true_iff rfl rfl

/-! ### The map written by an image -/

/-- The map with the runs of an image in its SHADOW bank. -/
def mapWith (im : Image) (m : ConnectionMap) : ConnectionMap :=
  setShadow (im.runs.foldl (fun bank r => writeRun r bank) (shadowBank m)) m

theorem mapWith_frame (im : Image) (m : ConnectionMap) :
    (mapWith im m).active = m.active ∧ (mapWith im m).epoch = m.epoch ∧ (mapWith im m).copy = m.copy ∧
      activeBank (mapWith im m) = activeBank m ∧
      shadowBank (mapWith im m) = im.runs.foldl (fun bank r => writeRun r bank) (shadowBank m) := by
  simp [mapWith]

theorem mapWith_commit (im : Image) (m : ConnectionMap) : (mapWith im m).commit = m.commit := by simp [mapWith]

/-- A reload that ends with an image (R167, R168). -/
theorem endReload_loaded (im : Image) (b : State) :
    endReload .loaded (writeRuns im (readState octets b)) =
      raise .reloadDone .none [0x01#8, octetOf b.loader.attempts]
        { b with
          map := mapWith im b.map
          loader := { b.loader with
            state := b.loader.resume, result := .loaded, engine := none
            taken := b.loader.taken ++ readOctets octets, next := .none } } := by
  obtain ⟨hattempts, -, hresume⟩ := readState_kept octets b
  have hloader : (writeRuns im (readState octets b)).loader = (readState octets b).loader := rfl
  unfold endReload
  rw [hloader, loaderEnded_read, hattempts, hresume]
  rfl

/-- A start-up load that ends with an image (R165, R166): its settings, its map, and START_UP. -/
theorem applyImage_read (im : Image) (b : State) :
    applyImage im (readState octets b) =
      { applySettings im (readState octets b) with
        map := { mapWith im b.map with commit := .next }
        loader := { b.loader with
          state := .loaded, result := .loaded, engine := none, taken := b.loader.taken ++ readOctets octets
          next := .none }
        notices := placeStartUp (applySettings im (readState octets b)).timing.number
          [causeOctet b.loader.cause, 0x01#8, octetOf b.loader.attempts]
          (applySettings im (readState octets b)).notices } := by
  obtain ⟨hmap, -, -, -, hloader, -⟩ := applySettings_frame im (readState octets b)
  unfold applyImage raiseStartUp requestCommit writeRuns
  dsimp only
  rw [hmap, hloader, loaderEnded_read]
  rfl

/-! ### The lanes an image names -/

/-- The lane an image names for a management lane, the one in force included (R165). -/
def namedLane (p : Param) (im : Image) : Option LaneId := (imageValue p im).bind laneOfNum

theorem laneOfNum_eq_some_iff : laneOfNum v = some l ↔ v.toNat = l.val := by
  unfold laneOfNum
  split
  · rw [Option.some.injEq, Fin.ext_iff]
  · next hout =>
    have := l.isLt
    exact iff_of_false nofun (by omega)

theorem namedLane_eq_some_iff {p : Param} :
    namedLane p im = some l ↔ ∃ v, imageValue p im = some v ∧ v.toNat = l.val := by
  simp only [namedLane, Option.bind_eq_some_iff, laneOfNum_eq_some_iff]

theorem imageLane_eq (p : Param) (current : LaneId) (im : Image) :
    imageLane p current im = if namedLane p im = some current then none else namedLane p im := by
  have hlane : imageLane p current im = (namedLane p im).filter fun l => decide (l ≠ current) := rfl
  rw [hlane]
  cases namedLane p im with
  | none => simp
  | some l => by_cases h : l = current <;> simp [h]

theorem imageLane_isNone_iff {p : Param} {current : LaneId} :
    (imageLane p current im).isNone = true ↔ namedLane p im = none ∨ namedLane p im = some current := by
  rw [imageLane_eq]
  split
  · next h => simp [h]
  · next h => simp [h]

/-- The lane change an image holds (R122, R165). -/
theorem imageChange_eq (im : Image) (s : State) :
    imageChange im s =
      if (namedLane .mgmtIngress im = none ∨ namedLane .mgmtIngress im = some s.channel.mgmtIngress) ∧
          (namedLane .mgmtEgress im = none ∨ namedLane .mgmtEgress im = some s.channel.mgmtEgress) then none
      else
        some
          { ingress := if namedLane .mgmtIngress im = some s.channel.mgmtIngress then none else namedLane .mgmtIngress im
            egress := if namedLane .mgmtEgress im = some s.channel.mgmtEgress then none else namedLane .mgmtEgress im
            holder := .image, armed := false } := by
  unfold imageChange
  rw [← imageLane_eq, ← imageLane_eq]
  exact if_congr (and_congr imageLane_isNone_iff imageLane_isNone_iff) rfl rfl

/-- The bits of a mask with those of the management lanes forced (R165). -/
theorem forcedMask_bit (v : Num) (p : Param) (current l : LaneId) (im : Image) :
    (forcedMask v current (imageLane p current im)).getLsbD l.val =
      (v.getLsbD l.val || decide (l = current) || decide (namedLane p im = some l)) := by
  have hcurrent : (withLane v current).getLsbD l.val = (v.getLsbD l.val || decide (l = current)) :=
    ManagementKept.inMask_withLane v current l
  rw [imageLane_eq]
  split
  · next hnamed =>
    rw [forcedMask, hcurrent, hnamed]
    by_cases hl : l = current
    · simp [hl]
    · simp [hl, Ne.symm hl]
  · cases namedLane p im with
    | none => simpa [forcedMask] using hcurrent
    | some k =>
      have hnamed : (forcedMask v current (some k)).getLsbD l.val =
          ((withLane v current).getLsbD l.val || decide (l = k)) := ManagementKept.inMask_withLane _ k l
      rw [hnamed, hcurrent]
      simp [eq_comm]

/-! ### What the settings of an image make of the part -/

theorem applied_ingressEnable (im : Image) (s : State) (l : LaneId) :
    (applySettings im s).params.ingressEnable.getLsbD l.val =
      match imageValue .ingressEnable im with
      | some v =>
        v.getLsbD l.val || decide (l = s.channel.mgmtIngress) || decide (namedLane .mgmtIngress im = some l)
      | none => s.params.ingressEnable.getLsbD l.val := by
  have hvalue : (applySettings im s).params.ingressEnable = _ :=
    paramValue_applySettings (p := .ingressEnable) (by decide)
  rw [hvalue, appliedValue]
  cases imageValue .ingressEnable im with
  | none => rfl
  | some v => exact forcedMask_bit v .mgmtIngress _ l im

theorem applied_egressEnable (im : Image) (s : State) (l : LaneId) :
    (applySettings im s).params.egressEnable.getLsbD l.val =
      match imageValue .egressEnable im with
      | some v =>
        v.getLsbD l.val || decide (l = s.channel.mgmtEgress) || decide (namedLane .mgmtEgress im = some l)
      | none => s.params.egressEnable.getLsbD l.val := by
  have hvalue : (applySettings im s).params.egressEnable = _ :=
    paramValue_applySettings (p := .egressEnable) (by decide)
  rw [hvalue, appliedValue]
  cases imageValue .egressEnable im with
  | none => rfl
  | some v => exact forcedMask_bit v .mgmtEgress _ l im

/-- The parameters an image may carry, the management lanes and the enables apart. -/
theorem carried_cases {i : Octet} {p : Param} (hp : paramOf i = some p) (hlow : 2 ≤ i.toNat) (hhigh : i.toNat ≤ 19)
    (hlisted : i ∉ [7#8, 8#8, 9#8, 10#8]) : p ∈ imageParams ∧ p ≠ .ingressEnable ∧ p ≠ .egressEnable := by
  obtain rfl := ReadItems.eq_identifier hp
  cases p with
  | deviceAddress => exact absurd hlow (by decide)
  | mgmtIngress => exact absurd (by decide) hlisted
  | mgmtEgress => exact absurd (by decide) hlisted
  | ingressEnable => exact absurd (by decide) hlisted
  | egressEnable => exact absurd (by decide) hlisted
  | genKind g => fin_cases g <;> exact absurd hhigh (by decide)
  | group n => fin_cases n <;> decide
  | _ => decide

/-- The value in force of a parameter an image may carry, the enables apart. -/
theorem applied_value {i : Octet} {p : Param} (hp : paramOf i = some p) (hlow : 2 ≤ i.toNat) (hhigh : i.toNat ≤ 19)
    (hlisted : i ∉ [7#8, 8#8, 9#8, 10#8]) (im : Image) (s : State) :
    paramValue (applySettings im s) p =
      match imageValue p im with
      | some v => if p = .noticeMask then (v ||| 0x4001#16) &&& 0x7FFF#16 else v
      | none => paramValue s p := by
  obtain ⟨hmem, hingress, hegress⟩ := carried_cases hp hlow hhigh hlisted
  have happlied : appliedValue p im s = imageValue p im := by
    cases p with
    | ingressEnable => exact absurd rfl hingress
    | egressEnable => exact absurd rfl hegress
    | _ => rfl
  rw [paramValue_applySettings hmem, happlied]
  cases imageValue p im <;> rfl

/-- A qualification record once QUALIFY_FRAMES of the image has been applied (R44). -/
def reachesBy (frames : Option Num) (q : Qualification) : Qualification :=
  match frames with
  | some v => requalified v q
  | none => q

theorem requalifiedBy_eq (frames : Option Num) (tm : Timing) :
    requalifiedBy frames tm =
      { tm with
        laneQual := Tab.ofFn fun l => reachesBy frames (tm.laneQual.get l), refinQual := reachesBy frames tm.refinQual } := by
  cases frames with
  | none =>
    have hstands : (Tab.ofFn fun l => reachesBy none (tm.laneQual.get l)) = tm.laneQual := Tab.ofFn_get _
    rw [hstands]
    rfl
  | some v => rfl

/-- Map and loader have no part in the switching of lanes. -/
theorem lanesSwitched_elsewhere {w : Num} {s' t' : State} (h : LanesSwitched w s t)
    (hs : s = { s' with loader := s.loader }) (ht : t' = { t with map := t'.map, loader := t'.loader }) :
    LanesSwitched w s' t' := by
  rw [hs] at h
  rw [ht]
  exact ⟨h.lanes, h.stores, h.quals, h.timing, h.change, h.checkers, h.ended, h.survey, h.aborted,
    h.notices.1, h.notices.2.stands, h.notices.2.fresh, h.notices.2.alert, h.notices.2.lost, h.notices.2.unraised⟩

theorem lanesSwitched_number {w : Num} (h : LanesSwitched w s t) : t.timing.number = s.timing.number := by
  have hnumber := congrArg Timing.number h.timing
  exact hnumber

theorem lanesSwitched_lane {w : Num} (h : LanesSwitched w s t) (l : LaneId) :
    t.lanes.get l =
      match s.params.ingressEnable.getLsbD l.val, w.getLsbD l.val with
      | true, false => { s.lanes.get l with align := .off, confirmed := 0, missed := 0, assembly := none }
      | false, true => if (s.lanes.get l).align = .off then { s.lanes.get l with align := .seek } else s.lanes.get l
      | _, _ => s.lanes.get l := by
  rw [h.lanes]
  unfold turnsOff turnsOn
  cases s.params.ingressEnable.getLsbD l.val <;> cases w.getLsbD l.val <;> simp

/-! ### The ends of an attempt -/

/-- What the read of an attempt is, and where it stops (R163). -/
theorem readOctets_extent (octets : List Octet) :
    readOctets octets = (List.range (readOctets octets).length).map (fun a => octets.getD a 0xFF#8) ∧
      (readOctets octets).length ≤ 8192 ∧ (∀ more, judgeImage (readOctets octets ++ more) = judgeImage octets) ∧
      (octets.getD 0 0xFF#8 ++ octets.getD 1 0xFF#8 ≠ 0x5C1E#16 → (readOctets octets).length = 2) ∧
      (octets.getD 0 0xFF#8 ++ octets.getD 1 0xFF#8 = 0x5C1E#16 → octets.getD 2 0xFF#8 ≠ 1#8 →
        (readOctets octets).length = 3) ∧
      (octets.getD 0 0xFF#8 ++ octets.getD 1 0xFF#8 = 0x5C1E#16 → octets.getD 2 0xFF#8 = 1#8 →
        ((octets.getD 4 0xFF#8 ++ octets.getD 5 0xFF#8).toNat < 8 ∨
          8192 < (octets.getD 4 0xFF#8 ++ octets.getD 5 0xFF#8).toNat) → (readOctets octets).length = 6) ∧
      ∀ im, judgeImage octets = .verified im →
        (readOctets octets).length = (octets.getD 4 0xFF#8 ++ octets.getD 5 0xFF#8).toNat := by
  refine ⟨readOctets_eq octets, ?_, ImageStop.judgeImage_read octets, ?_⟩
  · rw [readOctets_length]
    exact readStop_le octets
  rw [readOctets_length]
  refine ⟨ImageStop.readStop_of_marker, ImageStop.readStop_of_version, fun hmarker hversion hlength => ?_,
    fun im him => ImageStop.readStop_of_verified him⟩
  refine ImageStop.readStop_of_header hmarker hversion (Bool.eq_false_iff.2 fun hheader => ?_)
  obtain ⟨-, hleast, hmost⟩ := ImageReading.headerPasses_iff.1 hheader
  have hlength : imageLength octets < 8 ∨ 8192 < imageLength octets := hlength
  omega

theorem concludeAttempt_failed (h : b.loader.attempts < 8) :
    concludeAttempt .failed (readState octets b) =
      { b with
        loader := { b.loader with
          engine := none, taken := b.loader.taken ++ readOctets octets, next := .awaitsStart } } := by
  unfold concludeAttempt
  rw [(readState_kept octets b).1]
  dsimp only
  rw [if_pos h, loaderWaits_read]
  rfl

theorem concludeAttempt_empty {verdict : Verdict} {r : LoadResult}
    (h : (verdict = .absent ∧ r = .absent) ∨ (verdict = .failed ∧ 8 ≤ b.loader.attempts ∧ r = .failed)) :
    concludeAttempt verdict (readState octets b) = endEmpty r (readState octets b) := by
  rcases h with ⟨rfl, rfl⟩ | ⟨rfl, hmany, rfl⟩
  · rfl
  · unfold concludeAttempt
    rw [(readState_kept octets b).1]
    exact if_neg (Nat.not_lt.2 hmany)

theorem concludeAttempt_verified (im : Image) (b : State) :
    concludeAttempt (.verified im) (readState octets b) =
      if b.loader.state = .reloading then endReload .loaded (writeRuns im (readState octets b))
      else applyImage im (readState octets b) := by
  unfold concludeAttempt
  rw [readState_reloading]
  exact if_congr decide_eq_true_iff rfl rfl

/-- A reload that ends with an image changes the map, the loader and the notice list alone (R167, R168). -/
theorem reloaded_facts (im : Image) (b : State) (read : List Octet) :
    ∀ t, t = raise .reloadDone .none [0x01#8, octetOf b.loader.attempts]
        { b with
          map := mapWith im b.map
          loader := { b.loader with
            state := b.loader.resume, result := .loaded, engine := none, taken := b.loader.taken ++ read
            next := .none } } →
      t.map = mapWith im b.map ∧
        t.loader = { b.loader with
          state := b.loader.resume, result := .loaded, engine := none, taken := b.loader.taken ++ read, next := .none } ∧
        t.params = b.params ∧ t.address = b.address ∧ t.lanes = b.lanes ∧ t.stores = b.stores ∧ t.channel = b.channel ∧
        t.dispatcher = b.dispatcher ∧ t.timing = b.timing ∧
        Raised 0 .reloadDone .none [0x01#8, octetOf b.loader.attempts] b t := by
  rintro t rfl
  exact ⟨by simp, by simp, by simp, by simp, by simp, by simp, by simp, by simp, by simp,
    Raising.raised_congr (Raising.raised_raise _ _ _ _) rfl rfl⟩

/-- Settles O51: the extent of the read, then each verdict by its end. -/
theorem attemptEndsByTheImagesVerdict : Obligations.AttemptEndsByTheImagesVerdict := by
  unfold Obligations.AttemptEndsByTheImagesVerdict
  intro octets s b started hb hstarted
  have hexec : exec (.imageAttemptEnd octets) s = .next (attemptEnds octets b) := by rw [← hb]; rfl
  have hplaced : ∀ data n, placeStartUp b.timing.number data n = started data n := fun data n =>
    (placeStartUp_eq _ data n).trans (hstarted data n).symm
  rw [hexec]
  refine ⟨fun h => by rw [attemptEnds_idle h], fun hrunning => ⟨readOctets octets, readOctets_extent octets, ?_⟩⟩
  rintro u rfl
  rw [attemptEnds_running hrunning]
  refine ⟨fun hfailed hfew => ?_, fun r hr => ?_, ?_⟩
  · rw [hfailed, concludeAttempt_failed hfew]
  · rw [concludeAttempt_empty hr, endEmpty_read, endReload_read, endLoadEmpty_read, hplaced]
  intro im carried lane him hcarried hlane
  obtain rfl : carried = fun p => imageValue p im := funext hcarried
  obtain rfl : lane = fun p => namedLane p im := by
    funext p
    ext l
    rw [hlane, namedLane_eq_some_iff]
  obtain ⟨hactive, hepoch, hcopy, hbank, hshadow⟩ := mapWith_frame im b.map
  rw [him, concludeAttempt_verified]
  refine ⟨_, rfl, ?_⟩
  by_cases hreload : b.loader.state = .reloading
  · rw [if_pos hreload, endReload_loaded]
    generalize ht : raise _ _ _ _ = t
    obtain ⟨hmap, hloader, hparams, haddress, hlanes, hstores, hchannel, hdispatcher, htiming, hraised⟩ :=
      reloaded_facts im b (readOctets octets) t ht.symm
    rw [hmap, hloader]
    exact ⟨rfl, rfl, rfl, hactive, hepoch, hcopy, hbank, hshadow, fun _ =>
      ⟨ht.symm, rfl, mapWith_commit im b.map, hparams, haddress, hlanes, hstores, hchannel, hdispatcher, htiming, hraised⟩,
      fun h => absurd hreload h⟩
  · have hswitched := applySettings_switched im (readState octets b)
    obtain ⟨-, hhold, hegress, hchannel, -, hstraps, hstarts, hdraws, hpending, hdispatcher, haddress⟩ :=
      applySettings_frame im (readState octets b)
    have hgenerators := applySettings_generators im (readState octets b)
    have hingress := applied_ingressEnable im (readState octets b)
    have hegressEnable := applied_egressEnable im (readState octets b)
    have hvalue : ∀ (i : Octet) (p : Param), paramOf i = some p → 2 ≤ i.toNat → i.toNat ≤ 19 →
        i ∉ [7#8, 8#8, 9#8, 10#8] → _ := fun i p hp hlow hhigh hlisted =>
      applied_value hp hlow hhigh hlisted im (readState octets b)
    rw [if_neg hreload, applyImage_read]
    generalize applySettings im (readState octets b) = f at *
    have hnumber : f.timing.number = b.timing.number := by
      have := lanesSwitched_number hswitched
      rw [requalifiedBy_eq] at this
      exact this
    rw [hnumber, hplaced]
    refine ⟨rfl, rfl, rfl, hactive, hepoch, hcopy, hbank, hshadow, fun h => absurd h hreload, fun _ =>
      ⟨rfl, rfl, haddress, ?_, fun l => ⟨hingress l, hegressEnable l, ?_⟩, hchannel, ?_, hgenerators, hhold, hegress, hstraps,
        hstarts, hdraws, hpending, f.notices, reachesBy (imageValue .qualifyFrames im), fun q => ?_, rfl, ?_⟩⟩
    · intro i p hp hlow hhigh hlisted
      refine (paramValue_congr (s := f) rfl rfl rfl rfl).trans ((hvalue i p hp hlow hhigh hlisted).trans ?_)
      rfl
    · exact lanesSwitched_lane hswitched l
    · rw [hdispatcher, imageChange_eq]
      rfl
    · dsimp only
      cases imageValue .qualifyFrames im <;> rfl
    · rw [requalifiedBy_eq] at hswitched
      exact lanesSwitched_elsewhere hswitched rfl rfl

end Sys2Proof.AttemptEnd
end
